-- ==== Sys2Proof/Word.lean ====
section
/-! DEFINITION. The plainest types of the model: bytes and words as the links and the carrier send them, and the
key and value tables in which every numbered record of the part is held. -/

namespace Sys2Proof

/-- One byte of a link frame, a frame header or a trailer (R33, R183). -/
abbrev Byte := BitVec 8

/-- A 16-bit value: a CRC, a flag selection or a mask (R34, R191). -/
abbrev Half := BitVec 16

/-- Records kept by number (channels, booths, slots, accounts): the entries that differ from the record's cleared
value, keys strictly rising. The operations over tables stand in Machine/Ops.lean. -/
abbrev Table (α : Type) := List (Nat × α)

/-- A desk, named "booth b desk d". -/
structure DeskId where
  booth : Nat
  desk : Nat
  deriving DecidableEq, Repr

end Sys2Proof
end

