-- ==== Sys2Proof/Syntax.lean ====
section
/-! DEFINITION. The commands of the part: one constructor for each row of spec/opcode_table.json, in the table's order.
A request's operands are its parameters as numbers, in the order its rule names them (R183); a value that the wire can
carry but the rule refuses is answered BAD_PARAMETER by the meaning, so it is not ruled out here. -/

namespace Sys2Proof

/-- The three links of R182. -/
inductive Link where
  | console | counter | desk
  deriving DecidableEq, Repr

/-- The two links that have a flag set and on which the five shared requests are taken (R182). -/
inductive MasterLink where
  | console | counter
  deriving DecidableEq, Repr

/-- The two links that are UARTs (R182, R185). -/
inductive UartLink where
  | counter | desk
  deriving DecidableEq, Repr

/-- One command: a request on a link, an expiry of a timer, or an event on a pin or a receiver. -/
inductive Instr where
  /-- POWER_ON, with the levels of the SLOTS and DESKS strap pins (R196). -/
  | powerOn (slotsHigh desksHigh : Bool)
  /-- RESET_PIN: the pin is asserted. -/
  | resetPin
  /-- RESET_PIN_RELEASE: the pin is released. -/
  | resetPinRelease
  | chSet (bank channel enabled lang quality fill : Nat)
  /-- BOOTH_SET: A and B channel 0 for absent; the preference list is a count and four code places (R183). -/
  | boothSet (bank booth present a b count c1 c2 c3 c4 desks : Nat)
  | bankClear (bank : Nat)
  | bankCopy (source target : Nat)
  | bankCheck (bank : Nat)
  /-- BANK_READ: item kind HEADER 0, CHANNEL 1, BOOTH 2, and the item number (R184). -/
  | bankRead (bank kind item : Nat)
  | start (bank : Nat)
  | standby
  | standbyFinalFrameEnd
  | settleTick
  | switch (bank : Nat)
  | frameBoundary
  | announce
  | announceEnd
  | lineMode (mode : Nat)
  | framerRead
  | handoverSet (ramp offer : Nat)
  | channelRead (channel : Nat)
  | forceOff (booth : Nat)
  | liveReset
  | boothRead (booth : Nat)
  | floorLang (code : Nat)
  | relaySet (hold : Nat)
  | sittingOpen
  | sittingClose
  | returnGrace (minutes : Nat)
  /-- SITTING_READ: item kind SUMMARY 0, BOOTH 1, and the item number (R184). -/
  | sittingRead (kind item : Nat)
  | tariffSet (grace unit rate cap fee loss deposit : Nat)
  | tallyRead
  | jnlRead
  | jnlAck (sequence : Nat)
  | rxQuery (link : MasterLink) (serial : Nat)
  | acctQuery (link : MasterLink) (account : Nat)
  | flagsRead (link : MasterLink)
  | flagsClear (link : MasterLink) (selection : Nat)
  | maskSet (link : MasterLink) (mask : Nat)
  | rxRegister (serial cls : Nat)
  | rxRegisterNext (serial cls : Nat)
  | rxWindow (first last mode : Nat)
  | rxReadNext
  | rxWithdraw (serial : Nat)
  | repaired (serial : Nat)
  | rackReport (serial result : Nat)
  | acctOpen (account kind limit credit : Nat)
  | acctLimit (account limit credit : Nat)
  | acctPay (account amount : Nat)
  | acctClose (account : Nat)
  | issue (serial account preset deposit : Nat)
  | rxPreset (serial lang : Nat)
  | rxReturn (serial : Nat)
  | lost (serial : Nat)
  | found (serial : Nat)
  | micOn (booth desk : Nat)
  | micOff (booth desk : Nat)
  | output (booth desk out : Nat)
  | coughOn (booth desk : Nat)
  | coughOff (booth desk : Nat)
  | signOn (booth desk interpreter : Nat)
  | signOff (booth desk : Nat)
  /-- SOURCE: mode AUTO 0, FLOOR 1, CH 2, and the channel, examined only for CH (R183). -/
  | source (booth desk mode channel : Nat)
  | poll (booth desk : Nat)
  | meterSecond
  | offerTimerExpiry (booth : Nat)
  | holdTimerExpiry (booth : Nat)
  | returnGraceExpiry
  | badCrcFrame (link : Link)
  /-- UNKNOWN_REQUEST: a valid frame, given by its request code and the parameter bytes after it, that LNK answers
  itself: the code is not in the link's set (check 2 of R187) or the length is wrong (check 3). -/
  | unknownRequest (link : Link) (code : Nat) (params : List Byte)
  | zeroLengthFrame (link : UartLink)
  /-- UART_GAP_TIMEOUT, with the byte that ends the gap (R185). -/
  | uartGapTimeout (link : UartLink) (byte : Byte)
  | uartFramingError (link : UartLink)
  | selectDeassert
  | answerSent (link : Link)
  deriving DecidableEq, Repr

end Sys2Proof
end

