-- ==== Sys2Proof/Config.lean ====
section
/-! DEFINITION. What the data book fixes for every part of this type, and the four values it leaves open. -/

namespace Sys2Proof.Config

/-- R34: "This book does not fix when each slot begins within the frame period, so the count at a cut may be any value
from 0 to SLOTS − 1." A FREE VALUE, one for each use; the trailer reduces it below SLOTS (log entry 10). -/
opaque slotsSentAtCut : Nat → Nat

/-- R34, R38: whether a cut falls in the frame that a boundary taken in the same instant began, of which no slot has
been sent: "ANNOUNCE and a frame boundary may reach the framer together, and either may be taken first." The commands
carry no instants, so this is a FREE VALUE, one for each use (log entry 10). -/
opaque cutWithBoundary : Nat → Bool

/-- R186: a console answer begins at the first, second or third byte clocked after the request; "Which of the three it
is, is not fixed". A FREE VALUE, one for each use; the link reduces it to 0, 1 or 2 filler bytes (log entry 11). -/
opaque answerDelay : Nat → Nat

/-- R183: an answer frame's length byte counts 2 to 255 body bytes; how an answer with a longer body is sent the book does
not say. A FREE VALUE: the bytes that such a body is sent as (log entry 14). -/
opaque longFrame : List Byte → List Byte

/-- The channel numbers that have entries, 1 to 31 (R4). -/
def channelNumbers : List Nat := List.range' 1 31

/-- The booth numbers, 1 to 31 (R5). -/
def boothNumbers : List Nat := List.range' 1 31

/-- The plan banks, 0 to 3 (R4). -/
def bankNumbers : List Nat := [0, 1, 2, 3]

/-- The settle interval of a start: 100 ms, 25 frame periods (R25). -/
def settlePeriods : Nat := 25

/-- Frame numbers count modulo 2^24 (R30). -/
def frameModulus : Nat := 16777216

/-- Plan numbers count modulo 256 (R30). -/
def planModulus : Nat := 256

/-- A channel's wait queue holds at most four entries (R62). -/
def queueSize : Nat := 4

/-- Slots of the receiver register (R120). -/
def registerSize : Nat := 2048

/-- Places of the account table (R138). -/
def accountPlaces : Nat := 512

/-- Language entries of the preset tally (R148). -/
def tallyPlaces : Nat := 64

/-- Entries of the journal (R170). -/
def journalSize : Nat := 1024

/-- Free entries closed to the hire side (R172). -/
def journalReserve : Nat := 32

/-- Occupancy at which JOURNAL_HIGH is raised (R174). -/
def journalHigh : Nat := 896

/-- Answers that a UART link's FIFO holds, the one in transmission included (R188). -/
def fifoSize : Nat := 4

/-- Greatest value of a 16-bit count (R107, R110, R191). -/
def max16 : Nat := 65535

/-- Greatest value of a 32-bit count (R106). -/
def max32 : Nat := 4294967295

/-- Greatest single charge (R165). -/
def maxCharge : Nat := 999999

/-- Greatest debt, invoice total and credit limit (R138). -/
def maxBalance : Nat := 9999999

end Sys2Proof.Config
end

