-- ==== Sys2Proof/Machine/State.lean ====
section
/-! DEFINITION. The state of the part, block by block, as plain data, and the state after power-on. A `Table` field
lists only records that differ from the cleared record named in the field's comment, keys rising. -/

namespace Sys2Proof.Machine

/-- Why a step stops with a fault. The data book gives every command an outcome, so no command faults and there is
no constructor. -/
inductive Fault where
  deriving DecidableEq, Repr

/-- Why a step has no meaning. -/
inductive Refusal where
  /-- Raised by exec's arm for a command the model has not reached; safe, since nothing is claimed about it. -/
  | notModelled (mnemonic : String)
  deriving DecidableEq, Repr

/-! ## Straps and plan store -/

/-- The strap pins as sampled at power-on (R196): high means 64 slots, or 3 desks. -/
structure Straps where
  slotsHigh : Bool := false
  desksHigh : Bool := false
  deriving DecidableEq, Repr

/-- R4: quality request, in the order of its values. -/
inductive Quality where
  | full | narrow | auto
  deriving DecidableEq, Repr

/-- R4: a channel entry of a bank; the field values given here are the cleared ones of R12. -/
structure ChannelEntry where
  enabled : Bool := false
  lang : Nat := 0
  quality : Quality := .auto
  floorFill : Bool := false
  deriving DecidableEq, Repr

/-- R5: a booth entry of a bank. The cleared entry has desks in use equal to the DESKS strap (R12). -/
structure BoothEntry where
  present : Bool := false
  a : Option Nat := none
  b : Option Nat := none
  prefs : List Nat := []
  desksInUse : Nat
  deriving DecidableEq, Repr

/-- R6: the status of a bank, in the order of its values. -/
inductive BankStatus where
  | empty | edited | valid | pending | onAir
  deriving DecidableEq, Repr

/-- R6: a channel's place in a stored allocation. -/
structure Place where
  first : Nat
  count : Nat
  deriving DecidableEq, Repr

/-- R4 to R6: a plan bank. Channel entries are cleared to `{}`, booth entries to desks in use DESKS. -/
structure Bank where
  status : BankStatus := .empty
  channels : Table ChannelEntry := []
  booths : Table BoothEntry := []
  alloc : Option (Table Place) := none
  deriving DecidableEq, Repr

/-! ## Carrier framer -/

/-- R24: the framer state, in the order of its values. -/
inductive FramerState where
  | standby | starting | onAir
  deriving DecidableEq, Repr

/-- R24: the override, in the order of its values. -/
inductive Override where
  | off | on | ending
  deriving DecidableEq, Repr

/-- R24: the boundary line mode, in the order of its values. -/
inductive LineMode where
  | off | every | change
  deriving DecidableEq, Repr

/-- What a slot or a feed carries (R47 to R49): a desk's signal at full gain, the sum of two desks at their gains in a
ramp, the floor input (floor slots, floor fill, feeds), the announcement input, or silence. A live desk that coughs
gives silence and is told apart because CHANNEL_READ tells it apart (R57). -/
inductive Signal where
  | silence
  | floor
  | announcement
  | desk (who : DeskId)
  | deskCough (who : DeskId)
  | ramp (outgoing : DeskId) (outGain : Nat) (incoming : DeskId) (inGain : Nat)
  deriving DecidableEq, Repr

/-- A frame on the carrier output: its header as sent (R33), its flags (R32), whether its beginning gave a pulse on the
boundary line (R41), and the content of its slots as fixed when it began (R46). -/
structure Frame where
  header : List Byte
  transition : Bool
  override : Bool
  pulse : Bool
  slots : List Signal
  deriving DecidableEq, Repr

/-- R24, with the frame in progress, the final frame that is completed after STANDBY (R28; its `slots` hold what the
rest of it carries, R48) and the last trailer sent (R34). -/
structure Framer where
  state : FramerState := .standby
  settle : Nat := 0
  frameNumber : Nat := 0
  planNumber : Nat := 0
  fragment : Nat := 0
  pendingSwitch : Option Nat := none
  override : Override := .off
  lineMode : LineMode := .off
  frame : Option Frame := none
  closing : Option Frame := none
  trailer : Option (List Byte) := none
  deriving DecidableEq, Repr

/-! ## Program mixer -/

/-- R45: a ramp record. -/
structure Ramp where
  outgoing : DeskId
  incoming : DeskId
  g0 : Nat
  k : Nat
  len : Nat
  deriving DecidableEq, Repr

/-- R45: a carriage record; cleared, no live desk and no ramp. -/
structure Carriage where
  live : Option DeskId := none
  ramp : Option Ramp := none
  deriving DecidableEq, Repr

/-- R45, R89: what a booth listens to. -/
inductive Source where
  | floor
  | channel (c : Nat)
  deriving DecidableEq, Repr

/-- R45: the mixer. A booth without an entry in `feedSource` has FLOOR; one without an entry in `feeds` carries the
floor input now (R49). -/
structure Mixer where
  carriage : Table Carriage := []
  feedSource : Table Source := []
  feeds : Table Signal := []
  rampLength : Nat := 12
  offerTimeout : Nat := 30
  deriving DecidableEq, Repr

/-! ## Booth and desk controller -/

/-- R59: a desk's output, in the order of its values. -/
inductive Output where
  | a | b
  deriving DecidableEq, Repr

/-- R59: a desk record; the values given here are those of power-on and the reset pin (R88). -/
structure Desk where
  output : Output := .a
  cough : Bool := false
  interpreter : Option Nat := none
  refused : Bool := false
  deriving DecidableEq, Repr

/-- R60: a booth's runtime record. `live` is the live desk and its channel; `pending` and `offer` are a desk and an
output; `offerTimer` is the seconds left while it runs. -/
structure BoothRun where
  live : Option (Nat × Nat) := none
  pending : Option (Nat × Output) := none
  offer : Option (Nat × Output) := none
  offerTimer : Option Nat := none
  deriving DecidableEq, Repr

/-- R61: a channel's runtime record: live holder and wait queue, oldest first. -/
structure ChannelRun where
  holder : Option DeskId := none
  queue : List DeskId := []
  deriving DecidableEq, Repr

/-- R59 to R61. `desks` is keyed by `deskKey` of Machine/Ops.lean; cleared records are `{}`. -/
structure Bdc where
  desks : Table Desk := []
  booths : Table BoothRun := []
  channels : Table ChannelRun := []
  deriving DecidableEq, Repr

/-! ## Relay resolver -/

/-- R89: a booth's source mode. -/
inductive SourceMode where
  | auto
  | floor
  | fixed (c : Nat)
  deriving DecidableEq, Repr

/-- R89: a booth's relay status, in the order of its values. -/
inductive RelayStatus where
  | ok | noRelay | silent | holding
  deriving DecidableEq, Repr

/-- R89: a booth's relay record; the values given here are those of power-on (R105). -/
structure RelayRec where
  mode : SourceMode := .auto
  source : Source := .floor
  depth : Nat := 0
  status : RelayStatus := .ok
  timer : Option Nat := none
  deriving DecidableEq, Repr

/-- R89, R90: the resolver; `producers` is its own copy of the producing booth of each producing channel. -/
structure Relay where
  floorLang : Nat := 0
  hold : Nat := 4
  booths : Table RelayRec := []
  producers : Table Nat := []
  deriving DecidableEq, Repr

/-! ## Meter and sitting unit -/

/-- R107: the sitting record. -/
structure Sitting where
  isOpen : Bool := false
  number : Nat := 0
  openTime : Option Nat := none
  closeTime : Option Nat := none
  turns : Nat := 0
  onAir : Nat := 0
  folded : Nat := 0
  issues : Nat := 0
  returns : Nat := 0
  revenue : Nat := 0
  deriving DecidableEq, Repr

/-- R110: an open turn; its booth is its key in the open turn table. -/
structure Turn where
  desk : Nat
  interpreter : Option Nat
  channel : Nat
  quality : Quality
  start : Nat
  onAir : Nat := 0
  held : Nat := 0
  relay : Nat := 0
  deriving DecidableEq, Repr

/-- R114: a booth's sitting totals. -/
structure Totals where
  onAir : Nat := 0
  held : Nat := 0
  relay : Nat := 0
  foldedTurns : Nat := 0
  foldedSeconds : Nat := 0
  deriving DecidableEq, Repr

/-- R106 to R116: the meter unit. -/
structure Meter where
  time : Nat := 0
  sitting : Sitting := {}
  turns : Table Turn := []
  totals : Table Totals := []
  graceSetting : Nat := 30
  graceTimer : Option Nat := none
  deriving DecidableEq, Repr

/-! ## Receiver register -/

/-- R120: receiver class, in the order of its values. -/
inductive RxClass where
  | standard | assistive
  deriving DecidableEq, Repr

/-- R120: receiver state, in the order of its values. -/
inductive RxState where
  | charging | available | onHire | overdue | lost | faulty
  deriving DecidableEq, Repr

/-- R120: last rack result, in the order of its values. -/
inductive RackResult where
  | none | charged | fault
  deriving DecidableEq, Repr

/-- R120: the six hire fields, present in ON_HIRE and OVERDUE. -/
structure HireFields where
  account : Nat
  preset : Nat
  issueTime : Nat
  issueSitting : Nat
  openAtIssue : Bool
  deposit : Nat
  deriving DecidableEq, Repr

/-- R120: a receiver record. -/
structure Receiver where
  serial : Nat
  cls : RxClass
  state : RxState := .charging
  hire : Option HireFields := none
  orphaned : Bool := false
  lifetimeHires : Nat := 0
  lastRack : RackResult := .none
  deriving DecidableEq, Repr

/-- R125: the registration window with its two cursors; the values given here are those of power-on. -/
structure Window where
  first : Nat := 0
  last : Nat := 2047
  wrap : Bool := false
  write : Nat := 0
  read : Nat := 0
  deriving DecidableEq, Repr

/-- R120, R125: the register; a slot without an entry is free. -/
structure Register where
  slots : Table Receiver := []
  window : Window := {}
  deriving DecidableEq, Repr

/-! ## Hire account controller -/

/-- R138: account kind, in the order of its values. -/
inductive AccountKind where
  | personal | delegation
  deriving DecidableEq, Repr

/-- R138: an account record, keyed by its number. `balance` is the debt of a PERSONAL account and the invoice_total of
a DELEGATION account; `credit` is kept for a DELEGATION account only and is 0 otherwise (R140). -/
structure Account where
  kind : AccountKind
  blocked : Bool := false
  limit : Nat
  outCount : Nat := 0
  balance : Nat := 0
  credit : Nat := 0
  deposits : Nat := 0
  deriving DecidableEq, Repr

/-- R145: the tariff with its power-on values. -/
structure Tariff where
  grace : Nat := 10
  unit : Nat := 60
  rate : Nat := 0
  cap : Nat := 0
  fee : Nat := 0
  loss : Nat := 0
  deposit : Nat := 0
  deriving DecidableEq, Repr

/-- R148: the preset tally: language entries with their counts, and OTHER. -/
structure Tally where
  langs : Table Nat := []
  other : Nat := 0
  deriving DecidableEq, Repr

/-- R138, R145, R148: the hire account controller; a number without an entry in `accounts` has no account. -/
structure Hire where
  accounts : Table Account := []
  tariff : Tariff := {}
  tally : Tally := {}
  deriving DecidableEq, Repr

/-! ## Accounting journal -/

/-- R112: why a turn ended; the code on the wire is one more than the place in this list (R180). -/
inductive Reason where
  | release | handover | output | signOn | forced | switch | liveReset | sittingClose
  deriving DecidableEq, Repr

/-- R179: by which path a receiver came back. -/
inductive ReturnPath where
  | counter | rack
  deriving DecidableEq, Repr

/-- R178: the body of a TURN entry. -/
structure TurnBody where
  sitting : Nat
  booth : Nat
  turn : Turn
  finish : Nat
  reason : Reason
  deriving DecidableEq, Repr

/-- R179: the body common to HIRE and LOSS entries. -/
structure HireBody where
  serial : Nat
  account : Nat
  cls : RxClass
  kind : AccountKind
  issueTime : Nat
  returnTime : Nat
  duration : Nat
  units : Nat
  time : Nat
  sittings : Nat
  fee : Nat
  charge : Nat
  deposit : Nat
  refund : Nat
  /-- The shortfall of a PERSONAL account, the invoice total after settlement of a DELEGATION account. -/
  owed : Nat
  orphaned : Bool
  deriving DecidableEq, Repr

/-- R178: the body of a SITTING entry. -/
structure SittingBody where
  number : Nat
  openTime : Nat
  closeTime : Nat
  turns : Nat
  onAir : Nat
  folded : Nat
  issues : Nat
  returns : Nat
  revenue : Nat
  deriving DecidableEq, Repr

/-- R170: the kinds of entry with their bodies. -/
inductive EntryBody where
  | turn (b : TurnBody)
  | hire (b : HireBody) (path : ReturnPath)
  | loss (b : HireBody) (lossPart : Nat)
  | found (serial : Nat)
  | account (number : Nat) (kind : AccountKind) (balance : Nat)
  | sitting (b : SittingBody)
  deriving DecidableEq, Repr

/-- R170: a journal entry. -/
structure Entry where
  seq : Nat
  time : Nat
  body : EntryBody
  deriving DecidableEq, Repr

/-- R170, R173: the ring, oldest first, and the sequence counter. -/
structure Journal where
  entries : List Entry := []
  next : Nat := 1
  deriving DecidableEq, Repr

/-! ## Link interface -/

/-- R191, R192: a link's flag set: states and mask by bit number, counts by bit number (cleared 0). -/
structure FlagSet where
  states : Half := 0
  counts : Table Nat := []
  mask : Half
  deriving DecidableEq, Repr

/-- R189: the answer codes; their values on the wire are `AnswerCode.value` of Machine/Operands.lean. -/
inductive AnswerCode where
  | done | accepted | offered | waiting | endOfWindow | empty
  | badLength | unknownRequest | badParameter
  | notOnAir | wrongState | bankLocked | planInvalid | overBudget | switchPending | already | notActive
  | sittingOpen | sittingClosed | badDesk | channelUnassigned | boothBusy | queueFull | notLive | idInUse | ownChannel
  | noSuchReceiver | duplicate | registerFull | windowFull | notOnHire | accountUnknown | accountBlocked
  | limitReached | limitBelowOut | depositShort | noSuchLanguage | tableFull | receiversOut | journalFull
  | tariffInUse | sequenceMismatch
  deriving DecidableEq, Repr

/-- A result field of an answer: its width in bytes and its value, or none where the rule says absent (log entry 13). -/
structure Field where
  width : Nat
  value : Option Nat
  deriving DecidableEq, Repr

/-- R183, R188: an answer as formed when the request is taken. -/
structure Answer where
  request : Nat
  code : AnswerCode
  fields : List Field
  deriving DecidableEq, Repr

/-- R185: a link's receiver: hunting for a start byte, a frame begun whose length byte is the next, or the length byte
and the body and CRC bytes taken after it. -/
inductive Receive where
  | hunting
  | begun
  | body (length : Byte) (taken : List Byte)
  deriving DecidableEq, Repr

/-- R186: the console's select period: whether the one frame it carries is over, the answer still to be clocked out, the
number of 0x00 bytes between the request and that answer, the receiver, how many of these bytes and the answer's have
been shifted out, and the byte shifted out last. None is shifted out before a byte is clocked in, nor while the data
output is not driven. -/
structure ConsoleLink where
  period : Bool := false
  answer : Option Answer := none
  filler : Nat := 0
  receive : Receive := .hunting
  sent : Nat := 0
  out : Option Byte := none
  deriving DecidableEq, Repr

/-- R185, R188: a UART link: its receiver and its answer FIFO, the answer in transmission first. -/
structure UartState where
  receive : Receive := .hunting
  fifo : List Answer := []
  deriving DecidableEq, Repr

/-- R182 to R197: the link interface; masks have all assigned bits 1 after power-on (R197). -/
structure Links where
  consoleFlags : FlagSet := ⟨0, [], 0x07FF⟩
  counterFlags : FlagSet := ⟨0, [], 0x000F⟩
  console : ConsoleLink := {}
  counter : UartState := {}
  desk : UartState := {}
  deriving DecidableEq, Repr

/-! ## The whole part -/

/-- A byte that reaches a link's receiver (R183). -/
structure Arrival where
  link : Link
  byte : Byte
  deriving DecidableEq, Repr

/-- Everything the part holds, and the queues of the commands and of the bytes that wait for it. -/
structure State where
  straps : Straps := {}
  /-- PLS: banks 0 to 3; a bank without an entry is EMPTY and cleared. -/
  banks : Table Bank := []
  framer : Framer := {}
  mixer : Mixer := {}
  bdc : Bdc := {}
  relay : Relay := {}
  meter : Meter := {}
  register : Register := {}
  hire : Hire := {}
  journal : Journal := {}
  links : Links := {}
  /-- The reset pin is asserted (R106, R197). -/
  resetHeld : Bool := false
  /-- The model's own: which free value of Config is used next (log entry 12). -/
  freeIndex : Nat := 0
  /-- The model's own: the commands that wait, first in, first out. -/
  pending : List Instr := []
  /-- The model's own: the bytes that reach the links, first in, first out (log entry 9). -/
  arriving : List Arrival := []
  deriving DecidableEq, Repr

/-- The part right after power-on (R23, R43, R58, R88, R105, R119, R136, R157, R181, R197), its strap pins low
(DESIGN CHOICE, unsafe, log entry 5), the reset pin released, no command and no byte waiting. -/
def State.reset : State := {}

end Sys2Proof.Machine
end

