-- ==== Sys2Proof/Machine/Ops.lean ====
section
/-! DEFINITION. The named operations that the meanings share: tables, counters, updates of one block of the state,
records by number, byte order and the CRC, and the taking and answering of requests. -/

namespace Sys2Proof.Machine

/-- The outcome of a command. -/
abbrev Result := Host.Outcome State Fault Refusal

end Sys2Proof.Machine

namespace Sys2Proof

/-! ## Tables -/

/-- The record with number `k`, if the table lists one. -/
def Table.fetch? {α : Type} : Table α → Nat → Option α
  | [], _ => none
  | (j, v) :: t, k => if k = j then some v else Table.fetch? t k

/-- The record with number `k`, `d` where none is listed. -/
def Table.fetch {α : Type} (d : α) (t : Table α) (k : Nat) : α := (Table.fetch? t k).getD d

/-- The table without a record of number `k`. -/
def Table.remove {α : Type} (t : Table α) (k : Nat) : Table α := t.filter fun e => e.1 != k

/-- A record put in the place its number has among rising numbers. -/
def Table.place {α : Type} : Table α → Nat → α → Table α
  | [], k, v => [(k, v)]
  | (j, w) :: t, k, v => if k < j then (k, v) :: (j, w) :: t else (j, w) :: Table.place t k v

/-- The table with record `k` written. -/
def Table.insert {α : Type} (t : Table α) (k : Nat) (v : α) : Table α := Table.place (Table.remove t k) k v

/-- The table with record `k` written, kept unlisted where it equals the cleared record `d`. -/
def Table.store {α : Type} [DecidableEq α] (d : α) (t : Table α) (k : Nat) (v : α) : Table α :=
  if v = d then Table.remove t k else Table.insert t k v

/-- The table with each record of `ks` written by `f`. -/
def Table.fill {α : Type} [DecidableEq α] (d : α) (f : Nat → α) : List Nat → Table α → Table α
  | [], t => t
  | k :: ks, t => Table.fill d f ks (Table.store d t k (f k))

/-- The canonical form: numbers strictly rising, no record equal to the cleared one. -/
def Table.wf {α : Type} [DecidableEq α] (d : α) (t : Table α) : Bool :=
  decide (t.Pairwise fun x y => x.1 < y.1) && t.all fun e => decide (e.2 ≠ d)

end Sys2Proof

namespace Sys2Proof.Machine

/-! ## Counters -/

/-- R1: a counter described as saturating stays at its upper limit. -/
def satAdd (limit n amount : Nat) : Nat := min limit (n + amount)

/-- R1: a setting described as clamped takes the nearest value in its range. -/
def clamp (low high n : Nat) : Nat := min high (max low n)

/-! ## Updates of one block -/

def State.setStraps (s : State) (x : Straps) : State := { s with straps := x }
def State.setBanks (s : State) (x : Table Bank) : State := { s with banks := x }
def State.setFramer (s : State) (x : Framer) : State := { s with framer := x }
def State.setMixer (s : State) (x : Mixer) : State := { s with mixer := x }
def State.setBdc (s : State) (x : Bdc) : State := { s with bdc := x }
def State.setRelay (s : State) (x : Relay) : State := { s with relay := x }
def State.setMeter (s : State) (x : Meter) : State := { s with meter := x }
def State.setRegister (s : State) (x : Register) : State := { s with register := x }
def State.setHire (s : State) (x : Hire) : State := { s with hire := x }
def State.setJournal (s : State) (x : Journal) : State := { s with journal := x }
def State.setLinks (s : State) (x : Links) : State := { s with links := x }
def State.setHeld (s : State) (x : Bool) : State := { s with resetHeld := x }
def State.setFree (s : State) (x : Nat) : State := { s with freeIndex := x }
def State.setPending (s : State) (x : List Instr) : State := { s with pending := x }
def State.setArriving (s : State) (x : List Arrival) : State := { s with arriving := x }

/-! ## Straps, banks and the plan on air -/

/-- R196: slots per frame, 48 or 64. -/
def State.slots (s : State) : Nat := if s.straps.slotsHigh then 64 else 48

/-- R16: the language slot budget, SLOTS − 2. -/
def State.budget (s : State) : Nat := s.slots - 2

/-- R196: desks per booth, 2 or 3. -/
def State.desksPerBooth (s : State) : Nat := if s.straps.desksHigh then 3 else 2

/-- Plan bank `k` (R4). -/
def State.bank (s : State) (k : Nat) : Bank := Table.fetch {} s.banks k

/-- The state with plan bank `k` replaced. -/
def State.setBank (s : State) (k : Nat) (x : Bank) : State := s.setBanks (Table.store {} s.banks k x)

/-- R4: the entry of channel `c`. -/
def Bank.channel (p : Bank) (c : Nat) : ChannelEntry := Table.fetch {} p.channels c

/-- R12: the cleared booth entry, desks in use equal to the DESKS strap. -/
def BoothEntry.cleared (desks : Nat) : BoothEntry := { desksInUse := desks }

/-- R5: the entry of booth `b` in a bank. -/
def State.boothEntry (s : State) (p : Bank) (b : Nat) : BoothEntry :=
  Table.fetch (BoothEntry.cleared s.desksPerBooth) p.booths b

/-- R6: the place of channel `c` in a bank's stored allocation. -/
def Bank.place? (p : Bank) (c : Nat) : Option Place := p.alloc.bind fun t => Table.fetch? t c

/-- R7, R8: the number of the bank that is ON_AIR, if one is. -/
def State.onAirBank (s : State) : Option Nat :=
  Config.bankNumbers.find? fun k => (s.bank k).status = .onAir

/-- R8: the plan that the other blocks act on. -/
def State.plan (s : State) : Option Bank := s.onAirBank.map s.bank

/-- Whether the framer is ON_AIR: "for every block that asks" (R24). -/
def State.onAir (s : State) : Bool := s.framer.state = .onAir

/-- R8: booth `b`'s entry in the plan on air, if that plan has the booth present. -/
def State.planBooth (s : State) (b : Nat) : Option BoothEntry :=
  match s.plan with
  | none => none
  | some p => if (s.boothEntry p b).present then some (s.boothEntry p b) else none

/-- The channel a booth entry gives on an output (R5). -/
def BoothEntry.channelOn (e : BoothEntry) : Output → Option Nat
  | .a => e.a
  | .b => e.b

/-- The channel the plan on air gives booth `b` on output `x`. -/
def State.planChannel (s : State) (b : Nat) (x : Output) : Option Nat :=
  (s.planBooth b).bind fun e => e.channelOn x

/-- R4: channel `c`'s entry in the plan on air; cleared where no bank is on air. -/
def State.planEntry (s : State) (c : Nat) : ChannelEntry :=
  match s.plan with
  | none => {}
  | some p => p.channel c

/-- Whether channel `c` is enabled in the plan on air. -/
def State.enabled (s : State) (c : Nat) : Bool := (s.planEntry c).enabled

/-- The place of channel `c` in the plan on air. -/
def State.planPlace (s : State) (c : Nat) : Option Place := s.plan.bind fun p => p.place? c

/-- R6: carried quality, FULL for two slots and NARROW for one. -/
def Place.quality (p : Place) : Quality := if p.count = 2 then .full else .narrow

/-- R111: the carried quality of channel `c` in the on-air allocation. -/
def State.carriedQuality (s : State) (c : Nat) : Quality :=
  match s.planPlace c with
  | some p => p.quality
  | none => .narrow

/-! ## Records by number -/

/-- The key of booth `b` desk `d` in the desk table. -/
def deskKey (b d : Nat) : Nat := 4 * b + d

/-- R59: the record of booth `b` desk `d`. -/
def State.desk (s : State) (b d : Nat) : Desk := Table.fetch {} s.bdc.desks (deskKey b d)

/-- The state with a desk record replaced. -/
def State.setDesk (s : State) (b d : Nat) (x : Desk) : State :=
  s.setBdc { s.bdc with desks := Table.store {} s.bdc.desks (deskKey b d) x }

/-- R60: booth `b`'s runtime record. -/
def State.booth (s : State) (b : Nat) : BoothRun := Table.fetch {} s.bdc.booths b

/-- The state with a booth's runtime record replaced. -/
def State.setBooth (s : State) (b : Nat) (x : BoothRun) : State :=
  s.setBdc { s.bdc with booths := Table.store {} s.bdc.booths b x }

/-- R61: channel `c`'s runtime record. -/
def State.chan (s : State) (c : Nat) : ChannelRun := Table.fetch {} s.bdc.channels c

/-- The state with a channel's runtime record replaced. -/
def State.setChan (s : State) (c : Nat) (x : ChannelRun) : State :=
  s.setBdc { s.bdc with channels := Table.store {} s.bdc.channels c x }

/-- R45: channel `c`'s carriage record. -/
def State.carriage (s : State) (c : Nat) : Carriage := Table.fetch {} s.mixer.carriage c

/-- The state with a carriage record replaced. -/
def State.setCarriage (s : State) (c : Nat) (x : Carriage) : State :=
  s.setMixer { s.mixer with carriage := Table.store {} s.mixer.carriage c x }

/-- R45: booth `b`'s feed source as the mixer holds it. -/
def State.feedSource (s : State) (b : Nat) : Source := Table.fetch .floor s.mixer.feedSource b

/-- R49: what booth `b`'s listening feed carries now. -/
def State.feed (s : State) (b : Nat) : Signal := Table.fetch .floor s.mixer.feeds b

/-- R89: booth `b`'s relay record. -/
def State.relayRec (s : State) (b : Nat) : RelayRec := Table.fetch {} s.relay.booths b

/-- The state with a relay record replaced. -/
def State.setRelayRec (s : State) (b : Nat) (x : RelayRec) : State :=
  s.setRelay { s.relay with booths := Table.store {} s.relay.booths b x }

/-- R90: the booth that produces channel `c`, as RLR holds it. -/
def State.producer (s : State) (c : Nat) : Option Nat := Table.fetch? s.relay.producers c

/-- R110: booth `b`'s open turn. -/
def State.turn (s : State) (b : Nat) : Option Turn := Table.fetch? s.meter.turns b

/-- R114: booth `b`'s sitting totals. -/
def State.totals (s : State) (b : Nat) : Totals := Table.fetch {} s.meter.totals b

/-- R138: the account with number `a`. -/
def State.account (s : State) (a : Nat) : Option Account := Table.fetch? s.hire.accounts a

/-- The state with account `a` written. -/
def State.setAccount (s : State) (a : Nat) (x : Account) : State :=
  s.setHire { s.hire with accounts := Table.insert s.hire.accounts a x }

/-- R121: the slot that the serial index gives for a serial, and the record in it. -/
def findSerial : Table Receiver → Nat → Option (Nat × Receiver)
  | [], _ => none
  | (slot, r) :: t, serial => if r.serial = serial then some (slot, r) else findSerial t serial

/-- R121: the slot and the record of a registered serial. -/
def State.receiver (s : State) (serial : Nat) : Option (Nat × Receiver) := findSerial s.register.slots serial

/-- The state with the record of a slot written. -/
def State.setSlot (s : State) (slot : Nat) (x : Receiver) : State :=
  s.setRegister { s.register with slots := Table.insert s.register.slots slot x }

/-- R120: ON_HIRE or OVERDUE. -/
def Receiver.onHire (r : Receiver) : Bool := r.state = .onHire || r.state = .overdue

/-- R170: the free count of the journal. -/
def Journal.free (j : Journal) : Nat := Config.journalSize - j.entries.length

/-! ## Bytes and the CRC -/

/-- R33, R183: a number in `w` bytes, most significant byte first. -/
def bytesOf : Nat → Nat → List Byte
  | 0, _ => []
  | w + 1, n => BitVec.ofNat 8 (n / 256 ^ w) :: bytesOf w n

/-- R183: the number that bytes spell, most significant byte first. -/
def numberOf (bs : List Byte) : Nat := bs.foldl (fun n b => 256 * n + b.toNat) 0

/-- R34: one bit of the CRC-16 with generator x^16 + x^12 + x^5 + 1. -/
def crcBit (r : Half) : Half := if r.msb then (r <<< 1) ^^^ 0x1021 else r <<< 1

/-- R34: one byte of the CRC-16, most significant bit first. -/
def crcByte (r : Half) (b : Byte) : Half :=
  crcBit (crcBit (crcBit (crcBit (crcBit (crcBit (crcBit (crcBit (r ^^^ (b.setWidth 16 <<< 8)))))))))

/-- R34: the CRC-16 over bytes, the register starting at all ones, the result without inversion. -/
def crc16 (bs : List Byte) : Half := bs.foldl crcByte 0xFFFF

/-- R33, R183: the two CRC bytes, most significant byte first. -/
def crcBytes (bs : List Byte) : List Byte := bytesOf 2 (crc16 bs).toNat

/-! ## Taking and answering requests -/

/-- A request's effect: the state after it, its answer code and its result fields (R189). -/
structure Reply where
  st : State
  code : AnswerCode
  fields : List Field := []

/-- A UART link's state. -/
def State.uart (s : State) : UartLink → UartState
  | .counter => s.links.counter
  | .desk => s.links.desk

/-- The state with a UART link replaced. -/
def State.setUart (s : State) (l : UartLink) (x : UartState) : State :=
  match l with
  | .counter => s.setLinks { s.links with counter := x }
  | .desk => s.setLinks { s.links with desk := x }

/-- R185: a UART link's receiver can begin a frame: the pin is released (R197) and fewer than four answers wait. No
answer joins them before the frame is complete, so a frame begun is received to its end. -/
def State.uartOpen (s : State) (l : UartLink) : Bool :=
  !s.resetHeld && decide ((s.uart l).fifo.length < Config.fifoSize)

/-- Whether a request frame is received on a link: on no link while the reset pin is held (R197); on the console only
where the select period has carried no frame yet (R186); not on a UART link whose answer FIFO holds four answers as the
frame begins (R185, log entry 25). -/
def State.receives (s : State) : Link → Bool
  | .console => !s.resetHeld && !s.links.console.period
  | .counter => s.uartOpen .counter
  | .desk => s.uartOpen .desk

/-- R188: an answer is placed behind the answers that wait; the receiver hunts again. -/
def State.postUart (s : State) (l : UartLink) (a : Answer) : State :=
  s.setUart l { receive := .hunting, fifo := (s.uart l).fifo ++ [a] }

/-- R186: an answer becomes the single answer of the console's select period, after 0, 1 or 2 bytes of 0x00; the
bytes after the frame are ignored until select is deasserted. The last byte of the request has clocked out a 0x00. -/
def State.postConsole (s : State) (a : Answer) : State :=
  (s.setLinks { s.links with
    console :=
      { period := true, answer := some a, filler := Config.answerDelay s.freeIndex % 3, out := some 0 } }).setFree
    (s.freeIndex + 1)

/-- R188: the answer of a request, on the link the request came from. -/
def State.post (s : State) (l : Link) (a : Answer) : State :=
  match l with
  | .console => s.postConsole a
  | .counter => s.postUart .counter a
  | .desk => s.postUart .desk a

/-- R187, R188: a request is taken whole and answered once, on its own link, from the state after it; a request that
the link does not receive has no effect and no answer. -/
def serve (l : Link) (request : Nat) (take : State → Reply) (s : State) : Result :=
  if s.receives l then .next ((take s).st.post l ⟨request, (take s).code, (take s).fields⟩) else .next s

end Sys2Proof.Machine
end

