-- ==== Sys2Proof/Machine/Operands.lean ====
section
/-! DEFINITION. The requests' operands and results as they stand on the links: request codes (R184), answer codes
(R189), parameter checks (R187 check 4), selections by place (R184), result fields and the answer frame (R183). -/

namespace Sys2Proof.Machine

/-! ## Request codes (R184) -/

/-- CH_SET. -/
abbrev Code.chSet : Nat := 1
/-- BOOTH_SET. -/
abbrev Code.boothSet : Nat := 2
/-- BANK_CLEAR. -/
abbrev Code.bankClear : Nat := 3
/-- BANK_COPY. -/
abbrev Code.bankCopy : Nat := 4
/-- BANK_CHECK. -/
abbrev Code.bankCheck : Nat := 5
/-- BANK_READ. -/
abbrev Code.bankRead : Nat := 6
/-- START. -/
abbrev Code.start : Nat := 7
/-- STANDBY. -/
abbrev Code.standby : Nat := 8
/-- SWITCH. -/
abbrev Code.switch : Nat := 9
/-- ANNOUNCE. -/
abbrev Code.announce : Nat := 10
/-- ANNOUNCE_END. -/
abbrev Code.announceEnd : Nat := 11
/-- LINE_MODE. -/
abbrev Code.lineMode : Nat := 12
/-- FRAMER_READ. -/
abbrev Code.framerRead : Nat := 13
/-- HANDOVER_SET. -/
abbrev Code.handoverSet : Nat := 14
/-- CHANNEL_READ. -/
abbrev Code.channelRead : Nat := 15
/-- FORCE_OFF. -/
abbrev Code.forceOff : Nat := 16
/-- LIVE_RESET. -/
abbrev Code.liveReset : Nat := 17
/-- BOOTH_READ. -/
abbrev Code.boothRead : Nat := 18
/-- FLOOR_LANG. -/
abbrev Code.floorLang : Nat := 19
/-- RELAY_SET. -/
abbrev Code.relaySet : Nat := 20
/-- SITTING_OPEN. -/
abbrev Code.sittingOpen : Nat := 21
/-- SITTING_CLOSE. -/
abbrev Code.sittingClose : Nat := 22
/-- RETURN_GRACE. -/
abbrev Code.returnGrace : Nat := 23
/-- SITTING_READ. -/
abbrev Code.sittingRead : Nat := 24
/-- TARIFF_SET. -/
abbrev Code.tariffSet : Nat := 25
/-- TALLY_READ. -/
abbrev Code.tallyRead : Nat := 26
/-- JNL_READ. -/
abbrev Code.jnlRead : Nat := 27
/-- JNL_ACK. -/
abbrev Code.jnlAck : Nat := 28
/-- RX_QUERY. -/
abbrev Code.rxQuery : Nat := 29
/-- ACCT_QUERY. -/
abbrev Code.acctQuery : Nat := 30
/-- FLAGS_READ. -/
abbrev Code.flagsRead : Nat := 31
/-- FLAGS_CLEAR. -/
abbrev Code.flagsClear : Nat := 32
/-- MASK_SET. -/
abbrev Code.maskSet : Nat := 33
/-- RX_REGISTER. -/
abbrev Code.rxRegister : Nat := 34
/-- RX_REGISTER_NEXT. -/
abbrev Code.rxRegisterNext : Nat := 35
/-- RX_WINDOW. -/
abbrev Code.rxWindow : Nat := 36
/-- RX_READ_NEXT. -/
abbrev Code.rxReadNext : Nat := 37
/-- RX_WITHDRAW. -/
abbrev Code.rxWithdraw : Nat := 38
/-- REPAIRED. -/
abbrev Code.repaired : Nat := 39
/-- RACK_REPORT. -/
abbrev Code.rackReport : Nat := 40
/-- ACCT_OPEN. -/
abbrev Code.acctOpen : Nat := 41
/-- ACCT_LIMIT. -/
abbrev Code.acctLimit : Nat := 42
/-- ACCT_PAY. -/
abbrev Code.acctPay : Nat := 43
/-- ACCT_CLOSE. -/
abbrev Code.acctClose : Nat := 44
/-- ISSUE. -/
abbrev Code.issue : Nat := 45
/-- RX_PRESET. -/
abbrev Code.rxPreset : Nat := 46
/-- RETURN. -/
abbrev Code.rxReturn : Nat := 47
/-- LOST. -/
abbrev Code.lost : Nat := 48
/-- FOUND. -/
abbrev Code.found : Nat := 49
/-- MIC_ON. -/
abbrev Code.micOn : Nat := 50
/-- MIC_OFF. -/
abbrev Code.micOff : Nat := 51
/-- OUTPUT. -/
abbrev Code.output : Nat := 52
/-- COUGH_ON. -/
abbrev Code.coughOn : Nat := 53
/-- COUGH_OFF. -/
abbrev Code.coughOff : Nat := 54
/-- SIGN_ON. -/
abbrev Code.signOn : Nat := 55
/-- SIGN_OFF. -/
abbrev Code.signOff : Nat := 56
/-- SOURCE. -/
abbrev Code.source : Nat := 57
/-- POLL. -/
abbrev Code.poll : Nat := 58

/-! ## Answer codes (R189) -/

/-- R189: the value of an answer code on the wire. -/
def AnswerCode.value : AnswerCode → Nat
  | .done => 0 | .accepted => 1 | .offered => 2 | .waiting => 3 | .endOfWindow => 4 | .empty => 5
  | .badLength => 16 | .unknownRequest => 17 | .badParameter => 18
  | .notOnAir => 32 | .wrongState => 33 | .bankLocked => 34 | .planInvalid => 35 | .overBudget => 36
  | .switchPending => 37 | .already => 38 | .notActive => 39 | .sittingOpen => 40 | .sittingClosed => 41
  | .badDesk => 42 | .channelUnassigned => 43 | .boothBusy => 44 | .queueFull => 45 | .notLive => 46
  | .idInUse => 47 | .ownChannel => 48
  | .noSuchReceiver => 64 | .duplicate => 65 | .registerFull => 66 | .windowFull => 67 | .notOnHire => 68
  | .accountUnknown => 69 | .accountBlocked => 70 | .limitReached => 71 | .limitBelowOut => 72
  | .depositShort => 73 | .noSuchLanguage => 74 | .tableFull => 75 | .receiversOut => 76 | .journalFull => 77
  | .tariffInUse => 78 | .sequenceMismatch => 79

/-! ## Parameter checks (R187, check 4) -/

/-- The position, counting from `n`, of the first parameter that is out of its range. -/
def firstBad : List Bool → Nat → Option Nat
  | [], _ => none
  | ok :: oks, n => if ok then firstBad oks (n + 1) else some n

/-- R187: the parameters are examined in order, and the first one out of range is answered BAD_PARAMETER with its
position, nothing changed; where all are in range the request's own rule decides. -/
def checked (oks : List Bool) (s : State) (r : Reply) : Reply :=
  match firstBad oks 1 with
  | some p => ⟨s, .badParameter, [⟨1, some p⟩]⟩
  | none => r

/-- A value between two bounds. -/
def inRange (low high n : Nat) : Bool := decide (low ≤ n) && decide (n ≤ high)

def okBank (n : Nat) : Bool := inRange 0 3 n
def okChannel (n : Nat) : Bool := inRange 1 31 n
def okBooth (n : Nat) : Bool := inRange 1 31 n
/-- R63, R187: a desk number above 3 is answered BAD_PARAMETER. -/
def okDesk (n : Nat) : Bool := inRange 1 3 n
def okYesNo (n : Nat) : Bool := inRange 0 1 n
def okLang (n : Nat) : Bool := inRange 0 999 n
def okSerial (n : Nat) : Bool := inRange 1 65535 n
def okAccount (n : Nat) : Bool := inRange 1 65535 n
def okSlot (n : Nat) : Bool := inRange 0 2047 n
/-- R183: an optional channel is 0 for absent, or 1 to 31. -/
def okOptChannel (n : Nat) : Bool := inRange 0 31 n

/-! ## Selections: a value by its place in the list of its rule (R184) -/

def yes (n : Nat) : Bool := decide (n = 1)
def optChannel (n : Nat) : Option Nat := if n = 0 then none else some n
def Quality.ofPlace (n : Nat) : Quality := if n = 0 then .full else if n = 1 then .narrow else .auto
def LineMode.ofPlace (n : Nat) : LineMode := if n = 0 then .off else if n = 1 then .every else .change
def Output.ofPlace (n : Nat) : Output := if n = 0 then .a else .b
def RxClass.ofPlace (n : Nat) : RxClass := if n = 0 then .standard else .assistive
def AccountKind.ofPlace (n : Nat) : AccountKind := if n = 0 then .personal else .delegation

/-- RACK_REPORT's result is CHARGED or FAULT, in this order (R132). -/
def RackResult.ofPlace (n : Nat) : RackResult := if n = 0 then .charged else .fault

/-- SOURCE's mode AUTO, FLOOR or CH with its channel (R78). -/
def SourceMode.ofPlace (n c : Nat) : SourceMode := if n = 0 then .auto else if n = 1 then .floor else .fixed c

def Quality.code : Quality → Nat | .full => 0 | .narrow => 1 | .auto => 2
def BankStatus.code : BankStatus → Nat | .empty => 0 | .edited => 1 | .valid => 2 | .pending => 3 | .onAir => 4
def FramerState.code : FramerState → Nat | .standby => 0 | .starting => 1 | .onAir => 2
def Override.code : Override → Nat | .off => 0 | .on => 1 | .ending => 2
def LineMode.code : LineMode → Nat | .off => 0 | .every => 1 | .change => 2
def Output.code : Output → Nat | .a => 0 | .b => 1
def RelayStatus.code : RelayStatus → Nat | .ok => 0 | .noRelay => 1 | .silent => 2 | .holding => 3
def RxClass.code : RxClass → Nat | .standard => 0 | .assistive => 1
def RxState.code : RxState → Nat
  | .charging => 0 | .available => 1 | .onHire => 2 | .overdue => 3 | .lost => 4 | .faulty => 5
def RackResult.code : RackResult → Nat | .none => 0 | .charged => 1 | .fault => 2
def AccountKind.code : AccountKind → Nat | .personal => 0 | .delegation => 1

/-! ## Result fields (R183, R184) -/

/-- A field of one byte. -/
def f1 (n : Nat) : Field := ⟨1, some n⟩
/-- A field of two bytes. -/
def f2 (n : Nat) : Field := ⟨2, some n⟩
/-- A field of three bytes. -/
def f3 (n : Nat) : Field := ⟨3, some n⟩
/-- A field of four bytes. -/
def f4 (n : Nat) : Field := ⟨4, some n⟩
/-- A field of `w` bytes that may be absent. -/
def fOpt (w : Nat) (n : Option Nat) : Field := ⟨w, n⟩
/-- A yes/no, set/clear or on/off field: 1 for yes (R184). -/
def fBit (b : Bool) : Field := f1 (if b then 1 else 0)
/-- Bytes whose layout a rule gives (R180). -/
def fBytes (bs : List Byte) : List Field := bs.map fun b => f1 b.toNat

/-- A desk that may be absent: its booth and its desk number. -/
def fDesk (d : Option DeskId) : List Field := [fOpt 1 (d.map DeskId.booth), fOpt 1 (d.map DeskId.desk)]

/-- A resolved source: FLOOR 0, or the channel's number (an optional channel, R183). -/
def Source.code : Source → Nat
  | .floor => 0
  | .channel c => c

/-- A source mode as POLL and BOOTH_READ give it: its place, and its channel if FIXED. -/
def fMode : SourceMode → List Field
  | .auto => [f1 0, fOpt 1 none]
  | .floor => [f1 1, fOpt 1 none]
  | .fixed c => [f1 2, f1 c]

/-- R183: the bytes of a field; an absent one as 0 (DEDUCED, log entry 13). -/
def Field.bytes (f : Field) : List Byte := bytesOf f.width (f.value.getD 0)

/-- R183: the body of an answer: the request code echoed, the answer code, the result fields. -/
def Answer.body (a : Answer) : List Byte :=
  bytesOf 1 a.request ++ bytesOf 1 a.code.value ++ a.fields.flatMap Field.bytes

/-- R183: the answer frame: start byte 0x5C, length, body, CRC-16 over length and body. There is none where the body is
longer than the length byte can tell (log entry 14). -/
def Answer.frame (a : Answer) : Option (List Byte) :=
  let counted := bytesOf 1 a.body.length ++ a.body
  if a.body.length ≤ 255 then some (0x5C :: counted ++ crcBytes counted) else none

/-- R183, R186: the bytes that an answer is sent as: its frame, or a free value where the body has none (log entry 14). -/
def Answer.bytes (a : Answer) : List Byte := a.frame.getD (Config.longFrame a.body)

end Sys2Proof.Machine
end

