-- ==== Sys2Proof/Machine/Flags.lean ====
section
/-! DEFINITION. The flag sets of the console and counter links, their raising and the attention lines (R191, R192). -/

namespace Sys2Proof.Machine

/-- R191: the console flags; the bit number is the place in this list. -/
inductive ConsoleFlag where
  | startDone | standbyDone | switchDone | announceTaken | offerExpired | relayLost | orphaned | overdueSweep
  | journalHigh | journalFull | turnFolded
  deriving DecidableEq, Repr

/-- R191: the counter flags; the bit number is the place in this list. -/
inductive CounterFlag where
  | orphaned | overdueSweep | rackReturn | journalFull
  deriving DecidableEq, Repr

/-- R191: the bit of a console flag. -/
def ConsoleFlag.bit : ConsoleFlag → Nat
  | .startDone => 0 | .standbyDone => 1 | .switchDone => 2 | .announceTaken => 3 | .offerExpired => 4
  | .relayLost => 5 | .orphaned => 6 | .overdueSweep => 7 | .journalHigh => 8 | .journalFull => 9 | .turnFolded => 10

/-- R191: the bit of a counter flag. -/
def CounterFlag.bit : CounterFlag → Nat
  | .orphaned => 0 | .overdueSweep => 1 | .rackReturn => 2 | .journalFull => 3

end Sys2Proof.Machine

namespace Sys2Proof

/-- R191: how many flags a link's set assigns, bits 0 and up. -/
def MasterLink.flagCount : MasterLink → Nat
  | .console => 11
  | .counter => 4

/-- R191, R197: the assigned bits of a link's set. -/
def MasterLink.assigned : MasterLink → Half
  | .console => 0x07FF
  | .counter => 0x000F

/-- The link of a flag set. -/
def MasterLink.toLink : MasterLink → Link
  | .console => .console
  | .counter => .counter

end Sys2Proof

namespace Sys2Proof.Machine

/-- Whether bit `i` of a selection, a mask or the flag states is 1. -/
def bitSet (w : Half) (i : Nat) : Bool := w.getLsbD i

/-- R191: the count of the flag with bit `i`. -/
def FlagSet.count (f : FlagSet) (i : Nat) : Nat := Table.fetch 0 f.counts i

/-- R191: raising the flag with bit `i` by `n`: it becomes set and its count grows by n, saturating at 65,535. An amount
of 0 is no raise: a flag is raised "with an amount n of 1 or more". -/
def FlagSet.raise (f : FlagSet) (i n : Nat) : FlagSet :=
  if n = 0 then f
  else { f with states := f.states ||| (1 <<< i), counts := Table.store 0 f.counts i (satAdd Config.max16 (f.count i) n) }

/-- R194: the selected flags become clear and their counts 0. -/
def FlagSet.clear (f : FlagSet) (selection : Half) : FlagSet :=
  { f with states := f.states &&& ~~~selection, counts := f.counts.filter fun e => !bitSet selection e.1 }

/-- R192: the attention line is high while at least one flag is set and enabled by the mask. -/
def FlagSet.attention (f : FlagSet) : Bool := decide (f.states &&& f.mask ≠ 0)

/-- The flag set of a link. -/
def State.flags (s : State) : MasterLink → FlagSet
  | .console => s.links.consoleFlags
  | .counter => s.links.counterFlags

/-- The state with a link's flag set replaced. -/
def State.setFlags (s : State) (l : MasterLink) (f : FlagSet) : State :=
  match l with
  | .console => s.setLinks { s.links with consoleFlags := f }
  | .counter => s.setLinks { s.links with counterFlags := f }

/-- A console flag is raised by `n` (R191). -/
def State.raise (s : State) (f : ConsoleFlag) (n : Nat) : State :=
  s.setFlags .console ((s.flags .console).raise f.bit n)

/-- A counter flag is raised by `n` (R191). -/
def State.raiseCounter (s : State) (f : CounterFlag) (n : Nat) : State :=
  s.setFlags .counter ((s.flags .counter).raise f.bit n)

/-- R192: the level of a link's attention line. -/
def State.attentionLine (s : State) (l : MasterLink) : Bool := (s.flags l).attention

end Sys2Proof.Machine
end

