-- ==== Sys2Proof/Machine/Requests.lean ====
section
/-! DEFINITION. Request frames (R182 to R187): which link takes which request, the code and the parameters of each
request with their widths, the frame that sends a request, and the command that a complete frame stands for. -/

namespace Sys2Proof

open Sys2Proof.Machine

/-- The link of a link that has a flag set. -/
def Link.ofMaster : MasterLink → Link
  | .console => .console
  | .counter => .counter

/-- The link of a UART. -/
def Link.ofUart : UartLink → Link
  | .counter => .counter
  | .desk => .desk

/-- The flag set's link on which a shared request arrives; the desk link takes none of them (R182). -/
def Link.master : Link → MasterLink
  | .console => .console
  | .counter | .desk => .counter

/-- R182: the request set of a link, by code. -/
def Link.takes : Link → Nat → Bool
  | .console, code => inRange 1 33 code
  | .counter, code => inRange 29 49 code
  | .desk, code => inRange 50 58 code

/-- R183: the widths of a request's parameters, in the order of the frame; the preference list of BOOTH_SET is a count
and four places. -/
def requestWidths (code : Nat) : List Nat :=
  match code with
  | 1 => [1, 1, 1, 2, 1, 1]
  | 2 => [1, 1, 1, 1, 1, 1, 2, 2, 2, 2, 1]
  | 3 => [1]
  | 4 => [1, 1]
  | 5 => [1]
  | 6 => [1, 1, 1]
  | 7 => [1]
  | 9 => [1]
  | 12 => [1]
  | 14 => [1, 1]
  | 15 => [1]
  | 16 => [1]
  | 18 => [1]
  | 19 => [2]
  | 20 => [1]
  | 23 => [2]
  | 24 => [1, 1]
  | 25 => [3, 3, 3, 3, 3, 3, 3]
  | 28 => [4]
  | 29 => [2]
  | 30 => [2]
  | 32 => [2]
  | 33 => [2]
  | 34 => [2, 1]
  | 35 => [2, 1]
  | 36 => [2, 2, 1]
  | 38 => [2]
  | 39 => [2]
  | 40 => [2, 1]
  | 41 => [2, 1, 1, 3]
  | 42 => [2, 1, 3]
  | 43 => [2, 3]
  | 44 => [2]
  | 45 => [2, 2, 2, 2]
  | 46 => [2, 2]
  | 47 => [2]
  | 48 => [2]
  | 49 => [2]
  | 50 => [1, 1]
  | 51 => [1, 1]
  | 52 => [1, 1, 1]
  | 53 => [1, 1]
  | 54 => [1, 1]
  | 55 => [1, 1, 2]
  | 56 => [1, 1]
  | 57 => [1, 1, 1, 1]
  | 58 => [1, 1]
  | _ => []

/-- A command that is a request, as its frame holds it: the link, the code and the parameters. -/
structure Request where
  link : Link
  code : Nat
  params : List Nat
  deriving DecidableEq, Repr

/-- The request that a command stands for; the commands that are events on a pin, a timer or a receiver have none, and
neither has UNKNOWN_REQUEST, whose body is not a request's. -/
def Instr.request : Instr → Option Request
  | .powerOn _ _ | .resetPin | .resetPinRelease | .standbyFinalFrameEnd | .settleTick | .frameBoundary | .meterSecond
  | .offerTimerExpiry _ | .holdTimerExpiry _ | .returnGraceExpiry | .badCrcFrame _ | .unknownRequest _ _ _
  | .zeroLengthFrame _ | .uartGapTimeout _ _ | .uartFramingError _ | .selectDeassert | .answerSent _ => none
  | .chSet bank channel enabled lang quality fill =>
    some ⟨.console, Code.chSet, [bank, channel, enabled, lang, quality, fill]⟩
  | .boothSet bank booth present a b count c1 c2 c3 c4 desks =>
    some ⟨.console, Code.boothSet, [bank, booth, present, a, b, count, c1, c2, c3, c4, desks]⟩
  | .bankClear bank => some ⟨.console, Code.bankClear, [bank]⟩
  | .bankCopy origin target => some ⟨.console, Code.bankCopy, [origin, target]⟩
  | .bankCheck bank => some ⟨.console, Code.bankCheck, [bank]⟩
  | .bankRead bank kind item => some ⟨.console, Code.bankRead, [bank, kind, item]⟩
  | .start bank => some ⟨.console, Code.start, [bank]⟩
  | .standby => some ⟨.console, Code.standby, []⟩
  | .switch bank => some ⟨.console, Code.switch, [bank]⟩
  | .announce => some ⟨.console, Code.announce, []⟩
  | .announceEnd => some ⟨.console, Code.announceEnd, []⟩
  | .lineMode mode => some ⟨.console, Code.lineMode, [mode]⟩
  | .framerRead => some ⟨.console, Code.framerRead, []⟩
  | .handoverSet ramp offer => some ⟨.console, Code.handoverSet, [ramp, offer]⟩
  | .channelRead channel => some ⟨.console, Code.channelRead, [channel]⟩
  | .forceOff booth => some ⟨.console, Code.forceOff, [booth]⟩
  | .liveReset => some ⟨.console, Code.liveReset, []⟩
  | .boothRead booth => some ⟨.console, Code.boothRead, [booth]⟩
  | .floorLang code => some ⟨.console, Code.floorLang, [code]⟩
  | .relaySet hold => some ⟨.console, Code.relaySet, [hold]⟩
  | .sittingOpen => some ⟨.console, Code.sittingOpen, []⟩
  | .sittingClose => some ⟨.console, Code.sittingClose, []⟩
  | .returnGrace minutes => some ⟨.console, Code.returnGrace, [minutes]⟩
  | .sittingRead kind item => some ⟨.console, Code.sittingRead, [kind, item]⟩
  | .tariffSet grace unit rate cap fee loss deposit =>
    some ⟨.console, Code.tariffSet, [grace, unit, rate, cap, fee, loss, deposit]⟩
  | .tallyRead => some ⟨.console, Code.tallyRead, []⟩
  | .jnlRead => some ⟨.console, Code.jnlRead, []⟩
  | .jnlAck sequence => some ⟨.console, Code.jnlAck, [sequence]⟩
  | .rxQuery link serial => some ⟨Link.ofMaster link, Code.rxQuery, [serial]⟩
  | .acctQuery link account => some ⟨Link.ofMaster link, Code.acctQuery, [account]⟩
  | .flagsRead link => some ⟨Link.ofMaster link, Code.flagsRead, []⟩
  | .flagsClear link selection => some ⟨Link.ofMaster link, Code.flagsClear, [selection]⟩
  | .maskSet link mask => some ⟨Link.ofMaster link, Code.maskSet, [mask]⟩
  | .rxRegister serial cls => some ⟨.counter, Code.rxRegister, [serial, cls]⟩
  | .rxRegisterNext serial cls => some ⟨.counter, Code.rxRegisterNext, [serial, cls]⟩
  | .rxWindow first last mode => some ⟨.counter, Code.rxWindow, [first, last, mode]⟩
  | .rxReadNext => some ⟨.counter, Code.rxReadNext, []⟩
  | .rxWithdraw serial => some ⟨.counter, Code.rxWithdraw, [serial]⟩
  | .repaired serial => some ⟨.counter, Code.repaired, [serial]⟩
  | .rackReport serial result => some ⟨.counter, Code.rackReport, [serial, result]⟩
  | .acctOpen account kind limit credit => some ⟨.counter, Code.acctOpen, [account, kind, limit, credit]⟩
  | .acctLimit account limit credit => some ⟨.counter, Code.acctLimit, [account, limit, credit]⟩
  | .acctPay account amount => some ⟨.counter, Code.acctPay, [account, amount]⟩
  | .acctClose account => some ⟨.counter, Code.acctClose, [account]⟩
  | .issue serial account preset deposit => some ⟨.counter, Code.issue, [serial, account, preset, deposit]⟩
  | .rxPreset serial lang => some ⟨.counter, Code.rxPreset, [serial, lang]⟩
  | .rxReturn serial => some ⟨.counter, Code.rxReturn, [serial]⟩
  | .lost serial => some ⟨.counter, Code.lost, [serial]⟩
  | .found serial => some ⟨.counter, Code.found, [serial]⟩
  | .micOn booth desk => some ⟨.desk, Code.micOn, [booth, desk]⟩
  | .micOff booth desk => some ⟨.desk, Code.micOff, [booth, desk]⟩
  | .output booth desk out => some ⟨.desk, Code.output, [booth, desk, out]⟩
  | .coughOn booth desk => some ⟨.desk, Code.coughOn, [booth, desk]⟩
  | .coughOff booth desk => some ⟨.desk, Code.coughOff, [booth, desk]⟩
  | .signOn booth desk interpreter => some ⟨.desk, Code.signOn, [booth, desk, interpreter]⟩
  | .signOff booth desk => some ⟨.desk, Code.signOff, [booth, desk]⟩
  | .source booth desk mode channel => some ⟨.desk, Code.source, [booth, desk, mode, channel]⟩
  | .poll booth desk => some ⟨.desk, Code.poll, [booth, desk]⟩

/-! ## Writing a request frame -/

/-- R183: the parameter bytes of a request: each parameter in its width. -/
def paramBytes : List Nat → List Nat → List Byte
  | w :: ws, p :: ps => bytesOf w p ++ paramBytes ws ps
  | _, _ => []

/-- R183: the body of a request frame: the code, then the parameters. -/
def Request.body (r : Request) : List Byte := bytesOf 1 r.code ++ paramBytes (requestWidths r.code) r.params

/-- R183: the part of a frame that the CRC covers: the length byte and the body. -/
def counted (body : List Byte) : List Byte := bytesOf 1 body.length ++ body

/-- R183: the frame of a request body: start byte 0xC5, length, body and CRC-16. -/
def requestFrame (body : List Byte) : List Byte := 0xC5 :: (counted body ++ crcBytes (counted body))

/-! ## Reading a request frame -/

/-- R183: the numbers that bytes spell in given widths, or none where their count is not the sum of the widths. -/
def readParams : List Nat → List Byte → Option (List Nat)
  | [], [] => some []
  | [], _ :: _ => none
  | w :: ws, bs =>
    if w ≤ bs.length then (readParams ws (bs.drop w)).map fun ps => numberOf (bs.take w) :: ps else none

/-- A command of no parameter. -/
def of0 (i : Instr) : List Nat → Option Instr
  | [] => some i
  | _ => none
/-- A command of one parameter. -/
def of1 (f : Nat → Instr) : List Nat → Option Instr
  | [a] => some (f a)
  | _ => none
/-- A command of two parameters. -/
def of2 (f : Nat → Nat → Instr) : List Nat → Option Instr
  | [a, b] => some (f a b)
  | _ => none
/-- A command of three parameters. -/
def of3 (f : Nat → Nat → Nat → Instr) : List Nat → Option Instr
  | [a, b, c] => some (f a b c)
  | _ => none
/-- A command of four parameters. -/
def of4 (f : Nat → Nat → Nat → Nat → Instr) : List Nat → Option Instr
  | [a, b, c, d] => some (f a b c d)
  | _ => none
/-- CH_SET, of six parameters. -/
def ofChSet : List Nat → Option Instr
  | [a, b, c, d, e, f] => some (.chSet a b c d e f)
  | _ => none
/-- TARIFF_SET, of seven parameters. -/
def ofTariffSet : List Nat → Option Instr
  | [a, b, c, d, e, f, g] => some (.tariffSet a b c d e f g)
  | _ => none
/-- BOOTH_SET, of eleven parameter places. -/
def ofBoothSet : List Nat → Option Instr
  | [a, b, c, d, e, f, g, h, i, j, k] => some (.boothSet a b c d e f g h i j k)
  | _ => none

/-- R184: the command of a request code with its parameters; `m` is the link of a shared request. -/
def commandOf (m : MasterLink) (code : Nat) (ps : List Nat) : Option Instr :=
  match code with
  | 1 => ofChSet ps
  | 2 => ofBoothSet ps
  | 3 => of1 .bankClear ps
  | 4 => of2 .bankCopy ps
  | 5 => of1 .bankCheck ps
  | 6 => of3 .bankRead ps
  | 7 => of1 .start ps
  | 8 => of0 .standby ps
  | 9 => of1 .switch ps
  | 10 => of0 .announce ps
  | 11 => of0 .announceEnd ps
  | 12 => of1 .lineMode ps
  | 13 => of0 .framerRead ps
  | 14 => of2 .handoverSet ps
  | 15 => of1 .channelRead ps
  | 16 => of1 .forceOff ps
  | 17 => of0 .liveReset ps
  | 18 => of1 .boothRead ps
  | 19 => of1 .floorLang ps
  | 20 => of1 .relaySet ps
  | 21 => of0 .sittingOpen ps
  | 22 => of0 .sittingClose ps
  | 23 => of1 .returnGrace ps
  | 24 => of2 .sittingRead ps
  | 25 => ofTariffSet ps
  | 26 => of0 .tallyRead ps
  | 27 => of0 .jnlRead ps
  | 28 => of1 .jnlAck ps
  | 29 => of1 (.rxQuery m) ps
  | 30 => of1 (.acctQuery m) ps
  | 31 => of0 (.flagsRead m) ps
  | 32 => of1 (.flagsClear m) ps
  | 33 => of1 (.maskSet m) ps
  | 34 => of2 .rxRegister ps
  | 35 => of2 .rxRegisterNext ps
  | 36 => of3 .rxWindow ps
  | 37 => of0 .rxReadNext ps
  | 38 => of1 .rxWithdraw ps
  | 39 => of1 .repaired ps
  | 40 => of2 .rackReport ps
  | 41 => of4 .acctOpen ps
  | 42 => of3 .acctLimit ps
  | 43 => of2 .acctPay ps
  | 44 => of1 .acctClose ps
  | 45 => of4 .issue ps
  | 46 => of2 .rxPreset ps
  | 47 => of1 .rxReturn ps
  | 48 => of1 .lost ps
  | 49 => of1 .found ps
  | 50 => of2 .micOn ps
  | 51 => of2 .micOff ps
  | 52 => of3 .output ps
  | 53 => of2 .coughOn ps
  | 54 => of2 .coughOff ps
  | 55 => of3 .signOn ps
  | 56 => of2 .signOff ps
  | 57 => of4 .source ps
  | 58 => of2 .poll ps
  | _ => none

/-- R183, R187: the fixed number of parameter bytes of a code. -/
def paramLength (code : Nat) : Nat := (requestWidths code).sum

/-- R187, checks 2 and 3: the answer that LNK itself gives to a body with this code and so many parameter bytes. -/
def Link.turnsAway (l : Link) (code length : Nat) : Option AnswerCode :=
  if !l.takes code then some .unknownRequest else if length ≠ paramLength code then some .badLength else none

/-- R187: the command that a valid frame's body stands for on a link. -/
def readBody (l : Link) : List Byte → Option Instr
  | [] => none
  | c :: bs =>
    if (l.turnsAway c.toNat bs.length).isSome then some (.unknownRequest l c.toNat bs)
    else (readParams (requestWidths c.toNat) bs).bind (commandOf l.master c.toNat)

/-- R183, R187, check 1: the command that a complete frame after the start byte stands for on a link. -/
def readCounted (l : Link) : List Byte → Option Instr
  | [] => none
  | n :: bs =>
    if bs.length ≠ n.toNat + 2 then none
    else if crcBytes (n :: bs.take n.toNat) = bs.drop n.toNat then readBody l (bs.take n.toNat)
    else some (.badCrcFrame l)

/-- R185: the command that a complete request frame stands for on a link. -/
def readFrame (l : Link) : List Byte → Option Instr
  | [] => none
  | b :: bs => if b = 0xC5 then readCounted l bs else none

end Sys2Proof
end

