-- ==== Sys2Proof/Machine/LinkEvents.lean ====
section
/-! DEFINITION. LNK, the link interface (chapter 11): FLAGS_READ, FLAGS_CLEAR, MASK_SET, and the events of receivers,
select and answer FIFOs. -/

namespace Sys2Proof.Machine

/-! ## Flag requests (R193 to R195) -/

/-- The bits of a link's assigned flags, ascending. -/
def flagBits (l : MasterLink) : List Nat := List.range l.flagCount

/-- R194, R195: a selection or mask within the link's assigned bits, which are the lowest ones (R191). -/
def okBits (l : MasterLink) (n : Nat) : Bool := inRange 0 l.assigned.toNat n

/-- R193: the fields of FLAGS_READ. -/
def flagFields (l : MasterLink) (f : FlagSet) : List Field :=
  [f2 f.states.toNat, f2 f.mask.toNat] ++ (flagBits l).map fun i => f2 (f.count i)

/-- FLAGS_READ (R193). -/
def execFlagsRead (link : MasterLink) (s : State) : Result :=
  serve link.toLink Code.flagsRead (fun s => ⟨s, .done, flagFields link (s.flags link)⟩) s

/-- R194: the counts that FLAGS_CLEAR returns: those of the selected flags in bit order. -/
def clearedCounts (l : MasterLink) (f : FlagSet) (selection : Half) : List Field :=
  ((flagBits l).filter (bitSet selection)).map fun i => f2 (f.count i)

/-- R194: the reply of FLAGS_CLEAR. -/
def flagsClearReply (l : MasterLink) (selection : Half) (s : State) : Reply :=
  ⟨s.setFlags l ((s.flags l).clear selection), .done,
    f2 ((s.flags l).clear selection).states.toNat :: clearedCounts l (s.flags l) selection⟩

/-- FLAGS_CLEAR (R194). -/
def execFlagsClear (link : MasterLink) (selection : Nat) (s : State) : Result :=
  serve link.toLink Code.flagsClear (fun s =>
    checked [okBits link selection] s (flagsClearReply link (BitVec.ofNat 16 selection) s)) s

/-- MASK_SET (R195). -/
def execMaskSet (link : MasterLink) (mask : Nat) (s : State) : Result :=
  serve link.toLink Code.maskSet (fun s =>
    checked [okBits link mask] s
      ⟨s.setFlags link { s.flags link with mask := BitVec.ofNat 16 mask }, .done,
        [f2 mask, f2 (s.flags link).states.toNat]⟩) s

/-! ## Receivers -/

/-- A UART link's receiver set; no byte is received while the reset pin is held (R197). -/
def State.setReceive (s : State) (l : UartLink) (r : Receive) : State :=
  if s.resetHeld then s else s.setUart l { s.uart l with receive := r }

/-- R186, R187: a console frame with a bad CRC is the period's one frame and gets no answer; after that frame no other
is received in the period. Its bytes clock out 0x00. -/
def State.consoleDiscard (s : State) : State :=
  if s.resetHeld || s.links.console.period then s
  else s.setLinks { s.links with console := { period := true, out := some 0 } }

/-- BAD_CRC_FRAME (R187, check 1): the frame is discarded with no answer. -/
def execBadCrcFrame (link : Link) (s : State) : Result :=
  match link with
  | .console => .next s.consoleDiscard
  | .counter => .next (s.setReceive .counter .hunting)
  | .desk => .next (s.setReceive .desk .hunting)

/-- UNKNOWN_REQUEST (R187, checks 2 and 3): UNKNOWN_REQUEST or BAD_LENGTH is answered with the code echoed; a body that
passes both checks is a request's own row, so this row does nothing with it (log entry 24). -/
def execUnknownRequest (link : Link) (code : Nat) (params : List Byte) (s : State) : Result :=
  match link.turnsAway code params.length with
  | some answer => serve link code (fun s => ⟨s, answer, []⟩) s
  | none => .next s

/-- ZERO_LENGTH_FRAME (R185): the frame is discarded and the receiver hunts again. -/
def execZeroLengthFrame (link : UartLink) (s : State) : Result := .next (s.setReceive link .hunting)

/-- UART_GAP_TIMEOUT (R185): the frame is discarded, and the byte that ends the gap is examined as a possible start
byte; while the answer FIFO is full no byte is one. -/
def execUartGapTimeout (link : UartLink) (byte : Byte) (s : State) : Result :=
  .next (s.setReceive link (if byte = 0xC5 ∧ s.uartOpen link then .begun else .hunting))

/-- UART_FRAMING_ERROR (R185): the frame in reception is discarded and the receiver hunts from the next byte. -/
def execUartFramingError (link : UartLink) (s : State) : Result := .next (s.setReceive link .hunting)

/-! ## Select and answers -/

/-- R186: the bytes still to be shifted out before the 0x00 again: the 0x00 before the answer, and the answer's. -/
def ConsoleLink.outgoing (x : ConsoleLink) : List Byte :=
  match x.answer with
  | some a => (List.replicate x.filler 0 ++ a.bytes).drop x.sent
  | none => []

/-- R186: a byte is shifted out: the next outgoing one, with the last of which the answer has left, or 0x00. -/
def ConsoleLink.shift (x : ConsoleLink) : ConsoleLink :=
  match x.outgoing with
  | b :: _ :: _ => { x with sent := x.sent + 1, out := some b }
  | bs => { x with answer := none, filler := 0, sent := 0, out := some (bs.headD 0) }

/-- R186: on the console a byte goes out for each byte that comes in; a UART link's bytes go out of themselves. -/
def State.shiftOut (s : State) : Link → State
  | .console => s.setLinks { s.links with console := s.links.console.shift }
  | .counter | .desk => s

/-- SELECT_DEASSERT (R186): the select period ends; a partial request frame or the rest of an answer is lost, and the data
output is not driven. -/
def execSelectDeassert (s : State) : Result := .next (s.setLinks { s.links with console := {} })

/-- R188: the first answer leaves a UART link's FIFO. -/
def State.dropAnswer (s : State) (l : UartLink) : State := s.setUart l { s.uart l with fifo := (s.uart l).fifo.tail }

/-- R186: the rest of the answer has been shifted out, its last byte the last one; the period goes on. -/
def ConsoleLink.finish (x : ConsoleLink) : ConsoleLink :=
  { x with answer := none, filler := 0, sent := 0, out := x.outgoing.getLast?.or x.out }

/-- R186: the console's answer has been clocked out whole (log entry 8). -/
def State.consoleSent (s : State) : State := s.setLinks { s.links with console := s.links.console.finish }

/-- ANSWER_SENT (R188): the answer in transmission leaves its link, and the next one begins; a link without an answer
stays as it is (log entry 4). -/
def execAnswerSent (link : Link) (s : State) : Result :=
  match link with
  | .console => .next s.consoleSent
  | .counter => .next (s.dropAnswer .counter)
  | .desk => .next (s.dropAnswer .desk)

end Sys2Proof.Machine
end

