-- ==== Sys2Proof/Machine/Journal.lean ====
section
/-! DEFINITION. JNL, the accounting journal (chapter 10): writing, the level flags, the entry layout, JNL_READ and
JNL_ACK. -/

namespace Sys2Proof.Machine

/-- R173: the sequence counter after a write; after 4,294,967,295 it becomes 1. -/
def nextSequence (n : Nat) : Nat := if n = Config.max32 then 1 else n + 1

/-- R170, R173: the ring with an entry written at its tail under the next sequence number. -/
def Journal.append (j : Journal) (time : Nat) (body : EntryBody) : Journal :=
  { entries := j.entries ++ [⟨j.next, time, body⟩], next := nextSequence j.next }

/-- R174: the flags of the write that brought the ring to its present level. -/
def State.raiseLevel (s : State) : State :=
  if s.journal.entries.length = Config.journalHigh then s.raise .journalHigh 1
  else if s.journal.free = Config.journalReserve then (s.raise .journalFull 1).raiseCounter .journalFull 1
  else s

/-- R171, R172, R174: an entry is written whole, stamped with meter time, and the level flags follow. -/
def State.writeEntry (s : State) (body : EntryBody) : State :=
  (s.setJournal (s.journal.append s.meter.time body)).raiseLevel

/-- R171: a TURN or SITTING entry handed over by the meter unit: written while one entry is free, otherwise folded or
dropped with TURN_FOLDED raised. -/
def State.handOver (s : State) (body : EntryBody) : State :=
  if s.journal.free = 0 then s.raise .turnFolded 1 else s.writeEntry body

/-- R172: a hire-side entry may be written only while more than 32 entries are free. -/
def State.hireSideRoom (s : State) : Bool := decide (Config.journalReserve < s.journal.free)

/-! ## Layout (R180) -/

/-- R180: the reason byte of a TURN body. -/
def Reason.code : Reason → Nat
  | .release => 1 | .handover => 2 | .output => 3 | .signOn => 4 | .forced => 5 | .switch => 6 | .liveReset => 7
  | .sittingClose => 8

/-- R180: the flags byte of HIRE and LOSS bodies. -/
def HireBody.flagsByte (b : HireBody) (path : Option ReturnPath) : Nat :=
  (if b.orphaned then 128 else 0) + (if path = some .rack then 64 else 0)
    + (if b.kind = .delegation then 32 else 0) + (if b.cls = .assistive then 16 else 0)

/-- R180: the fields of HIRE and LOSS bodies up to the fee. -/
def HireBody.headBytes (b : HireBody) (path : Option ReturnPath) : List Byte :=
  bytesOf 2 b.serial ++ bytesOf 2 b.account ++ bytesOf 1 (b.flagsByte path) ++ bytesOf 4 b.issueTime
    ++ bytesOf 4 b.returnTime ++ bytesOf 4 b.duration ++ bytesOf 4 b.units ++ bytesOf 3 b.time
    ++ bytesOf 3 b.sittings ++ bytesOf 2 b.fee

/-- R180: the fields of HIRE and LOSS bodies from the charge on. -/
def HireBody.tailBytes (b : HireBody) : List Byte :=
  bytesOf 3 b.charge ++ bytesOf 2 b.deposit ++ bytesOf 2 b.refund ++ bytesOf 3 b.owed

/-- R180: the kind byte of an entry. -/
def EntryBody.code : EntryBody → Nat
  | .turn _ => 1 | .hire _ _ => 2 | .loss _ _ => 3 | .found _ => 4 | .account _ _ _ => 5 | .sitting _ => 6

/-- R180: the body of an entry; an absent interpreter is sent as 0. -/
def EntryBody.bytes : EntryBody → List Byte
  | .turn b =>
    bytesOf 2 b.sitting ++ bytesOf 1 b.booth ++ bytesOf 1 b.turn.desk ++ bytesOf 2 (b.turn.interpreter.getD 0)
      ++ bytesOf 1 b.turn.channel ++ bytesOf 1 b.turn.quality.code ++ bytesOf 4 b.turn.start ++ bytesOf 4 b.finish
      ++ bytesOf 2 b.turn.onAir ++ bytesOf 2 b.turn.held ++ bytesOf 2 b.turn.relay ++ bytesOf 1 b.reason.code
  | .hire b path => b.headBytes (some path) ++ b.tailBytes
  | .loss b lossPart => b.headBytes none ++ bytesOf 3 lossPart ++ b.tailBytes
  | .found serial => bytesOf 2 serial
  | .account number kind balance => bytesOf 2 number ++ bytesOf 1 kind.code ++ bytesOf 3 balance
  | .sitting b =>
    bytesOf 2 b.number ++ bytesOf 4 b.openTime ++ bytesOf 4 b.closeTime ++ bytesOf 2 b.turns ++ bytesOf 4 b.onAir
      ++ bytesOf 2 b.folded ++ bytesOf 2 b.issues ++ bytesOf 2 b.returns ++ bytesOf 4 b.revenue

/-- R180: an entry as read: a 10-byte head and the body. -/
def Entry.bytes (e : Entry) : List Byte :=
  bytesOf 4 e.seq ++ bytesOf 1 e.body.code ++ bytesOf 4 e.time ++ bytesOf 1 e.body.bytes.length ++ e.body.bytes

/-! ## Requests -/

/-- R175: the answer of JNL_READ. -/
def jnlReadReply (s : State) : Reply :=
  match s.journal.entries with
  | [] => ⟨s, .empty, [f2 0, f4 s.journal.next]⟩
  | e :: _ => ⟨s, .done, fBytes e.bytes ++ [f2 s.journal.entries.length, f4 s.journal.next]⟩

/-- R176: the effect of JNL_ACK. -/
def jnlAckReply (sequence : Nat) (s : State) : Reply :=
  match s.journal.entries with
  | [] => ⟨s, .empty, []⟩
  | e :: rest =>
    if e.seq = sequence then
      ⟨s.setJournal { s.journal with entries := rest }, .done, [fOpt 4 (rest.head?.map Entry.seq), f2 rest.length]⟩
    else ⟨s, .sequenceMismatch, [f4 e.seq, f2 s.journal.entries.length]⟩

/-- JNL_READ (R175). -/
def execJnlRead (s : State) : Result := serve .console Code.jnlRead jnlReadReply s

/-- JNL_ACK (R176). -/
def execJnlAck (sequence : Nat) (s : State) : Result := serve .console Code.jnlAck (jnlAckReply sequence) s

end Sys2Proof.Machine
end

