-- ==== Sys2Proof/Machine/Plans.lean ====
section
/-! DEFINITION. PLS, the plan store (chapter 1): validation, allocation, the language list, and CH_SET, BOOTH_SET,
BANK_CLEAR, BANK_COPY, BANK_CHECK and BANK_READ. -/

namespace Sys2Proof.Machine

/-! ## Statuses and the language list -/

/-- R9: a bank that an edit may write. -/
def BankStatus.editable : BankStatus → Bool
  | .empty | .edited | .valid => true
  | .pending | .onAir => false

/-- R7: a bank that leaves PENDING or ON_AIR for VALID loses its allocation. -/
def Bank.retired (p : Bank) : Bank := { p with status := .valid, alloc := none }

/-- The enabled channels of a bank, ascending. -/
def Bank.enabledChannels (p : Bank) : List Nat := Config.channelNumbers.filter fun c => (p.channel c).enabled

/-- The present booths of a bank, ascending. -/
def State.presentBooths (s : State) (p : Bank) : List Nat :=
  Config.boothNumbers.filter fun b => (s.boothEntry p b).present

/-- Whether an enabled channel of a bank carries a language. -/
def Bank.carries (p : Bank) (lang : Nat) : Bool := p.enabledChannels.any fun c => (p.channel c).lang = lang

/-- R22: whether a code is in the language list. -/
def State.inLanguageList (s : State) (lang : Nat) : Bool :=
  decide (lang = 0) ||
    match s.plan with
    | some p => p.carries lang
    | none => Config.bankNumbers.any fun k => decide ((s.bank k).status = .valid) && (s.bank k).carries lang

/-! ## Validation (R14 to R16) -/

/-- R15: the reason codes, in the order of the conditions. -/
inductive PlanReason where
  | noChannel | noLanguage | languageRepeat | aNotEnabled | bNotEnabled | sameOutputs | aShared | bOvershared
  | ownLanguage
  deriving DecidableEq, Repr

/-- R184: a reason code is sent as its place in the list of R15. -/
def PlanReason.code : PlanReason → Nat
  | .noChannel => 0 | .noLanguage => 1 | .languageRepeat => 2 | .aNotEnabled => 3 | .bNotEnabled => 4
  | .sameOutputs => 5 | .aShared => 6 | .bOvershared => 7 | .ownLanguage => 8

/-- A condition's failure: its reason and the channel or booth concerned. -/
abbrev PlanFault := PlanReason × Option Nat

/-- R15, condition 1. -/
def Bank.failNoChannel (p : Bank) : Option PlanFault :=
  if p.enabledChannels = [] then some (.noChannel, none) else none

/-- R15, condition 2. -/
def Bank.failNoLanguage (p : Bank) : Option PlanFault :=
  (p.enabledChannels.find? fun c => !inRange 1 999 (p.channel c).lang).map fun c => (.noLanguage, some c)

/-- R15, condition 3. -/
def Bank.failRepeat (p : Bank) : Option PlanFault :=
  (p.enabledChannels.find? fun c =>
    p.enabledChannels.any fun e => decide (e < c) && decide ((p.channel e).lang = (p.channel c).lang)).map
    fun c => (.languageRepeat, some c)

/-- R15, condition 4 for one booth: its A channel is examined before its B channel. -/
def Bank.outputFault (p : Bank) (e : BoothEntry) : Option PlanReason :=
  match e.a with
  | none => some .aNotEnabled
  | some a =>
    if !(p.channel a).enabled then some .aNotEnabled
    else match e.b with
      | none => none
      | some b => if !(p.channel b).enabled then some .bNotEnabled else none

/-- R15, condition 4. -/
def State.failOutputs (s : State) (p : Bank) : Option PlanFault :=
  (s.presentBooths p).findSome? fun b => (p.outputFault (s.boothEntry p b)).map fun r => (r, some b)

/-- R15, condition 5. -/
def State.failSameOutputs (s : State) (p : Bank) : Option PlanFault :=
  ((s.presentBooths p).find? fun b =>
    (s.boothEntry p b).b.isSome && decide ((s.boothEntry p b).a = (s.boothEntry p b).b)).map
    fun b => (.sameOutputs, some b)

/-- How many present booths have channel `c` on output `x`. -/
def State.boothsOn (s : State) (p : Bank) (x : Output) (c : Nat) : Nat :=
  ((s.presentBooths p).filter fun b => (s.boothEntry p b).channelOn x = some c).length

/-- R15, condition 6. -/
def State.failAShared (s : State) (p : Bank) : Option PlanFault :=
  (Config.channelNumbers.find? fun c => decide (1 < s.boothsOn p .a c)).map fun c => (.aShared, some c)

/-- R15, condition 7. -/
def State.failBOvershared (s : State) (p : Bank) : Option PlanFault :=
  (Config.channelNumbers.find? fun c => decide (3 < s.boothsOn p .b c)).map fun c => (.bOvershared, some c)

/-- Whether a booth entry's preference list holds the language of a channel it has on an output. -/
def Bank.ownLanguage (p : Bank) (e : BoothEntry) (x : Output) : Bool :=
  match e.channelOn x with
  | none => false
  | some c => decide ((p.channel c).lang ∈ e.prefs)

/-- R15, condition 8. -/
def State.failOwnLanguage (s : State) (p : Bank) : Option PlanFault :=
  ((s.presentBooths p).find? fun b =>
    p.ownLanguage (s.boothEntry p b) .a || p.ownLanguage (s.boothEntry p b) .b).map fun b => (.ownLanguage, some b)

/-- R14, R15: the first of conditions 1 to 8 that fails. -/
def State.planFault (s : State) (p : Bank) : Option PlanFault :=
  [p.failNoChannel, p.failNoLanguage, p.failRepeat, s.failOutputs p, s.failSameOutputs p, s.failAShared p,
    s.failBOvershared p, s.failOwnLanguage p].findSome? id

/-- The slots a channel needs at least, by its quality request (R16). -/
def Quality.need : Quality → Nat
  | .full => 2
  | .narrow | .auto => 1

/-- R16: the minimum slot need of a bank. -/
def Bank.need (p : Bank) : Nat := (p.enabledChannels.map fun c => (p.channel c).quality.need).sum

/-- R14: the refusal that validation gives, with its result fields, or none where the bank passes. -/
def State.validationRefusal (s : State) (p : Bank) : Option (AnswerCode × List Field) :=
  match s.planFault p with
  | some (reason, item) => some (.planInvalid, [f1 reason.code, fOpt 1 item])
  | none => if s.budget < p.need then some (.overBudget, [f1 p.need, f1 s.budget]) else none

/-! ## Allocation (R17, R18) -/

/-- R17: the demand of a language: its count in the preset tally, 0 without an entry. -/
def State.demand (s : State) (lang : Nat) : Nat := Table.fetch 0 s.hire.tally.langs lang

/-- The enabled AUTO channels of a bank, ascending. -/
def Bank.autoChannels (p : Bank) : List Nat := p.enabledChannels.filter fun c => (p.channel c).quality = .auto

/-- R17: whether channel `e` ranks before channel `c`: more demand, or equal demand and a lower number. -/
def State.ranksBefore (s : State) (p : Bank) (e c : Nat) : Bool :=
  decide (s.demand (p.channel c).lang < s.demand (p.channel e).lang) ||
    (decide (s.demand (p.channel e).lang = s.demand (p.channel c).lang) && decide (e < c))

/-- R17: how many AUTO channels rank before channel `c`. -/
def State.rank (s : State) (p : Bank) (c : Nat) : Nat := (p.autoChannels.filter fun e => s.ranksBefore p e c).length

/-- R18, step 3: how many AUTO channels get a second slot. -/
def State.extraSlots (s : State) (p : Bank) : Nat := min (s.budget - p.need) p.autoChannels.length

/-- R18, steps 2 and 3: the slot count of an enabled channel. -/
def State.slotCount (s : State) (p : Bank) (c : Nat) : Nat :=
  match (p.channel c).quality with
  | .full => 2
  | .narrow => 1
  | .auto => if s.rank p c < s.extraSlots p then 2 else 1

/-- R18, step 4: channels laid out one after another from a slot on. -/
def layOut (count : Nat → Nat) : List Nat → Nat → Table Place
  | [], _ => []
  | c :: cs, slot => (c, ⟨slot, count c⟩) :: layOut count cs (slot + count c)

/-- R18: the allocation of a bank, from the tally as it stands. -/
def State.allocation (s : State) (p : Bank) : Table Place := layOut (s.slotCount p) p.enabledChannels 2

/-- The first slot and slot count of each enabled channel, as the answers of BANK_CHECK (R20), START (R25) and SWITCH
(R35) carry them: the channels ascending, each with its first slot and then its slot count, with neither the channel's
number nor a count of channels before them (DEDUCED, log entry 17). -/
def fAlloc (t : Table Place) : List Field := t.flatMap fun e => [f1 e.2.first, f1 e.2.count]

/-- R19: a bank put on air or made pending, with the allocation computed at this moment. -/
def State.commitBank (s : State) (k : Nat) (status : BankStatus) : State :=
  s.setBank k { s.bank k with status := status, alloc := some (s.allocation (s.bank k)) }

/-! ## Requests -/

/-- R9: an edit of bank `k`: refused with BANK_LOCKED where it is PENDING or ON_AIR. -/
def editBank (k : Nat) (s : State) (edited : Bank) : Reply :=
  if (s.bank k).status.editable then ⟨s.setBank k edited, .done, []⟩ else ⟨s, .bankLocked, []⟩

/-- R10: the channel entry that CH_SET writes. -/
def ChannelEntry.ofParams (enabled lang quality fill : Nat) : ChannelEntry :=
  { enabled := yes enabled, lang := lang, quality := Quality.ofPlace quality, floorFill := yes fill }

/-- CH_SET (R10). -/
def execChSet (bank channel enabled lang quality fill : Nat) (s : State) : Result :=
  serve .console Code.chSet (fun s =>
    checked [okBank bank, okChannel channel, okYesNo enabled, okLang lang, inRange 0 2 quality, okYesNo fill] s
      (editBank bank s { s.bank bank with
        status := .edited
        channels := Table.store {} (s.bank bank).channels channel
          (ChannelEntry.ofParams enabled lang quality fill) })) s

/-- R11: a preference list of up to four codes, each 1 to 999, none twice; places beyond the count are not examined. -/
def okPrefs (count : Nat) (codes : List Nat) : Bool :=
  inRange 0 4 count && (codes.take count).all (inRange 1 999) && decide (codes.take count).Nodup

/-- R11: the booth entry that BOOTH_SET writes. -/
def BoothEntry.ofParams (present a b : Nat) (prefs : List Nat) (desks : Nat) : BoothEntry :=
  { present := yes present, a := optChannel a, b := optChannel b, prefs := prefs, desksInUse := desks }

/-- BOOTH_SET (R11). -/
def execBoothSet (bank booth present a b count c1 c2 c3 c4 desks : Nat) (s : State) : Result :=
  serve .console Code.boothSet (fun s =>
    checked [okBank bank, okBooth booth, okYesNo present, okOptChannel a, okOptChannel b,
        okPrefs count [c1, c2, c3, c4], inRange 1 s.desksPerBooth desks] s
      (editBank bank s { s.bank bank with
        status := .edited
        booths := Table.store (BoothEntry.cleared s.desksPerBooth) (s.bank bank).booths booth
          (BoothEntry.ofParams present a b ([c1, c2, c3, c4].take count) desks) })) s

/-- BANK_CLEAR (R12). -/
def execBankClear (bank : Nat) (s : State) : Result :=
  serve .console Code.bankClear (fun s => checked [okBank bank] s (editBank bank s {})) s

/-- R13: the target of a copy: EMPTY from an EMPTY source, else EDITED, without the source's allocation. -/
def Bank.copy (source : Bank) : Bank :=
  if source.status = .empty then {} else { source with status := .edited, alloc := none }

/-- BANK_COPY (R13). -/
def execBankCopy (source target : Nat) (s : State) : Result :=
  serve .console Code.bankCopy (fun s =>
    checked [okBank source, okBank target && decide (source ≠ target)] s
      (editBank target s (s.bank source).copy)) s

/-- R20: the status that a BANK_CHECK which passes leaves. -/
def BankStatus.checked : BankStatus → BankStatus
  | .empty | .edited | .valid => .valid
  | .pending => .pending
  | .onAir => .onAir

/-- R20: the outcome of BANK_CHECK on bank `k`. -/
def bankCheckReply (k : Nat) (s : State) : Reply :=
  match s.validationRefusal (s.bank k) with
  | some (code, fields) => ⟨s, code, fields⟩
  | none =>
    ⟨s.setBank k { s.bank k with status := (s.bank k).status.checked }, .done,
      [f1 (s.bank k).need, f1 s.budget] ++ fAlloc ((s.bank k).alloc.getD (s.allocation (s.bank k)))⟩

/-- BANK_CHECK (R20). -/
def execBankCheck (bank : Nat) (s : State) : Result :=
  serve .console Code.bankCheck (fun s => checked [okBank bank] s (bankCheckReply bank s)) s

/-- R21: the fields of a bank's HEADER. -/
def headerFields (s : State) (p : Bank) : List Field :=
  [f1 p.status.code, f1 p.enabledChannels.length, f1 (s.presentBooths p).length, f1 p.need, f1 s.budget,
    fBit p.alloc.isSome]

/-- R21: the fields of CHANNEL c. -/
def channelFields (p : Bank) (c : Nat) : List Field :=
  [fBit (p.channel c).enabled, f2 (p.channel c).lang, f1 (p.channel c).quality.code, fBit (p.channel c).floorFill,
    fOpt 1 ((p.place? c).map Place.first), fOpt 1 ((p.place? c).map Place.count),
    fOpt 1 ((p.place? c).map fun x => x.quality.code)]

/-- R21: the fields of BOOTH b. -/
def boothFields (e : BoothEntry) : List Field :=
  [fBit e.present, fOpt 1 e.a, fOpt 1 e.b, f1 e.prefs.length] ++ e.prefs.map f2 ++ [f1 e.desksInUse]

/-- BANK_READ (R21). -/
def execBankRead (bank kind item : Nat) (s : State) : Result :=
  serve .console Code.bankRead (fun s =>
    checked [okBank bank, decide (kind = 0) || ((decide (kind = 1) || decide (kind = 2)) && inRange 1 31 item)] s
      ⟨s, .done,
        if kind = 0 then headerFields s (s.bank bank)
        else if kind = 1 then channelFields (s.bank bank) item
        else boothFields (s.boothEntry (s.bank bank) item)⟩) s

end Sys2Proof.Machine
end

