-- ==== Sys2Proof/Machine/Accounts.lean ====
section
/-! DEFINITION. HAC, the hire account controller (chapters 8 and 9): accounts, tariff, tally, the charge and its
settlement, ISSUE, RX_PRESET, RETURN, LOST, FOUND, the account requests, TARIFF_SET, TALLY_READ and orphan marking. -/

namespace Sys2Proof.Machine

/-! ## The preset tally (R148, R149) -/

/-- R149: counting in a receiver with a preset. -/
def Tally.countIn (t : Tally) (lang : Nat) : Tally :=
  match Table.fetch? t.langs lang with
  | some n => { t with langs := Table.store 0 t.langs lang (n + 1) }
  | none =>
    if t.langs.length < Config.tallyPlaces ∧ t.other = 0 then { t with langs := Table.store 0 t.langs lang 1 }
    else { t with other := t.other + 1 }

/-- R149: counting out a receiver with a preset; an entry that reaches 0 is removed. -/
def Tally.countOut (t : Tally) (lang : Nat) : Tally :=
  match Table.fetch? t.langs lang with
  | some n => { t with langs := Table.store 0 t.langs lang (n - 1) }
  | none => { t with other := t.other - 1 }

/-- R148, R156: the sum of all counts, OTHER included. -/
def Tally.total (t : Tally) : Nat := (t.langs.map Prod.snd).sum + t.other

/-- R150: the tally when a receiver's preset changes; giving the preset already held makes no change. -/
def Tally.move (t : Tally) (old new : Nat) : Tally := if old = new then t else (t.countOut old).countIn new

/-- The state with the tally replaced. -/
def State.setTally (s : State) (t : Tally) : State := s.setHire { s.hire with tally := t }

/-! ## Accounts (R138 to R144) -/

/-- R139: an account's state set anew from its balance. -/
def Account.refresh (a : Account) : Account :=
  { a with blocked := match a.kind with
                      | .personal => decide (0 < a.balance)
                      | .delegation => decide (a.credit < a.balance) }

/-- R140: the greatest limit of a kind. -/
def AccountKind.maxLimit : AccountKind → Nat
  | .personal => 2
  | .delegation => 255

/-- R140: the credit limit as stored: none on a PERSONAL account. -/
def AccountKind.credit (k : AccountKind) (credit : Nat) : Nat :=
  match k with
  | .personal => 0
  | .delegation => min Config.maxBalance credit

/-- R139: an account's state as answers carry it: OPEN 0, BLOCKED 1. -/
def fState (a : Account) : Field := fBit a.blocked

/-- R138, R144: every field of an account record present for its kind. -/
def accountFields (number : Nat) (a : Account) : List Field :=
  [f2 number, f1 a.kind.code, fState a, f1 a.limit, f1 a.outCount, f3 a.balance]
    ++ (match a.kind with
        | .personal => []
        | .delegation => [f3 a.credit])
    ++ [f3 a.deposits]

/-- R140: the account that ACCT_OPEN writes. -/
def Account.opened (kind : AccountKind) (limit credit : Nat) : Account :=
  { kind := kind, limit := clamp 1 kind.maxLimit limit, credit := kind.credit credit }

/-- R140: the rule of ACCT_OPEN. -/
def acctOpenReply (number : Nat) (a : Account) (s : State) : Reply :=
  if (s.account number).isSome then ⟨s, .duplicate, []⟩
  else if Config.accountPlaces ≤ s.hire.accounts.length then ⟨s, .tableFull, []⟩
  else ⟨s.setAccount number a, .done, accountFields number a⟩

/-- ACCT_OPEN (R140). -/
def execAcctOpen (account kind limit credit : Nat) (s : State) : Result :=
  serve .counter Code.acctOpen (fun s =>
    checked [okAccount account, inRange 0 1 kind] s
      (acctOpenReply account (Account.opened (AccountKind.ofPlace kind) limit credit) s)) s

/-- R141: an account with its limits changed and its state set anew. -/
def Account.withLimits (a : Account) (limit credit : Nat) : Account :=
  { a with limit := clamp 1 a.kind.maxLimit limit, credit := a.kind.credit credit }.refresh

/-- R141: the stored limits as ACCT_LIMIT answers them. -/
def limitFields (a : Account) : List Field :=
  [f1 a.limit] ++ (match a.kind with
    | .personal => []
    | .delegation => [f3 a.credit]) ++ [fState a]

/-- R141: the rule of ACCT_LIMIT. -/
def acctLimitReply (number limit credit : Nat) (s : State) : Reply :=
  match s.account number with
  | none => ⟨s, .accountUnknown, []⟩
  | some a =>
    if (a.withLimits limit credit).limit < a.outCount then ⟨s, .limitBelowOut, []⟩
    else ⟨s.setAccount number (a.withLimits limit credit), .done, limitFields (a.withLimits limit credit)⟩

/-- ACCT_LIMIT (R141). -/
def execAcctLimit (account limit credit : Nat) (s : State) : Result :=
  serve .counter Code.acctLimit (fun s => checked [okAccount account] s (acctLimitReply account limit credit s)) s

/-- R142: an account after a payment. -/
def Account.paid (a : Account) (amount : Nat) : Account :=
  { a with balance := a.balance - min amount a.balance }.refresh

/-- R142: the rule of ACCT_PAY. -/
def acctPayReply (number amount : Nat) (s : State) : Reply :=
  match s.account number with
  | none => ⟨s, .accountUnknown, []⟩
  | some a =>
    ⟨s.setAccount number (a.paid amount), .done,
      [f3 (min amount a.balance), f3 (a.paid amount).balance, fState (a.paid amount)]⟩

/-- ACCT_PAY (R142). -/
def execAcctPay (account amount : Nat) (s : State) : Result :=
  serve .counter Code.acctPay (fun s =>
    checked [okAccount account, inRange 0 Config.maxBalance amount] s (acctPayReply account amount s)) s

/-- R143: the account record is removed. -/
def State.removeAccount (s : State) (number : Nat) : State :=
  s.setHire { s.hire with accounts := Table.remove s.hire.accounts number }

/-- R143: the rule of ACCT_CLOSE. -/
def acctCloseReply (number : Nat) (s : State) : Reply :=
  match s.account number with
  | none => ⟨s, .accountUnknown, []⟩
  | some a =>
    if 0 < a.outCount then ⟨s, .receiversOut, []⟩
    else if !s.hireSideRoom then ⟨s, .journalFull, []⟩
    else ⟨(s.writeEntry (.account number a.kind a.balance)).removeAccount number, .done, [f3 a.balance]⟩

/-- ACCT_CLOSE (R143). -/
def execAcctClose (account : Nat) (s : State) : Result :=
  serve .counter Code.acctClose (fun s => checked [okAccount account] s (acctCloseReply account s)) s

/-- R144: the rule of ACCT_QUERY. -/
def acctQueryReply (number : Nat) (s : State) : Reply :=
  match s.account number with
  | none => ⟨s, .accountUnknown, []⟩
  | some a => ⟨s, .done, accountFields number a⟩

/-- ACCT_QUERY (R144). -/
def execAcctQuery (link : MasterLink) (account : Nat) (s : State) : Result :=
  serve link.toLink Code.acctQuery (fun s => checked [okAccount account] s (acctQueryReply account s)) s

/-! ## Tariff and tally requests -/

/-- R145: the seven values clamped into their ranges. -/
def Tariff.ofParams (grace unit rate cap fee loss deposit : Nat) : Tariff :=
  { grace := clamp 0 60 grace, unit := clamp 5 240 unit, rate := clamp 0 65535 rate, cap := clamp 0 999999 cap,
    fee := clamp 0 65535 fee, loss := clamp 0 999999 loss, deposit := clamp 0 65535 deposit }

/-- R145, R156: the seven tariff fields. -/
def tariffFields (t : Tariff) : List Field :=
  [f3 t.grace, f3 t.unit, f3 t.rate, f3 t.cap, f3 t.fee, f3 t.loss, f3 t.deposit]

/-- TARIFF_SET (R145). -/
def execTariffSet (grace unit rate cap fee loss deposit : Nat) (s : State) : Result :=
  serve .console Code.tariffSet (fun s =>
    if 0 < s.hire.tally.total then ⟨s, .tariffInUse, []⟩
    else ⟨s.setHire { s.hire with tariff := Tariff.ofParams grace unit rate cap fee loss deposit }, .done,
      tariffFields (Tariff.ofParams grace unit rate cap fee loss deposit)⟩) s

/-- R156: the fields of TALLY_READ. -/
def tallyFields (h : Hire) : List Field :=
  [f1 h.tally.langs.length] ++ h.tally.langs.flatMap (fun e => [f2 e.1, f2 e.2])
    ++ [f2 h.tally.other, f2 h.tally.total] ++ tariffFields h.tariff ++ [f2 h.accounts.length]

/-- TALLY_READ (R156). -/
def execTallyRead (s : State) : Result := serve .console Code.tallyRead (fun s => ⟨s, .done, tallyFields s.hire⟩) s

/-! ## Issue and preset (R146, R147, R150) -/

/-- R123: a record that goes on hire. -/
def Receiver.issued (r : Receiver) (h : HireFields) : Receiver :=
  { r with state := .onHire, hire := some h, orphaned := false,
           lifetimeHires := satAdd Config.max16 r.lifetimeHires 1 }

/-- R123: a record that leaves hire for CHARGING or LOST. -/
def Receiver.offHire (r : Receiver) (state : RxState) : Receiver :=
  { r with state := state, hire := none, orphaned := false }

/-- R147: the deposit paid: the tariff's for a PERSONAL account, 0 for a DELEGATION account. -/
def State.depositFor (s : State) (a : Account) : Nat :=
  match a.kind with
  | .personal => s.hire.tariff.deposit
  | .delegation => 0

/-- R147: the hire fields of an issue taken now. -/
def State.hireFields (s : State) (number preset : Nat) (a : Account) : HireFields :=
  { account := number, preset := preset, issueTime := s.meter.time, issueSitting := s.meter.sitting.number,
    openAtIssue := s.meter.sitting.isOpen, deposit := s.depositFor a }

/-- R147: an account with one more receiver out. -/
def Account.out (a : Account) (deposit : Nat) : Account :=
  { a with outCount := a.outCount + 1, deposits := a.deposits + deposit }

/-- R114: an issue is counted while a sitting is open. -/
def State.countIssue (s : State) : State :=
  if s.meter.sitting.isOpen then
    s.setMeter { s.meter with sitting :=
      { s.meter.sitting with issues := satAdd Config.max16 s.meter.sitting.issues 1 } }
  else s

/-- R147: the effect of ISSUE when it is taken. -/
def State.issue (s : State) (slot : Nat) (r : Receiver) (number preset : Nat) (a : Account) : State :=
  (((s.setSlot slot (r.issued (s.hireFields number preset a))).setAccount number (a.out (s.depositFor a))).setTally
    (s.hire.tally.countIn preset)).countIssue

/-- R146: checks 3 to 7 of ISSUE, then R147. -/
def issueToAccount (slot : Nat) (r : Receiver) (number preset collected : Nat) (s : State) : Reply :=
  match s.account number with
  | none => ⟨s, .accountUnknown, []⟩
  | some a =>
    if a.blocked then ⟨s, .accountBlocked, []⟩
    else if a.outCount = a.limit then ⟨s, .limitReached, []⟩
    else if !s.inLanguageList preset then ⟨s, .noSuchLanguage, []⟩
    else if a.kind = .personal ∧ collected < s.hire.tariff.deposit then ⟨s, .depositShort, [f2 s.hire.tariff.deposit]⟩
    else ⟨s.issue slot r number preset a, .done,
      [f2 slot, f2 (s.depositFor a), f1 (a.out (s.depositFor a)).outCount]⟩

/-- R146: checks 1 and 2 of ISSUE. -/
def issueReply (serial number preset collected : Nat) (s : State) : Reply :=
  match s.receiver serial with
  | none => ⟨s, .noSuchReceiver, []⟩
  | some (slot, r) =>
    if r.state ≠ .available then ⟨s, .wrongState, [f1 r.state.code]⟩
    else issueToAccount slot r number preset collected s

/-- ISSUE (R146, R147). -/
def execIssue (serial account preset deposit : Nat) (s : State) : Result :=
  serve .counter Code.issue (fun s =>
    checked [okSerial serial, okAccount account, okLang preset, inRange 0 65535 deposit] s
      (issueReply serial account preset deposit s)) s

/-- R150: the effect of RX_PRESET when it is taken. -/
def State.changePreset (s : State) (slot : Nat) (r : Receiver) (h : HireFields) (lang : Nat) : State :=
  (s.setSlot slot { r with hire := some { h with preset := lang }, orphaned := false }).setTally
    (s.hire.tally.move h.preset lang)

/-- R150: the count that holds a receiver of a language: its entry's, or OTHER. -/
def Tally.countOf (t : Tally) (lang : Nat) : Nat := (Table.fetch? t.langs lang).getD t.other

/-- R150: the rule of RX_PRESET. -/
def presetReply (serial lang : Nat) (s : State) : Reply :=
  match s.receiver serial with
  | none => ⟨s, .noSuchReceiver, []⟩
  | some (slot, r) =>
    match r.onHire, r.hire with
    | true, some h =>
      if !s.inLanguageList lang then ⟨s, .noSuchLanguage, []⟩
      else ⟨s.changePreset slot r h lang, .done, [f2 lang, f2 ((s.hire.tally.move h.preset lang).countOf lang)]⟩
    | _, _ => ⟨s, .wrongState, [f1 r.state.code]⟩

/-- RX_PRESET (R150). -/
def execRxPreset (serial lang : Nat) (s : State) : Result :=
  serve .counter Code.rxPreset (fun s => checked [okSerial serial, okLang lang] s (presetReply serial lang s)) s

/-! ## The charge (R158 to R165) -/

/-- R158: how a receiver leaves hire. -/
inductive Leaving where
  | counter | rack | lost
  deriving DecidableEq, Repr

/-- R159: the duration in meter seconds. -/
def duration (issueTime returnTime : Nat) : Nat := returnTime - issueTime

/-- R159: the part of the duration beyond the grace. -/
def Tariff.billable (t : Tariff) (d : Nat) : Nat := d - 60 * t.grace

/-- R160: the units charged, rounded up. -/
def Tariff.units (t : Tariff) (d : Nat) : Nat :=
  if t.billable d = 0 then 0 else (t.billable d + 60 * t.unit - 1) / (60 * t.unit)

/-- R161: the time part before the cap. -/
def Tariff.rawTime (t : Tariff) (cls : RxClass) (d : Nat) : Nat :=
  match cls with
  | .standard => t.units d * t.rate
  | .assistive => 0

/-- R162: the sittings spanned, at least 1. -/
def sittingsSpanned (issueSitting returnSitting : Nat) (openAtIssue : Bool) : Nat :=
  max 1 (returnSitting - issueSitting + (if openAtIssue then 1 else 0))

/-- R163: the time part under the cap. -/
def Tariff.cappedTime (t : Tariff) (cls : RxClass) (d sittings : Nat) : Nat :=
  if t.cap = 0 then t.rawTime cls d else min (t.rawTime cls d) (t.cap * sittings)

/-- R164: the overdue fee part. -/
def Tariff.feePart (t : Tariff) (state : RxState) : Nat := if state = .overdue then t.fee else 0

/-- R164: the loss part. -/
def Tariff.lossPart (t : Tariff) (way : Leaving) : Nat := if way = .lost then t.loss else 0

/-- R165: the charge, the sum of its parts limited to 999,999. -/
def Tariff.charge (t : Tariff) (cls : RxClass) (d sittings : Nat) (state : RxState) (way : Leaving) : Nat :=
  min Config.maxCharge (t.cappedTime cls d sittings + t.feePart state + t.lossPart way)

/-! ## Settlement (R166, R167) -/

/-- R166: the refund of a PERSONAL account; a DELEGATION account has none. -/
def refundOf (kind : AccountKind) (deposit charge : Nat) : Nat :=
  match kind with
  | .personal => deposit - charge
  | .delegation => 0

/-- R166: the shortfall of a PERSONAL account; a DELEGATION account has none. -/
def shortfallOf (kind : AccountKind) (deposit charge : Nat) : Nat :=
  match kind with
  | .personal => charge - deposit
  | .delegation => 0

/-- R166, R167: what a settlement adds to the balance. -/
def balanceGrowth (kind : AccountKind) (deposit charge : Nat) : Nat :=
  match kind with
  | .personal => shortfallOf kind deposit charge
  | .delegation => charge

/-- R166, R167: an account after the settlement of a charge, its state set anew. -/
def Account.settle (a : Account) (deposit charge : Nat) : Account :=
  { a with balance := satAdd Config.maxBalance a.balance (balanceGrowth a.kind deposit charge) }.refresh

/-- R152, step 5: an account with one receiver fewer out. -/
def Account.back (a : Account) (deposit : Nat) : Account :=
  { a with outCount := a.outCount - 1, deposits := a.deposits - deposit }

/-- The account that a hire names. No reachable state lacks it (R138); log entry 26. -/
def State.accountOf (s : State) (number : Nat) : Account := (s.account number).getD (Account.opened .personal 1 0)

/-- R158: the duration of a hire that ends now. -/
def State.hireDuration (s : State) (h : HireFields) : Nat := duration h.issueTime s.meter.time

/-- R162: the sittings spanned by a hire that ends now. -/
def State.hireSittings (s : State) (h : HireFields) : Nat :=
  sittingsSpanned h.issueSitting s.meter.sitting.number h.openAtIssue

/-- R158 to R165: the charge of a hire that ends now. -/
def State.hireCharge (s : State) (r : Receiver) (h : HireFields) (way : Leaving) : Nat :=
  s.hire.tariff.charge r.cls (s.hireDuration h) (s.hireSittings h) r.state way

/-- R166, R167: the hire's account after settlement of its charge. -/
def State.settled (s : State) (r : Receiver) (h : HireFields) (way : Leaving) : Account :=
  (s.accountOf h.account).settle h.deposit (s.hireCharge r h way)

/-- R179: what a HIRE or LOSS entry holds in its last field: the shortfall, or the invoice total after settlement. -/
def State.owedField (s : State) (r : Receiver) (h : HireFields) (way : Leaving) : Nat :=
  match (s.accountOf h.account).kind with
  | .personal => shortfallOf .personal h.deposit (s.hireCharge r h way)
  | .delegation => (s.settled r h way).balance

/-- R168, R179: the figures of a HIRE or LOSS entry. -/
def State.hireBody (s : State) (r : Receiver) (h : HireFields) (way : Leaving) : HireBody :=
  { serial := r.serial, account := h.account, cls := r.cls, kind := (s.accountOf h.account).kind,
    issueTime := h.issueTime, returnTime := s.meter.time, duration := s.hireDuration h,
    units := s.hire.tariff.units (s.hireDuration h),
    time := min Config.maxCharge (s.hire.tariff.cappedTime r.cls (s.hireDuration h) (s.hireSittings h)),
    sittings := s.hireSittings h, fee := s.hire.tariff.feePart r.state, charge := s.hireCharge r h way,
    deposit := h.deposit, refund := refundOf (s.accountOf h.account).kind h.deposit (s.hireCharge r h way),
    owed := s.owedField r h way, orphaned := r.orphaned }

/-- R152, R133, R153: the journal entry of a way of leaving. -/
def State.hireEntry (s : State) (r : Receiver) (h : HireFields) : Leaving → EntryBody
  | .counter => .hire (s.hireBody r h .counter) .counter
  | .rack => .hire (s.hireBody r h .rack) .rack
  | .lost => .loss (s.hireBody r h .lost) s.hire.tariff.loss

/-- R152, R153: the state of the record after it left hire. -/
def Leaving.state : Leaving → RxState
  | .counter | .rack => .charging
  | .lost => .lost

/-- R114: a return or loss counted in the sitting record: its charge, and a return unless it is a loss. -/
def Sitting.countReturn (x : Sitting) (charge : Nat) (way : Leaving) : Sitting :=
  { x with revenue := satAdd Config.max32 x.revenue charge
           returns := if way = .lost then x.returns else satAdd Config.max16 x.returns 1 }

/-- R152, step 6: the meter unit counts a return while a sitting is open. -/
def State.countReturn (s : State) (charge : Nat) (way : Leaving) : State :=
  if s.meter.sitting.isOpen then s.setMeter { s.meter with sitting := s.meter.sitting.countReturn charge way } else s

/-- R152, steps 1 to 6: a receiver leaves hire: charge and settlement, the entry, the record, the account's counts and
the tally, the sitting's counters. -/
def State.leaveHire (s : State) (slot : Nat) (r : Receiver) (h : HireFields) (way : Leaving) : State :=
  ((((s.writeEntry (s.hireEntry r h way)).setSlot slot (r.offHire way.state)).setAccount h.account
    ((s.settled r h way).back h.deposit)).setTally (s.hire.tally.countOut h.preset)).countReturn
    (s.hireCharge r h way) way

/-- R168: the settlement as answers carry it. -/
def settlementFields (s : State) (r : Receiver) (h : HireFields) (way : Leaving) : List Field :=
  [f3 (s.hireCharge r h way),
    fOpt 2 (if s.hire.tariff.feePart r.state = 0 then none else some (s.hire.tariff.feePart r.state))]
    ++ (match (s.accountOf h.account).kind with
        | .personal =>
          [f2 (refundOf .personal h.deposit (s.hireCharge r h way)),
            f3 (shortfallOf .personal h.deposit (s.hireCharge r h way))]
        | .delegation => [])
    ++ [f3 (s.settled r h way).balance, fState (s.settled r h way)]

/-- R152, R153: the checks of RETURN and LOST, then the receiver leaves hire. -/
def leaveReply (serial : Nat) (way : Leaving) (s : State) : Reply :=
  match s.receiver serial with
  | none => ⟨s, .noSuchReceiver, []⟩
  | some (slot, r) =>
    match r.onHire, r.hire with
    | true, some h =>
      if !s.hireSideRoom then ⟨s, .journalFull, []⟩
      else ⟨s.leaveHire slot r h way, .done, settlementFields s r h way⟩
    | _, _ => ⟨s, .notOnHire, []⟩

/-- RETURN (R152). -/
def execRxReturn (serial : Nat) (s : State) : Result :=
  serve .counter Code.rxReturn (fun s => checked [okSerial serial] s (leaveReply serial .counter s)) s

/-- LOST (R153). -/
def execLost (serial : Nat) (s : State) : Result :=
  serve .counter Code.lost (fun s => checked [okSerial serial] s (leaveReply serial .lost s)) s

/-- R154: the rule of FOUND. -/
def foundReply (serial : Nat) (s : State) : Reply :=
  match s.receiver serial with
  | none => ⟨s, .noSuchReceiver, []⟩
  | some (slot, r) =>
    if r.state ≠ .lost then ⟨s, .wrongState, [f1 r.state.code]⟩
    else if !s.hireSideRoom then ⟨s, .journalFull, []⟩
    else ⟨(s.writeEntry (.found r.serial)).setSlot slot { r with state := .charging }, .done, []⟩

/-- FOUND (R154). -/
def execFound (serial : Nat) (s : State) : Result :=
  serve .counter Code.found (fun s => checked [okSerial serial] s (foundReply serial s)) s

/-! ## Orphan marking (R151) -/

/-- R151: whether a plan taken leaves a record's preset without a language: on hire, preset not 0 and carried by no
enabled channel of the new on-air bank. -/
def State.orphans (s : State) (r : Receiver) : Bool :=
  r.onHire &&
    match r.hire, s.plan with
    | some h, some p => decide (h.preset ≠ 0) && !p.carries h.preset
    | _, _ => false

/-- R151: a record whose flag is newly set. -/
def State.newlyOrphaned (s : State) (r : Receiver) : Bool := s.orphans r && !r.orphaned

/-- R151: how many records have their flag newly set. -/
def State.orphanCount (s : State) : Nat := (s.register.slots.filter fun e => s.newlyOrphaned e.2).length

/-- R151: the orphan marking, raising ORPHANED on both links by the number newly set. -/
def State.markOrphans (s : State) : State :=
  ((s.setRegister { s.register with
      slots := s.register.slots.map fun e => (e.1, if s.orphans e.2 then { e.2 with orphaned := true } else e.2) }).raise
    .orphaned s.orphanCount).raiseCounter .orphaned s.orphanCount

end Sys2Proof.Machine
end

