-- ==== Sys2Proof/Machine/Mixer.lean ====
section
/-! DEFINITION. PMX, the program mixer (chapter 3): reports, ramps, what a channel and a feed carry, HANDOVER_SET and
CHANNEL_READ. -/

namespace Sys2Proof.Machine

/-! ## Ramps -/

/-- R52: the incoming gain for the record's k. -/
def Ramp.inGain (r : Ramp) : Nat := 256 * r.k / r.len

/-- R52: the outgoing gain for the record's k. -/
def Ramp.outGain (r : Ramp) : Nat := r.g0 - r.g0 * r.k / r.len

/-- R52: a carriage record at a frame boundary: k rises by 1, and a record whose k has reached F is removed. -/
def Carriage.advance (x : Carriage) : Carriage :=
  match x.ramp with
  | none => x
  | some r => if r.k + 1 < r.len then { x with ramp := some { r with k := r.k + 1 } } else { x with ramp := none }

/-- R52: every ramp record at a frame boundary, cut-in included. -/
def State.advanceRamps (s : State) : State :=
  s.setMixer { s.mixer with
    carriage := Table.fill {} (fun c => (s.carriage c).advance) Config.channelNumbers s.mixer.carriage }

/-- R54: every ramp record is removed. -/
def State.dropRamps (s : State) : State :=
  s.setMixer { s.mixer with
    carriage := Table.fill {} (fun c => { s.carriage c with ramp := none }) Config.channelNumbers s.mixer.carriage }

/-! ## Reports of the booth and desk controller (R50) -/

/-- R50: a grant: the desk is the channel's live desk, without a ramp. -/
def State.mixGrant (s : State) (c : Nat) (who : DeskId) : State := s.setCarriage c { live := some who, ramp := none }

/-- R50: a release: no live desk and no ramp. -/
def State.mixRelease (s : State) (c : Nat) : State := s.setCarriage c {}

/-- R51, R53: the start gain of the ramp that a handover begins: 256 for a desk at full scale, or the gain to which a
running ramp had brought the desk. -/
def Carriage.startGain (x : Carriage) : Nat :=
  match x.ramp with
  | none => 256
  | some r => r.inGain

/-- R51, R53: the ramp record of a handover, with the ramp length setting in force; none where the setting is 0. -/
def State.newRamp (s : State) (c : Nat) (source target : DeskId) : Option Ramp :=
  if s.mixer.rampLength = 0 then none
  else some { outgoing := source, incoming := target, g0 := (s.carriage c).startGain, k := 0,
              len := s.mixer.rampLength }

/-- R50: a handover: the to desk is the live desk, and a ramp record is created or replaced. -/
def State.mixHandover (s : State) (c : Nat) (source target : DeskId) : State :=
  s.setCarriage c { live := some target, ramp := s.newRamp c source target }

/-- R54, R84: STANDBY in ON_AIR removes every ramp record and every live desk, and every feed carries the floor. -/
def State.mixStandby (s : State) : State := s.setMixer { s.mixer with carriage := [], feeds := [] }

/-! ## What is carried (R47 to R49) -/

/-- Whether a desk coughs (R76). -/
def State.coughs (s : State) (who : DeskId) : Bool := (s.desk who.booth who.desk).cough

/-- R48, rule 3: a ramp at its gains for k; a coughing desk contributes gain 0. -/
def State.rampSignal (s : State) (r : Ramp) : Signal :=
  .ramp r.outgoing (if s.coughs r.outgoing then 0 else r.outGain) r.incoming (if s.coughs r.incoming then 0 else r.inGain)

/-- R48, rules 3 to 6: a channel's working signal. -/
def State.workingSignal (s : State) (c : Nat) : Signal :=
  match (s.carriage c).ramp, (s.carriage c).live with
  | some r, _ => s.rampSignal r
  | none, some who => if s.coughs who then .deskCough who else .desk who
  | none, none => if (s.planEntry c).floorFill then .floor else .silence

/-- R48: a language channel's signal in a frame with the given flags. -/
def State.channelSignal (s : State) (transition override : Bool) (c : Nat) : Signal :=
  if transition then .silence else if override then .announcement else s.workingSignal c

/-- The channel of the on-air plan that occupies slot `i`. -/
def State.slotChannel (s : State) (i : Nat) : Option Nat :=
  Config.channelNumbers.find? fun c =>
    match s.planPlace c with
    | some p => decide (p.first ≤ i) && decide (i < p.first + p.count)
    | none => false

/-- R47, R48: what slot `i` of a frame carries. -/
def State.slotSignal (s : State) (transition override : Bool) (i : Nat) : Signal :=
  if i < 2 then (if override then .announcement else .floor)
  else match s.slotChannel i with
    | some c => s.channelSignal transition override c
    | none => if override then .announcement else .silence

/-- R46: the content of the frame that begins now. -/
def State.frameSlots (s : State) (transition override : Bool) : List Signal :=
  (List.range s.slots).map (s.slotSignal transition override)

/-- R48: what the rest of the final frame after STANDBY carries. -/
def State.closingSlots (s : State) (override : Bool) : List Signal :=
  (List.range s.slots).map fun i =>
    if override then .announcement else if i < 2 then .floor else .silence

/-- R49: what booth `b`'s listening feed carries, as fixed at a frame boundary. -/
def State.feedSignal (s : State) (b : Nat) : Signal :=
  if !s.onAir || (s.planBooth b).isNone then .floor
  else match s.feedSource b with
    | .floor => .floor
    | .channel c => if s.enabled c then s.workingSignal c else .silence

/-- R46, R49: every booth feed is fixed. -/
def State.fixFeeds (s : State) : State :=
  s.setMixer { s.mixer with feeds := Table.fill .floor s.feedSignal Config.boothNumbers s.mixer.feeds }

/-! ## Requests -/

/-- HANDOVER_SET (R56). -/
def execHandoverSet (ramp offer : Nat) (s : State) : Result :=
  serve .console Code.handoverSet (fun s =>
    ⟨s.setMixer { s.mixer with rampLength := clamp 0 50 ramp, offerTimeout := clamp 5 120 offer }, .done,
      [f1 (clamp 0 50 ramp), f1 (clamp 5 120 offer)]⟩) s

/-- R57: the carriage field, in the order NONE, SILENCE, ANNOUNCEMENT, RAMP, DESK, DESK_COUGH, FLOOR_FILL. -/
def Signal.carriageCode : Signal → Nat
  | .silence => 1 | .announcement => 2 | .ramp _ _ _ _ => 3 | .desk _ => 4 | .deskCough _ => 5 | .floor => 6

/-- R57: what the channel's slots carry in the frame in progress; NONE (0) off air or where the channel is not enabled
in the on-air bank. -/
def State.carriageField (s : State) (c : Nat) : Nat :=
  match s.onAir && s.enabled c, s.framer.frame, s.planPlace c with
  | true, some f, some p => (f.slots.getD p.first .silence).carriageCode
  | _, _, _ => 0

/-- R57: the ramp and gain fields, from the carriage record as it stands. -/
def rampFields : Option Ramp → List Field
  | none => fDesk none ++ [fOpt 2 none] ++ fDesk none ++ [fOpt 1 none, fOpt 1 none, fOpt 2 none, fOpt 2 none]
  | some r =>
    fDesk (some r.outgoing) ++ [f2 r.g0] ++ fDesk (some r.incoming) ++ [f1 r.k, f1 r.len, f2 r.inGain, f2 r.outGain]

/-- R57, R61: the fields of CHANNEL_READ. -/
def channelReadFields (s : State) (c : Nat) : List Field :=
  fDesk (s.chan c).holder ++ [f1 (s.chan c).queue.length] ++ (s.chan c).queue.flatMap (fun e => fDesk (some e))
    ++ [f1 (s.carriageField c)] ++ rampFields (s.carriage c).ramp ++ [f1 s.mixer.rampLength, f1 s.mixer.offerTimeout]

/-- CHANNEL_READ (R57). -/
def execChannelRead (channel : Nat) (s : State) : Result :=
  serve .console Code.channelRead (fun s =>
    checked [okChannel channel] s ⟨s, .done, channelReadFields s channel⟩) s

end Sys2Proof.Machine
end

