-- ==== Sys2Proof/Machine/Relay.lean ====
section
/-! DEFINITION. RLR, the relay resolver (chapter 5): resolution, production starting and stopping, holds, and FLOOR_LANG,
RELAY_SET and HOLD_TIMER_EXPIRY. -/

namespace Sys2Proof.Machine

/-! ## One resolution (R91 to R94) -/

/-- R90: a booth that this resolution places: present in the on-air bank and not in HOLDING. -/
def State.resolves (s : State) (b : Nat) : Bool :=
  (s.planBooth b).isSome && decide ((s.relayRec b).status ≠ .holding)

/-- The preference list that the plan on air gives booth `b`. -/
def State.prefs (s : State) (b : Nat) : List Nat :=
  match s.planBooth b with
  | some e => e.prefs
  | none => []

/-- R91: whether layer 0 places booth `b`. -/
def State.layer0 (s : State) (b : Nat) : Bool :=
  s.resolves b &&
    match (s.relayRec b).mode with
    | .floor => true
    | .auto => decide (s.relay.floorLang = 0) || decide (s.relay.floorLang ∈ s.prefs b)
    | .fixed _ => false

/-- R92: the channel enabled in the on-air bank with a language, if any. -/
def State.channelOf (s : State) (lang : Nat) : Option Nat :=
  Config.channelNumbers.find? fun c => s.enabled c && decide ((s.planEntry c).lang = lang)

/-- Whether `c` is booth `b`'s own A or B channel in the on-air bank. -/
def State.ownChannel (s : State) (b c : Nat) : Bool :=
  decide (s.planChannel b .a = some c) || decide (s.planChannel b .b = some c)

/-- R92: the first channel of booth `b`'s preference list that is produced by a booth `ok` accepts and is not the
booth's own. -/
def State.walk (s : State) (ok : Nat → Bool) (b : Nat) : Option Nat :=
  ((s.prefs b).filterMap s.channelOf).find? fun c =>
    (match s.producer c with
      | some p => ok p
      | none => false) && !s.ownChannel b c

/-- R92: an AUTO booth that layer 0 has not placed. -/
def State.seeks (s : State) (b : Nat) : Bool :=
  s.resolves b && decide ((s.relayRec b).mode = .auto) && !s.layer0 b

/-- R92: the channel that layer 1 gives booth `b`. -/
def State.layer1 (s : State) (b : Nat) : Option Nat := if s.seeks b then s.walk s.layer0 b else none

/-- A booth of the plan on air that is in HOLDING (R90, R99). -/
def State.holds (s : State) (b : Nat) : Bool :=
  (s.planBooth b).isSome && decide ((s.relayRec b).status = .holding)

/-- R92: a producer that layer 2 accepts: placed at layer 1, or in HOLDING with held depth 1. -/
def State.nearProducer (s : State) (p : Nat) : Bool :=
  (s.layer1 p).isSome || (s.holds p && decide ((s.relayRec p).depth = 1))

/-- R92: the channel that layer 2 gives booth `b`. -/
def State.layer2 (s : State) (b : Nat) : Option Nat :=
  if s.seeks b && (s.layer1 b).isNone then s.walk s.nearProducer b else none

/-- A relay record with its placement, out of any hold. -/
def RelayRec.placed (r : RelayRec) (source : Source) (depth : Nat) (status : RelayStatus) : RelayRec :=
  { r with source := source, depth := depth, status := status, timer := none }

/-- R90 to R93: the record that the layers give a booth of mode AUTO or FLOOR; a booth in HOLDING keeps its own, and an
absent booth is given the floor. -/
def State.layeredRec (s : State) (b : Nat) : RelayRec :=
  if (s.planBooth b).isNone then (s.relayRec b).placed .floor 0 .ok
  else if s.holds b then s.relayRec b
  else if s.layer0 b then (s.relayRec b).placed .floor 0 .ok
  else match s.layer1 b, s.layer2 b with
    | some c, _ => (s.relayRec b).placed (.channel c) 1 .ok
    | none, some c => (s.relayRec b).placed (.channel c) 2 .ok
    | none, none => (s.relayRec b).placed .floor 0 .noRelay

/-- R94: the booth that produces channel `c`, none where `c` is not enabled in the on-air bank. -/
def State.enabledProducer (s : State) (c : Nat) : Option Nat := if s.enabled c then s.producer c else none

/-- R94: the record of a FIXED booth. -/
def State.fixedRec (s : State) (b c : Nat) : RelayRec :=
  if s.ownChannel b c then (s.relayRec b).placed .floor 0 .noRelay
  else match s.enabledProducer c with
    | none => (s.relayRec b).placed (.channel c) 3 .silent
    | some p =>
      match (s.relayRec p).mode with
      | .fixed _ => (s.relayRec b).placed (.channel c) 3 .ok
      | _ => (s.relayRec b).placed (.channel c) ((s.layeredRec p).depth + 1) .ok

/-- R90 to R94: the record that a resolution gives booth `b`. -/
def State.resolvedRec (s : State) (b : Nat) : RelayRec :=
  match (s.relayRec b).mode with
  | .fixed c => if s.resolves b then s.fixedRec b c else s.layeredRec b
  | _ => s.layeredRec b

/-- R93: booth `b` newly enters NO_RELAY. -/
def State.newlyLost (s : State) (b : Nat) : Bool :=
  decide ((s.resolvedRec b).status = .noRelay) && decide ((s.relayRec b).status ≠ .noRelay)

/-- R95: the mixer's feed source after a resolution: reported where the resolved source is different from before. -/
def State.reportedSource (s : State) (b : Nat) : Source :=
  if (s.resolvedRec b).source = (s.relayRec b).source then s.feedSource b else (s.resolvedRec b).source

/-- R95: the records and feed sources of a resolution. -/
def State.placeBooths (s : State) : State :=
  (s.setRelay { s.relay with booths := Table.fill {} s.resolvedRec Config.boothNumbers s.relay.booths }).setMixer
    { s.mixer with feedSource := Table.fill .floor s.reportedSource Config.boothNumbers s.mixer.feedSource }

/-- R95: a resolution: made only while the framer is ON_AIR; RELAY_LOST is raised once per booth newly lost (R93). -/
def State.resolve (s : State) : State :=
  if s.onAir then s.placeBooths.raise .relayLost (Config.boothNumbers.filter s.newlyLost).length else s

/-! ## Holds and producing channels (R98 to R102) -/

/-- A booth's HOLDING ends: its timer stops, and its status is decided by the resolution that follows. -/
def RelayRec.unhold (r : RelayRec) : RelayRec :=
  if r.status = .holding then { r with status := .ok, timer := none } else r

/-- The holds of the booths that `which` picks end. -/
def State.endHolds (s : State) (which : Nat → Bool) : State :=
  s.setRelay { s.relay with
    booths := Table.fill {} (fun b => if which b then (s.relayRec b).unhold else s.relayRec b) Config.boothNumbers
      s.relay.booths }

/-- R90: RLR's copy of the producing channels: channel `c` is produced by booth `p`. -/
def State.setProducer (s : State) (c p : Nat) : State :=
  s.setRelay { s.relay with producers := Table.insert s.relay.producers c p }

/-- R90: RLR's copy of the producing channels: channel `c` is not produced. -/
def State.clearProducer (s : State) (c : Nat) : State :=
  s.setRelay { s.relay with producers := Table.remove s.relay.producers c }

/-- R98: channel `c` starts producing by booth `p`: the holds on it end, and a resolution is made. -/
def State.productionStart (s : State) (c p : Nat) : State :=
  if s.onAir then
    ((s.setProducer c p).endHolds fun b => decide ((s.relayRec b).source = .channel c)).resolve
  else s.setProducer c p

/-- R99: an AUTO booth in status OK that relays from channel `c` enters HOLDING for the relay hold setting. -/
def RelayRec.holdOn (r : RelayRec) (c hold : Nat) : RelayRec :=
  if r.mode = .auto ∧ r.status = .ok ∧ r.source = .channel c ∧ hold ≠ 0 then
    { r with status := .holding, timer := some hold }
  else r

/-- R99: the holds that the stop of channel `c` begins. -/
def State.beginHolds (s : State) (c : Nat) : State :=
  s.setRelay { s.relay with
    booths := Table.fill {} (fun b => (s.relayRec b).holdOn c s.relay.hold) Config.boothNumbers s.relay.booths }

/-- R99: channel `c` stops producing: holds begin, and a resolution is made with them left out. Outside ON_AIR only the
copy of the producing channels is updated (R102). -/
def State.productionStop (s : State) (c : Nat) : State :=
  if s.onAir then ((s.clearProducer c).beginHolds c).resolve else s.clearProducer c

/-- R102: a relay record at STANDBY: FLOOR, depth 0, OK, no hold; the mode is kept. -/
def RelayRec.standby (r : RelayRec) : RelayRec := r.placed .floor 0 .ok

/-- R102: STANDBY: every booth is given FLOOR, and FLOOR is reported to the mixer. -/
def State.relayStandby (s : State) : State :=
  (s.setRelay { s.relay with
    booths := Table.fill {} (fun b => (s.relayRec b).standby) Config.boothNumbers s.relay.booths }).setMixer
    { s.mixer with feedSource := [] }

/-- R96, R101: every HOLDING ends. -/
def State.endAllHolds (s : State) : State := s.endHolds fun _ => true

/-! ## Requests and the hold timer -/

/-- R96: the effect of FLOOR_LANG: in ON_AIR every hold ends and all booths are resolved. -/
def State.floorLanguage (s : State) (code : Nat) : State :=
  if s.onAir then (s.setRelay { s.relay with floorLang := code }).endAllHolds.resolve
  else s.setRelay { s.relay with floorLang := code }

/-- FLOOR_LANG (R96). -/
def execFloorLang (code : Nat) (s : State) : Result :=
  serve .console Code.floorLang (fun s => checked [okLang code] s ⟨s.floorLanguage code, .done, []⟩) s

/-- RELAY_SET (R103). -/
def execRelaySet (hold : Nat) (s : State) : Result :=
  serve .console Code.relaySet (fun s =>
    ⟨s.setRelay { s.relay with hold := clamp 0 30 hold }, .done, [f1 (clamp 0 30 hold)]⟩) s

/-- R97: booth `b`'s source mode is set, its own HOLDING ends, and a resolution is made. -/
def State.setSource (s : State) (b : Nat) (mode : SourceMode) : State :=
  (s.setRelayRec b { (s.relayRec b).unhold with mode := mode }).resolve

/-- R100: booth `b`'s hold ends, and a resolution is made with it included. -/
def State.holdExpired (s : State) (b : Nat) : State := (s.setRelayRec b (s.relayRec b).unhold).resolve

/-- HOLD_TIMER_EXPIRY (R100): the expiry of a hold timer that has reached 0; without one no event arises (log entries 3
and 4). -/
def execHoldTimerExpiry (booth : Nat) (s : State) : Result :=
  .next (if (s.relayRec booth).timer = some 0 then s.holdExpired booth else s)

end Sys2Proof.Machine
end

