-- ==== Sys2Proof/Machine/Sittings.lean ====
section
/-! DEFINITION. MTR, the meter and sitting unit (chapter 6): turns, the meter second, the overdue sweep, SITTING_OPEN,
SITTING_CLOSE, RETURN_GRACE, SITTING_READ, METER_SECOND and RETURN_GRACE_EXPIRY. -/

namespace Sys2Proof.Machine

/-! ## Updates of the meter -/

/-- The state with the sitting record replaced. -/
def State.setSitting (s : State) (x : Sitting) : State := s.setMeter { s.meter with sitting := x }

/-- The state with a booth's sitting totals replaced. -/
def State.setTotals (s : State) (b : Nat) (x : Totals) : State :=
  s.setMeter { s.meter with totals := Table.store {} s.meter.totals b x }

/-- The state with booth `b`'s place in the open turn table filled. -/
def State.setTurn (s : State) (b : Nat) (x : Turn) : State :=
  s.setMeter { s.meter with turns := Table.insert s.meter.turns b x }

/-- The state with booth `b`'s place in the open turn table empty. -/
def State.clearTurn (s : State) (b : Nat) : State :=
  s.setMeter { s.meter with turns := Table.remove s.meter.turns b }

/-! ## Turns (R110 to R112) -/

/-- R111: a turn is opened for booth `b`'s desk `d` on channel `c` while a sitting is open. -/
def State.openTurn (s : State) (b d c : Nat) : State :=
  if s.meter.sitting.isOpen then
    s.setTurn b { desk := d, interpreter := (s.desk b d).interpreter, channel := c, quality := s.carriedQuality c,
                  start := s.meter.time }
  else s

/-- R178: the body of the TURN entry of a turn that ends now. -/
def State.turnBody (s : State) (b : Nat) (t : Turn) (reason : Reason) : TurnBody :=
  { sitting := s.meter.sitting.number, booth := b, turn := t, finish := s.meter.time, reason := reason }

/-- R112: the sitting record with one more turn closed. -/
def Sitting.countTurn (x : Sitting) : Sitting := { x with turns := satAdd Config.max16 x.turns 1 }

/-- R112: a turn of booth `b` that found no journal entry is folded into the booth's and the sitting's counters. -/
def State.foldTurn (s : State) (b : Nat) (t : Turn) : State :=
  (s.setTotals b { s.totals b with
    foldedTurns := satAdd Config.max16 (s.totals b).foldedTurns 1
    foldedSeconds := satAdd Config.max32 (s.totals b).foldedSeconds (t.onAir + t.held) }).setSitting
    { s.meter.sitting with folded := satAdd Config.max16 s.meter.sitting.folded 1 }

/-- R112: one more turn is counted, and booth `b`'s place becomes empty. -/
def State.retireTurn (s : State) (b : Nat) : State := (s.setSitting s.meter.sitting.countTurn).clearTurn b

/-- R112, R171: a closed turn is counted, written or folded, and the booth's place becomes empty. -/
def State.endTurn (s : State) (b : Nat) (t : Turn) (reason : Reason) : State :=
  if s.journal.free = 0 then ((s.retireTurn b).foldTurn b t).handOver (.turn (s.turnBody b t reason))
  else (s.retireTurn b).handOver (.turn (s.turnBody b t reason))

/-- R112: booth `b`'s open turn, if it has one, is closed with a reason. -/
def State.closeTurn (s : State) (b : Nat) (reason : Reason) : State :=
  match s.turn b with
  | none => s
  | some t => s.endTurn b t reason

/-! ## Counting (R113, R114) -/

/-- R113: a turn after one counted second: held or on air, and relay besides. -/
def Turn.count (t : Turn) (held relay : Bool) : Turn :=
  { t with
    onAir := if held then t.onAir else satAdd Config.max16 t.onAir 1
    held := if held then satAdd Config.max16 t.held 1 else t.held
    relay := if relay then satAdd Config.max16 t.relay 1 else t.relay }

/-- R113: booth totals after one counted second. -/
def Totals.count (x : Totals) (held relay : Bool) : Totals :=
  { x with
    onAir := if held then x.onAir else satAdd Config.max32 x.onAir 1
    held := if held then satAdd Config.max32 x.held 1 else x.held
    relay := if relay then satAdd Config.max32 x.relay 1 else x.relay }

/-- R113: whether this second of booth `b`'s turn is held: its desk coughs, or the override is ON or ENDING. -/
def State.heldSecond (s : State) (b : Nat) (t : Turn) : Bool :=
  (s.desk b t.desk).cough || decide (s.framer.override ≠ .off)

/-- R113: whether booth `b`'s resolved source is a channel. -/
def State.relaySecond (s : State) (b : Nat) : Bool := decide ((s.relayRec b).source ≠ .floor)

/-- R113: booth `b`'s turn and totals in one meter second. -/
def State.countTurn (s : State) (b : Nat) : State :=
  match s.turn b with
  | none => s
  | some t =>
    ((s.setTurn b (t.count (s.heldSecond b t) (s.relaySecond b))).setTotals b
      ((s.totals b).count (s.heldSecond b t) (s.relaySecond b))).setSitting
      { s.meter.sitting with
        onAir := if s.heldSecond b t then s.meter.sitting.onAir else satAdd Config.max32 s.meter.sitting.onAir 1 }

/-- R106, step 2: every open turn and its booth's totals. -/
def State.countTurns (s : State) : State := Config.boothNumbers.foldl State.countTurn s

/-! ## The overdue sweep (R116) -/

/-- R116: a receiver that the sweep marks: ON_HIRE on a PERSONAL account. -/
def State.sweeps (s : State) (r : Receiver) : Bool :=
  decide (r.state = .onHire) &&
    match r.hire with
    | some h => decide ((s.account h.account).map Account.kind = some .personal)
    | none => false

/-- R116: a record after the sweep. -/
def State.swept (s : State) (r : Receiver) : Receiver := if s.sweeps r then { r with state := .overdue } else r

/-- R116: how many receivers the sweep marks. -/
def State.sweepCount (s : State) : Nat := (s.register.slots.filter fun e => s.sweeps e.2).length

/-- R116: the overdue sweep; OVERDUE_SWEEP is raised on both links by the number marked. -/
def State.sweep (s : State) : State :=
  ((s.setRegister { s.register with slots := s.register.slots.map fun e => (e.1, s.swept e.2) }).raise .overdueSweep
    s.sweepCount).raiseCounter .overdueSweep s.sweepCount

/-! ## Sittings -/

/-- R108, step 4: the turn of booth `b`'s live desk, if it has one. -/
def State.openLiveTurn (s : State) (b : Nat) : State :=
  match (s.booth b).live with
  | some (d, c) => s.openTurn b d c
  | none => s

/-- R108: the sitting record of the sitting that opens now. -/
def Meter.opened (m : Meter) : Sitting :=
  { isOpen := true, number := satAdd Config.max16 m.sitting.number 1, openTime := some m.time }

/-- R108: the effect of SITTING_OPEN when it is taken. -/
def State.openSitting (s : State) : State :=
  Config.boothNumbers.foldl State.openLiveTurn
    (s.setMeter { s.meter with sitting := s.meter.opened, totals := [], graceTimer := none })

/-- SITTING_OPEN (R108). -/
def execSittingOpen (s : State) : Result :=
  serve .console Code.sittingOpen (fun s =>
    if s.meter.sitting.isOpen then ⟨s, .sittingOpen, []⟩
    else if !s.onAir then ⟨s, .notOnAir, []⟩
    else ⟨s.openSitting, .done, [f2 s.meter.opened.number, f4 s.meter.time]⟩) s

/-- R107: every field of the sitting record, as answers carry them. -/
def sittingFields (x : Sitting) : List Field :=
  [f1 (if x.isOpen then 0 else 1), f2 x.number, fOpt 4 x.openTime, fOpt 4 x.closeTime, f2 x.turns, f4 x.onAir,
    f2 x.folded, f2 x.issues, f2 x.returns, f4 x.revenue]

/-- R178: the body of the SITTING entry. -/
def Sitting.body (x : Sitting) : SittingBody :=
  { number := x.number, openTime := x.openTime.getD 0, closeTime := x.closeTime.getD 0, turns := x.turns,
    onAir := x.onAir, folded := x.folded, issues := x.issues, returns := x.returns, revenue := x.revenue }

/-- R109, step 1: every open turn is closed, ascending. -/
def State.closeTurns (s : State) (reason : Reason) : State :=
  Config.boothNumbers.foldl (fun t b => t.closeTurn b reason) s

/-- R109, step 2: the sitting is closed now. -/
def State.closeRecord (s : State) : State :=
  s.setSitting { s.meter.sitting with isOpen := false, closeTime := some s.meter.time }

/-- R109, step 3: the SITTING entry is handed to the journal. -/
def State.handSitting (s : State) : State := s.handOver (.sitting s.meter.sitting.body)

/-- R109 step 4, R116: the return grace timer starts; with a setting of 0 the sweep is made at once. -/
def State.startGrace (s : State) : State :=
  if s.meter.graceSetting = 0 then s.sweep
  else s.setMeter { s.meter with graceTimer := some (s.meter.graceSetting * 60) }

/-- R109: the effect of SITTING_CLOSE when it is taken. -/
def State.closeSitting (s : State) : State := ((s.closeTurns .sittingClose).closeRecord.handSitting).startGrace

/-- SITTING_CLOSE (R109). Which fields the answer's sitting summary has is left open by R109; the model sends those of the
sitting record (DESIGN CHOICE, log entry 35). -/
def execSittingClose (s : State) : Result :=
  serve .console Code.sittingClose (fun s =>
    if s.meter.sitting.isOpen then ⟨s.closeSitting, .done, sittingFields s.closeSitting.meter.sitting⟩
    else ⟨s, .sittingClosed, []⟩) s

/-- RETURN_GRACE (R115). -/
def execReturnGrace (minutes : Nat) (s : State) : Result :=
  serve .console Code.returnGrace (fun s =>
    ⟨s.setMeter { s.meter with graceSetting := clamp 0 240 minutes }, .done, [f2 (clamp 0 240 minutes)]⟩) s

/-- R118: every field of an open turn of booth `b`, or all absent. -/
def turnFields (b : Nat) : Option Turn → List Field
  | none =>
    [fOpt 1 none, fOpt 1 none, fOpt 2 none, fOpt 1 none, fOpt 1 none, fOpt 4 none, fOpt 2 none, fOpt 2 none,
      fOpt 2 none]
  | some t =>
    [f1 b, f1 t.desk, fOpt 2 t.interpreter, f1 t.channel, f1 t.quality.code, f4 t.start, f2 t.onAir, f2 t.held,
      f2 t.relay]

/-- R118: the fields of SUMMARY. -/
def summaryFields (m : Meter) : List Field :=
  [f4 m.time] ++ sittingFields m.sitting ++ [f2 m.graceSetting, fOpt 2 m.graceTimer]

/-- R118: the fields of BOOTH b. -/
def boothTotalFields (s : State) (b : Nat) : List Field :=
  [f4 (s.totals b).onAir, f4 (s.totals b).held, f4 (s.totals b).relay, f2 (s.totals b).foldedTurns,
    f4 (s.totals b).foldedSeconds] ++ turnFields b (s.turn b)

/-- SITTING_READ (R118). -/
def execSittingRead (kind item : Nat) (s : State) : Result :=
  serve .console Code.sittingRead (fun s =>
    checked [decide (kind = 0) || (decide (kind = 1) && okBooth item)] s
      ⟨s, .done, if kind = 0 then summaryFields s.meter else boothTotalFields s item⟩) s

/-! ## Timers -/

/-- R116: the return grace timer reaches 0: it stops, and the sweep is made. -/
def State.graceExpired (s : State) : State := (s.setMeter { s.meter with graceTimer := none }).sweep

/-- R106 step 3, R116: a running return grace timer loses one second, and expires at the second that brings it to 0. -/
def State.tickGrace (s : State) : State :=
  if s.meter.graceTimer = some 1 then s.graceExpired
  else s.setMeter { s.meter with graceTimer := s.meter.graceTimer.map fun n => n - 1 }

/-- A running offer or hold timer loses one second; at 0 its expiry is due, and it stays there until that is taken. -/
def tickDown (t : Option Nat) : Option Nat := t.map fun n => n - 1

/-- R106, steps 1 and 2: meter time grows by 1, and the second is counted unless meter time had saturated. -/
def State.countSecond (s : State) : State :=
  if s.meter.time < Config.max32 then (s.setMeter { s.meter with time := s.meter.time + 1 }).countTurns else s

/-- R67, R99: the running offer and hold timers lose one second. -/
def State.tickTimers (s : State) : State :=
  (s.setBdc { s.bdc with
    booths := Table.fill {} (fun b => { s.booth b with offerTimer := tickDown (s.booth b).offerTimer })
      Config.boothNumbers s.bdc.booths }).setRelay { s.relay with
    booths := Table.fill {} (fun b => { s.relayRec b with timer := tickDown (s.relayRec b).timer })
      Config.boothNumbers s.relay.booths }

/-- METER_SECOND (R106): no meter second expires while the reset pin is held. -/
def execMeterSecond (s : State) : Result := .next (if s.resetHeld then s else s.countSecond.tickGrace.tickTimers)

/-- RETURN_GRACE_EXPIRY (R116): the expiry of a return grace timer in its last second, taken before the rest of the
meter second that ends it; with any other timer no event arises (log entries 3 and 4). -/
def execReturnGraceExpiry (s : State) : Result := .next (if s.meter.graceTimer = some 1 then s.graceExpired else s)

end Sys2Proof.Machine
end

