-- ==== Sys2Proof/Machine/Desks.lean ====
section
/-! DEFINITION. BDC, the booth and desk controller (chapter 4): grants, releases, queues and offers, the desk requests,
FORCE_OFF, LIVE_RESET, BOOTH_READ, OFFER_TIMER_EXPIRY, and the carry-over at a plan switch. -/

namespace Sys2Proof.Machine

/-! ## Grants (R66) -/

/-- R66, step 2, R62: the entries of booth `b` leave every wait queue; the others keep their order. -/
def State.leaveQueues (s : State) (b : Nat) : State :=
  s.setBdc { s.bdc with
    channels := Table.fill {} (fun c => { s.chan c with queue := (s.chan c).queue.filter fun e => e.booth != b })
      Config.channelNumbers s.bdc.channels }

/-- R66, step 1: booth `b` desk `d` is channel `c`'s live holder. -/
def State.setLive (s : State) (b d c : Nat) : State :=
  (s.setChan c { s.chan c with holder := some ⟨b, d⟩ }).setBooth b { s.booth b with live := some (d, c) }

/-- R66, steps 1 and 2: the records of a grant. -/
def State.grantRecords (s : State) (b d c : Nat) : State :=
  ((s.setLive b d c).leaveQueues b).setBooth b { (s.setLive b d c).booth b with pending := none }

/-- R66, R64: a grant, reported to the mixer, the meter unit and the relay resolver. -/
def State.grant (s : State) (b d c : Nat) : State :=
  ((((s.grantRecords b d c).mixGrant c ⟨b, d⟩).openTurn b d c).productionStart c b)

/-! ## Offers and queues -/

/-- R67: the booth's offer is recorded and the offer timer started. -/
def State.recordOffer (s : State) (b d : Nat) (x : Output) : State :=
  s.setBooth b { s.booth b with offer := some (d, x), offerTimer := some s.mixer.offerTimeout }

/-- The booth's offer is removed and its timer stopped. -/
def State.dropOffer (s : State) (b : Nat) : State :=
  s.setBooth b { s.booth b with offer := none, offerTimer := none }

/-- R59: a desk's REFUSED latch. -/
def State.setRefused (s : State) (b d : Nat) (r : Bool) : State := s.setDesk b d { s.desk b d with refused := r }

/-- R73, R75, R82: the booth's offer, if it has one, is cancelled: the offering desk's REFUSED latch is set. -/
def State.cancelOffer (s : State) (b : Nat) : State :=
  match (s.booth b).offer with
  | some (e, _) => (s.dropOffer b).setRefused b e true
  | none => s

/-- R68: desk `d` of booth `b` joins the tail of channel `c`'s queue as the booth's pending request. -/
def State.joinQueue (s : State) (b d c : Nat) (x : Output) : State :=
  (s.setChan c { s.chan c with queue := (s.chan c).queue ++ [⟨b, d⟩] }).setBooth b
    { s.booth b with pending := some (d, x) }

/-- R69, R74: the booth's entry leaves its queue and the pending request is cleared. -/
def State.withdraw (s : State) (b : Nat) : State := (s.leaveQueues b).setBooth b { s.booth b with pending := none }

/-- The effect of a desk's claim with its answer code. -/
structure Claim where
  st : State
  code : AnswerCode

/-- R65, cases 7 and 8, R68: channel `c` is granted where it is free; otherwise the desk joins its queue. -/
def State.claimChannel (s : State) (b d c : Nat) (x : Output) : Claim :=
  if (s.chan c).holder = none then ⟨s.grant b d c, .done⟩
  else if Config.queueSize ≤ (s.chan c).queue.length then ⟨s, .queueFull⟩
  else ⟨s.joinQueue b d c x, .waiting⟩

/-- R65, cases 5 to 8: desk `d` asks for channel `c` on output `x`. -/
def State.askChannel (s : State) (b d c : Nat) (x : Output) : Claim :=
  if (s.booth b).live.isSome then
    if (s.booth b).offer.isSome then ⟨s, .boothBusy⟩ else ⟨s.recordOffer b d x, .offered⟩
  else if (s.booth b).pending.isSome then ⟨s, .boothBusy⟩
  else s.claimChannel b d c x

/-- R65, cases 4 to 8: desk `d` of booth `b` asks for the channel of output `x`. -/
def State.ask (s : State) (b d : Nat) (x : Output) : Claim :=
  match s.planChannel b x with
  | none => ⟨s, .channelUnassigned⟩
  | some c => s.askChannel b d c x

/-! ## Releases (R70 to R72) -/

/-- R71: the records of a release: the channel has no holder and the booth no live desk. -/
def State.clearLive (s : State) (b c : Nat) : State :=
  (s.setChan c { s.chan c with holder := none }).setBooth b { s.booth b with live := none }

/-- R71, R64: channel `c` is released by booth `b`'s live desk, reported with the cause's reason. -/
def State.release (s : State) (b c : Nat) (reason : Reason) : State :=
  (((s.clearLive b c).mixRelease c).closeTurn b reason).productionStop c

/-- R72: the oldest entry of channel `c`'s queue, if there is one, is granted the channel. -/
def State.passQueue (s : State) (c : Nat) : State :=
  match (s.chan c).queue with
  | [] => s
  | e :: rest => (s.setChan c { s.chan c with queue := rest }).grant e.booth e.desk c

/-- R70: channel `c` passes from desk `d` to desk `e` of booth `b`. -/
def State.handover (s : State) (b d e c : Nat) : State :=
  (((((s.setLive b e c).dropOffer b).mixHandover c ⟨b, d⟩ ⟨b, e⟩).closeTurn b .handover).openTurn b e c)

/-- R71: a cross-output start: the offer is removed and its desk asks for its own output at once. -/
def State.crossStart (s : State) (b e : Nat) (y : Output) : State := ((s.dropOffer b).ask b e y).st

/-- R69 to R72: the live desk `d` of booth `b` gives up channel `c` by MIC_OFF: a handover to a same-channel offer, or
a release, a cross-output start of another offer, and the queue. -/
def State.giveUp (s : State) (b d c : Nat) : State :=
  match (s.booth b).offer with
  | some (e, y) =>
    if s.planChannel b y = some c then s.handover b d e c
    else ((s.release b c .release).crossStart b e y).passQueue c
  | none => (s.release b c .release).passQueue c

/-! ## Checks and answers of desk requests (R63, R79, R80) -/

/-- R79: the lamp states, in the order of the table. -/
inductive Lamp where
  | partnerRequest | live | requesting | waiting | refused | off
  deriving DecidableEq, Repr

/-- R184: a lamp state is sent as its place in the list of R79. -/
def Lamp.code : Lamp → Nat
  | .partnerRequest => 0 | .live => 1 | .requesting => 2 | .waiting => 3 | .refused => 4 | .off => 5

/-- Whether desk `d` is booth `b`'s live desk. -/
def BoothRun.liveDesk (r : BoothRun) (d : Nat) : Bool := decide (r.live.map Prod.fst = some d)

/-- R79: the lamp state of booth `b` desk `d`. -/
def State.lamp (s : State) (b d : Nat) : Lamp :=
  if (s.booth b).liveDesk d then (if (s.booth b).offer.isSome then .partnerRequest else .live)
  else if (s.booth b).offer.map Prod.fst = some d then .requesting
  else if (s.booth b).pending.map Prod.fst = some d then .waiting
  else if (s.desk b d).refused then .refused
  else .off

/-- R63, check 3: the booth is present in the on-air bank and the desk within its desks in use. -/
def State.deskInUse (s : State) (b d : Nat) : Bool :=
  match s.planBooth b with
  | some e => decide (d ≤ e.desksInUse)
  | none => false

/-- R63, R80: a reply that carries the requesting desk's lamp as it stands after the request. -/
def withLamp (b d : Nat) (c : Claim) : Reply := ⟨c.st, c.code, [f1 (c.st.lamp b d).code]⟩

/-- R63: the checks of a desk request, then its own rule; the lamp state follows every answer but those to
parameters out of range. -/
def deskReply (b d : Nat) (more : List Bool) (rule : State → Claim) (s : State) : Reply :=
  checked (okBooth b :: okDesk d :: more) s
    (withLamp b d
      (if !s.onAir then ⟨s, .notOnAir⟩ else if !s.deskInUse b d then ⟨s, .badDesk⟩ else rule s))

/-! ## Desk requests -/

/-- R65: the cases of MIC_ON, the REFUSED latch having been cleared. -/
def State.micOn (s : State) (b d : Nat) : Claim :=
  if (s.booth b).liveDesk d then ⟨s, .done⟩
  else if (s.booth b).offer.map Prod.fst = some d then ⟨s, .offered⟩
  else if (s.booth b).pending.map Prod.fst = some d then ⟨s, .waiting⟩
  else s.ask b d (s.desk b d).output

/-- MIC_ON (R65). -/
def execMicOn (booth desk : Nat) (s : State) : Result :=
  serve .desk Code.micOn (deskReply booth desk [] fun s => (s.setRefused booth desk false).micOn booth desk) s

/-- R69: the effect of MIC_OFF by the desk's position in the booth. -/
def State.micOff (s : State) (b d : Nat) : State :=
  if (s.booth b).liveDesk d then
    match (s.booth b).live with
    | some (_, c) => s.giveUp b d c
    | none => s
  else if (s.booth b).offer.map Prod.fst = some d then s.dropOffer b
  else if (s.booth b).pending.map Prod.fst = some d then s.withdraw b
  else s

/-- MIC_OFF (R69). -/
def execMicOff (booth desk : Nat) (s : State) : Result :=
  serve .desk Code.micOff (deskReply booth desk [] fun s => ⟨s.micOff booth desk, .done⟩) s

/-- The state with desk `d`'s output selected. -/
def State.select (s : State) (b d : Nat) (x : Output) : State := s.setDesk b d { s.desk b d with output := x }

/-- R74: OUTPUT from a desk that is not live: a queue entry or an offer of the desk is withdrawn. -/
def State.outputIdle (s : State) (b d : Nat) (x : Output) : State :=
  (if (s.booth b).pending.map Prod.fst = some d then s.withdraw b
    else if (s.booth b).offer.map Prod.fst = some d then s.dropOffer b else s).select b d x

/-- R75, steps 3 and 4: the claim of the other output's channel; where the desk is not granted, an offer against it is
cancelled. -/
def State.claimOther (s : State) (b d c : Nat) (x : Output) : Claim :=
  if (s.chan c).holder = none then s.claimChannel b d c x
  else ⟨((s.claimChannel b d c x).st).cancelOffer b, (s.claimChannel b d c x).code⟩

/-- R75: OUTPUT from the live desk `d` on channel `c` moves it to output `x` and its channel `c'`. -/
def State.outputLive (s : State) (b d c c' : Nat) (x : Output) : Claim :=
  ((((s.release b c .output).passQueue c).select b d x).claimOther b d c' x)

/-- R74, R75: the rule of OUTPUT. -/
def State.changeOutput (s : State) (b d : Nat) (x : Output) : Claim :=
  if (s.desk b d).output = x then ⟨s, .done⟩
  else if (s.booth b).liveDesk d then
    match s.planChannel b x, (s.booth b).live with
    | some c', some (_, c) => s.outputLive b d c c' x
    | _, _ => ⟨s, .channelUnassigned⟩
  else ⟨s.outputIdle b d x, .done⟩

/-- OUTPUT (R74, R75). -/
def execOutput (booth desk out : Nat) (s : State) : Result :=
  serve .desk Code.output (deskReply booth desk [inRange 0 1 out] fun s =>
    s.changeOutput booth desk (Output.ofPlace out)) s

/-- R76: a live desk's cough. -/
def State.setCough (s : State) (b d : Nat) (on : Bool) : Claim :=
  if (s.booth b).liveDesk d then ⟨s.setDesk b d { s.desk b d with cough := on }, .done⟩ else ⟨s, .notLive⟩

/-- COUGH_ON (R76). -/
def execCoughOn (booth desk : Nat) (s : State) : Result :=
  serve .desk Code.coughOn (deskReply booth desk [] fun s => s.setCough booth desk true) s

/-- COUGH_OFF (R76). -/
def execCoughOff (booth desk : Nat) (s : State) : Result :=
  serve .desk Code.coughOff (deskReply booth desk [] fun s => s.setCough booth desk false) s

/-- R77: an interpreter number that a desk other than booth `b` desk `d` holds. -/
def State.idElsewhere (s : State) (b d n : Nat) : Bool :=
  s.bdc.desks.any fun e => decide (e.1 ≠ deskKey b d) && decide (e.2.interpreter = some n)

/-- R77: the identity report of a live desk: its turn closes with reason SIGN_ON and a new one opens. -/
def State.reportIdentity (s : State) (b d : Nat) : State :=
  match (s.booth b).live with
  | some (e, c) => if e = d then (s.closeTurn b .signOn).openTurn b d c else s
  | none => s

/-- R77: the desk's interpreter becomes `who`. -/
def State.setInterpreter (s : State) (b d : Nat) (who : Option Nat) : State :=
  if (s.desk b d).interpreter = who then s
  else (s.setDesk b d { s.desk b d with interpreter := who }).reportIdentity b d

/-- SIGN_ON (R77). -/
def execSignOn (booth desk interpreter : Nat) (s : State) : Result :=
  serve .desk Code.signOn (deskReply booth desk [inRange 1 9999 interpreter] fun s =>
    if s.idElsewhere booth desk interpreter then ⟨s, .idInUse⟩
    else ⟨s.setInterpreter booth desk (some interpreter), .done⟩) s

/-- SIGN_OFF (R77). -/
def execSignOff (booth desk : Nat) (s : State) : Result :=
  serve .desk Code.signOff (deskReply booth desk [] fun s => ⟨s.setInterpreter booth desk none, .done⟩) s

/-- R78: whether a source mode names the booth's own A or B channel. -/
def State.namesOwn (s : State) (b : Nat) : SourceMode → Bool
  | .fixed c => s.ownChannel b c
  | _ => false

/-- R78: the rule of SOURCE. -/
def State.changeSource (s : State) (b : Nat) (mode : SourceMode) : Claim :=
  if s.namesOwn b mode then ⟨s, .ownChannel⟩ else ⟨s.setSource b mode, .done⟩

/-- SOURCE (R78, R97). -/
def execSource (booth desk mode channel : Nat) (s : State) : Result :=
  serve .desk Code.source (deskReply booth desk [inRange 0 1 mode || (decide (mode = 2) && okChannel channel)] fun s =>
    s.changeSource booth (SourceMode.ofPlace mode channel)) s

/-! ## Polling and reading -/

/-- R81: the state of the channel on an output: FREE 0, OWN 1, TAKEN 2; absent without a channel. -/
def State.outputState (s : State) (b : Nat) (x : Output) : Option Nat :=
  (s.planChannel b x).map fun c =>
    match (s.chan c).holder with
    | none => 0
    | some who => if who.booth = b then 1 else 2

/-- R81: the fields of one desk. -/
def pollDesk (s : State) (b d : Nat) : List Field :=
  [f1 (s.lamp b d).code, fBit (s.desk b d).cough, f1 (s.desk b d).output.code]

/-- R81: the fields of POLL. -/
def pollFields (s : State) (b : Nat) : List Field :=
  (List.range' 1 (((s.planBooth b).map BoothEntry.desksInUse).getD 0)).flatMap (pollDesk s b)
    ++ [fOpt 1 (s.outputState b .a), fOpt 1 (s.outputState b .b)]
    ++ fMode (s.relayRec b).mode ++ [f1 (s.relayRec b).depth, f1 (s.relayRec b).status.code]
    ++ [fBit (decide (s.framer.override ≠ .off))]

/-- R63, R81: the reply of POLL; the desk number is ignored. -/
def pollReply (b : Nat) (s : State) : Reply :=
  checked [okBooth b] s
    (if !s.onAir then ⟨s, .notOnAir, []⟩
      else if (s.planBooth b).isNone then ⟨s, .badDesk, []⟩
      else ⟨s, .done, pollFields s b⟩)

/-- POLL (R81). -/
def execPoll (booth _desk : Nat) (s : State) : Result := serve .desk Code.poll (pollReply booth) s

/-- R87: a booth's queue position on the channel of its pending output, 1 being the oldest. -/
def State.queuePosition (s : State) (b d : Nat) (x : Output) : Option Nat :=
  (s.planChannel b x).bind fun c => ((s.chan c).queue.findIdx? fun e => e = ⟨b, d⟩).map fun i => i + 1

/-- R87: the pending request of a booth. -/
def pendingFields (s : State) (b : Nat) : List Field :=
  match (s.booth b).pending with
  | none => [fOpt 1 none, fOpt 1 none, fOpt 1 none]
  | some (d, x) => [f1 d, f1 x.code, fOpt 1 (s.queuePosition b d x)]

/-- R87: the offer of a booth with its timer's seconds left. -/
def offerFields (r : BoothRun) : List Field :=
  match r.offer with
  | none => [fOpt 1 none, fOpt 1 none, fOpt 1 none]
  | some (d, x) => [f1 d, f1 x.code, fOpt 1 r.offerTimer]

/-- R87: the fields of one desk. -/
def readDesk (s : State) (b d : Nat) : List Field :=
  [f1 (s.desk b d).output.code, fBit (s.desk b d).cough, fOpt 2 (s.desk b d).interpreter, fBit (s.desk b d).refused,
    f1 (s.lamp b d).code]

/-- R104: the booth's relay record, the relay hold setting and the floor language. -/
def relayFields (s : State) (b : Nat) : List Field :=
  fMode (s.relayRec b).mode ++ [f1 (s.relayRec b).source.code, f1 (s.relayRec b).depth, f1 (s.relayRec b).status.code,
    fOpt 1 (s.relayRec b).timer, f1 s.relay.hold, f2 s.relay.floorLang]

/-- R87, R104: the fields of BOOTH_READ. -/
def boothReadFields (s : State) (b : Nat) : List Field :=
  [fBit (s.planBooth b).isSome, fOpt 1 ((s.booth b).live.map Prod.fst), fOpt 1 ((s.booth b).live.map Prod.snd)]
    ++ pendingFields s b ++ offerFields (s.booth b)
    ++ (List.range' 1 s.desksPerBooth).flatMap (readDesk s b) ++ relayFields s b

/-- BOOTH_READ (R87, R104). -/
def execBoothRead (booth : Nat) (s : State) : Result :=
  serve .console Code.boothRead (fun s => checked [okBooth booth] s ⟨s, .done, boothReadFields s booth⟩) s

/-! ## Console control and the offer timer -/

/-- R82: the effect of FORCE_OFF on a live desk's channel `c`. -/
def State.forceOff (s : State) (b c : Nat) : State := ((s.cancelOffer b).release b c .forced).passQueue c

/-- R82: the rule of FORCE_OFF. -/
def forceOffReply (b : Nat) (s : State) : Reply :=
  if !s.onAir then ⟨s, .notOnAir, []⟩
  else match (s.booth b).live with
    | none => ⟨s, .notLive, []⟩
    | some (_, c) => ⟨s.forceOff b c, .done, []⟩

/-- FORCE_OFF (R82). -/
def execForceOff (booth : Nat) (s : State) : Result :=
  serve .console Code.forceOff (fun s => checked [okBooth booth] s (forceOffReply booth s)) s

/-- R83 step 1, R85: every wait queue is emptied, every pending request, offer and REFUSED latch cleared, every offer
timer stopped; live desks, outputs, cough and sign-on stay. -/
def State.clearWaits (s : State) : State :=
  s.setBdc
    { desks := (s.bdc.desks.map fun e => (e.1, { e.2 with refused := false })).filter fun e => e.2 != {}
      booths := Table.fill {} (fun b => { live := (s.booth b).live }) Config.boothNumbers s.bdc.booths
      channels := Table.fill {} (fun c => { holder := (s.chan c).holder }) Config.channelNumbers s.bdc.channels }

/-- R83, step 2: booth `b`'s live desk, if it has one, is released. -/
def State.releaseBooth (s : State) (b : Nat) : State :=
  match (s.booth b).live with
  | some (_, c) => s.release b c .liveReset
  | none => s

/-- R83: the live microphones of the whole part are cleared. -/
def State.liveReset (s : State) : State := Config.boothNumbers.foldl State.releaseBooth s.clearWaits

/-- LIVE_RESET (R83). -/
def execLiveReset (s : State) : Result := serve .console Code.liveReset (fun s => ⟨s.liveReset, .done, []⟩) s

/-- R73: the expiry of booth `b`'s offer timer. -/
def State.offerExpired (s : State) (b : Nat) : State := (s.cancelOffer b).raise .offerExpired 1

/-- OFFER_TIMER_EXPIRY (R73): the expiry of an offer timer that has reached 0; without one no event arises (log entries
3 and 4). -/
def execOfferTimerExpiry (booth : Nat) (s : State) : Result :=
  .next (if (s.booth booth).offerTimer = some 0 then s.offerExpired booth else s)

/-! ## Carry-over at a plan taken (R85, R86) -/

/-- A live desk at the moment a plan is taken: its booth, desk and old channel, and the channel it is carried to, or
none where it is released. -/
structure Carry where
  booth : Nat
  desk : Nat
  old : Nat
  new : Option Nat
  deriving DecidableEq, Repr

/-- R85: the channel that the new plan offers booth `b`'s live desk `d` on its output. -/
def State.carryChannel (s : State) (b d : Nat) : Option Nat :=
  if s.deskInUse b d then s.planChannel b (s.desk b d).output else none

/-- R85: the outcomes, booths in ascending number; a channel already given to a lower-numbered booth's desk is not given
again. -/
def State.carries (s : State) : List Nat → List Nat → List Carry
  | [], _ => []
  | b :: bs, given =>
    match (s.booth b).live with
    | none => s.carries bs given
    | some (d, c) =>
      match s.carryChannel b d with
      | none => ⟨b, d, c, none⟩ :: s.carries bs given
      | some c' =>
        if c' ∈ given then ⟨b, d, c, none⟩ :: s.carries bs given
        else ⟨b, d, c, some c'⟩ :: s.carries bs (c' :: given)

/-- R86: the records are all cleared, and each carried desk becomes its channel's live holder. -/
def State.applyCarry (s : State) : List Carry → State
  | [] => s
  | x :: xs =>
    match x.new with
    | none => s.applyCarry xs
    | some c' => (s.setLive x.booth x.desk c').applyCarry xs

/-- R86: the old channel is released in the mixer and stops producing, unless a carried desk now holds it. -/
def State.leaveOld (s : State) (c : Nat) : State :=
  if (s.chan c).holder = none then (s.mixRelease c).clearProducer c else s

/-- R86: the reports of one outcome. -/
def State.reportCarry (s : State) (x : Carry) : State :=
  match x.new with
  | none => (s.leaveOld x.old).closeTurn x.booth .switch
  | some c' =>
    if c' = x.old then (s.mixGrant c' ⟨x.booth, x.desk⟩).setProducer c' x.booth
    else (((((s.leaveOld x.old).mixGrant c' ⟨x.booth, x.desk⟩).closeTurn x.booth .switch).openTurn x.booth x.desk
      c').setProducer c' x.booth)

/-- R86: all live holders and booth live desks cleared. -/
def State.clearLives (s : State) : State := s.setBdc { s.bdc with booths := [], channels := [] }

/-- R85, R86: the carry-over against the plan now on air. Waits and offers have been cleared, so that a booth's and a
channel's record hold nothing but the live desk. The reports are made booth by booth in ascending number (DESIGN CHOICE,
log entry 34). -/
def State.carryOver (s : State) : State :=
  let xs := s.clearWaits.carries Config.boothNumbers []
  xs.foldl State.reportCarry (s.clearWaits.clearLives.applyCarry xs)

end Sys2Proof.Machine
end

