-- ==== Sys2Proof/Machine/Framer.lean ====
section
/-! DEFINITION. CFR, the carrier framer (chapter 2): headers and trailers, frame boundaries, the plan taken, START,
STANDBY, SWITCH, ANNOUNCE, ANNOUNCE_END, LINE_MODE, FRAMER_READ and the framer's events. -/

namespace Sys2Proof.Machine

/-! ## Header and trailer (R31 to R34) -/

/-- R33: a directory entry of an enabled channel. -/
def entryBytes (channel lang first count : Nat) : List Byte :=
  bytesOf 1 channel ++ bytesOf 2 lang ++ bytesOf 1 first ++ bytesOf 1 (128 + count)

/-- R31: the directory entry of channel `c`; channel 0 is the floor. -/
def State.directoryEntry (s : State) (c : Nat) : List Byte :=
  if c = 0 then entryBytes 0 s.relay.floorLang 0 2
  else if s.enabled c then
    entryBytes c (s.planEntry c).lang (((s.planPlace c).map Place.first).getD 0)
      (((s.planPlace c).map Place.count).getD 0)
  else bytesOf 1 c ++ [0, 0, 0, 0]

/-- R33: the flags byte of a header. -/
def State.headerFlags (s : State) (transition override : Bool) : Nat :=
  (if transition then 128 else 0) + (if override then 64 else 0) + (if s.straps.slotsHigh then 32 else 0)
    + s.framer.fragment

/-- R33: bytes 0 to 25 of a header: the frame mark, the numbers, the flags and the directory fragment. -/
def State.headerFields (s : State) (transition override : Bool) : List Byte :=
  [0xA6] ++ bytesOf 3 s.framer.frameNumber ++ bytesOf 1 s.framer.planNumber
    ++ bytesOf 1 (s.headerFlags transition override)
    ++ (List.range' (4 * s.framer.fragment) 4).flatMap s.directoryEntry

/-- R33, R34: the 28 bytes of a header. -/
def State.header (s : State) (transition override : Bool) : List Byte :=
  s.headerFields transition override ++ crcBytes (s.headerFields transition override)

/-- R33, R34: a trailer. -/
def trailerBytes (early : Bool) (sent : Nat) : List Byte :=
  bytesOf 1 (if early then 128 else 0) ++ bytesOf 1 sent

/-- R34, R38: the number of slots sent whole at a cut-in: 0 where the cut falls in the frame that a boundary taken in
the same instant began, else a free value from 0 to SLOTS − 1 (log entry 10). -/
def State.slotsAtCut (s : State) : Nat :=
  if Config.cutWithBoundary s.freeIndex then 0 else Config.slotsSentAtCut s.freeIndex % s.slots

/-! ## Frame beginnings -/

/-- R30: the number of the frame after a frame. -/
def nextFrameNumber (n : Nat) : Nat := (n + 1) % Config.frameModulus

/-- R30: the plan number of the plan taken next. -/
def nextPlanNumber (n : Nat) : Nat := (n + 1) % Config.planModulus

/-- R31: the fragment index of the frame after a frame that is not a TRANSITION frame's predecessor. -/
def nextFragment (k : Nat) : Nat := (k + 1) % 8

/-- R41: whether a frame beginning gives a pulse; `marked` holds for a TRANSITION frame, a frame begun by a cut-in and
the first frame after an override. -/
def LineMode.pulses (m : LineMode) (marked : Bool) : Bool :=
  match m with
  | .off => false
  | .every => true
  | .change => marked

/-- R46: the frame that begins now, its header built and its slots fixed. -/
def State.newFrame (s : State) (transition override marked : Bool) : Frame :=
  { header := s.header transition override, transition := transition, override := override,
    pulse := s.framer.lineMode.pulses marked, slots := s.frameSlots transition override }

/-- R29, R46, R52: a frame begins: the ramps advance, the frame is fixed and every booth feed is fixed. -/
def State.beginFrame (s : State) (transition override marked : Bool) : State :=
  (s.advanceRamps.setFramer { s.framer with frame := some (s.advanceRamps.newFrame transition override marked) }).fixFeeds

/-- R29, R34: the frame in progress ends whole. -/
def State.endFrame (s : State) : State :=
  s.setFramer { s.framer with trailer := some (trailerBytes false s.slots) }

/-- R34, R38: the frame in progress ends early at a cut-in. -/
def State.cutFrame (s : State) : State :=
  (s.setFramer { s.framer with trailer := some (trailerBytes true s.slotsAtCut) }).setFree (s.freeIndex + 1)

/-- R30, R31: the numbers of a frame that continues the plan on air. -/
def Framer.continued (f : Framer) : Framer :=
  { f with frameNumber := nextFrameNumber f.frameNumber, fragment := nextFragment f.fragment }

/-! ## The plan taken (R37) -/

/-- R37, R101, R151: a plan has been taken: the ramps go, the holds end, the live desks are carried over, every booth is
resolved and orphaned presets are marked. -/
def State.planTaken (s : State) : State := ((s.dropRamps.endAllHolds).carryOver.resolve).markOrphans

/-- R7, R36: the bank that was on air becomes VALID and bank `k` becomes ON_AIR. -/
def State.exchangeBanks (s : State) (k : Nat) : State :=
  match s.onAirBank with
  | none => s.setBank k { s.bank k with status := .onAir }
  | some j => (s.setBank j (s.bank j).retired).setBank k { s.bank k with status := .onAir }

/-- R30, R31, R36: the framer's numbers at a boundary at which a switch is taken. -/
def Framer.switched (f : Framer) : Framer :=
  { f with frameNumber := nextFrameNumber f.frameNumber, planNumber := nextPlanNumber f.planNumber, fragment := 0,
           pendingSwitch := none }

/-- R36: the switch to bank `k` is taken at this boundary. -/
def State.takeSwitch (s : State) (k : Nat) : State :=
  ((((s.exchangeBanks k).setFramer s.framer.switched).beginFrame true false true).raise .switchDone 1).planTaken

/-! ## The frame boundary -/

/-- R40: the override at a frame boundary. -/
def Override.atBoundary : Override → Override
  | .ending => .off
  | x => x

/-- R40: the override ends at a boundary after it has become ENDING. -/
def State.endOverride (s : State) : State :=
  s.setFramer { s.framer with override := s.framer.override.atBoundary }

/-- R36: the switch that this boundary takes. -/
def State.dueSwitch (s : State) : Option Nat :=
  if s.framer.override = .off then s.framer.pendingSwitch else none

/-- R29, R36: the frame that begins at this boundary; `ended` tells that the override ends here. -/
def State.nextFrame (s : State) (ended : Bool) : State :=
  match s.dueSwitch with
  | some k => s.takeSwitch k
  | none => (s.setFramer s.framer.continued).beginFrame false (decide (s.framer.override ≠ .off)) ended

/-- R29: a frame boundary: the trailer, the override's end, and the next frame. -/
def State.boundary (s : State) : State := (s.endFrame.endOverride).nextFrame (decide (s.framer.override = .ending))

/-- FRAME_BOUNDARY (R29, R36, R40): while the framer is not ON_AIR no boundary arises (log entry 4). -/
def execFrameBoundary (s : State) : Result := .next (if s.onAir then s.boundary else s)

/-! ## START and the settle interval (R25, R26) -/

/-- R25: the framer in its settle interval. -/
def State.beginSettle (s : State) : State :=
  s.setFramer { s.framer with state := .starting, settle := Config.settlePeriods }

/-- R25: the rule of START. -/
def startReply (k : Nat) (s : State) : Reply :=
  if s.framer.state ≠ .standby then ⟨s, .wrongState, []⟩
  else match s.validationRefusal (s.bank k) with
    | some (code, fields) => ⟨s, code, fields⟩
    | none => ⟨(s.commitBank k .onAir).beginSettle, .accepted, fAlloc (s.allocation (s.bank k))⟩

/-- START (R25). -/
def execStart (bank : Nat) (s : State) : Result :=
  serve .console Code.start (fun s => checked [okBank bank] s (startReply bank s)) s

/-- R26: the framer at the end of the settle interval. -/
def Framer.started (f : Framer) : Framer :=
  { f with state := .onAir, settle := 0, planNumber := nextPlanNumber f.planNumber, fragment := 0 }

/-- R26: the settle interval ends: the first frame begins and the plan is taken. -/
def State.endSettle (s : State) : State :=
  (((s.setFramer s.framer.started).beginFrame true false true).raise .startDone 1).planTaken

/-- R26: one expiry of the frame-period timer in STARTING. -/
def State.settleTick (s : State) : State :=
  if s.framer.settle - 1 = 0 then s.endSettle else s.setFramer { s.framer with settle := s.framer.settle - 1 }

/-- SETTLE_TICK (R26): outside STARTING the timer does not run (log entry 4). -/
def execSettleTick (s : State) : Result := .next (if s.framer.state = .starting then s.settleTick else s)

/-! ## STANDBY (R27, R28) -/

/-- R7, R27, R28: every bank that is ON_AIR or PENDING becomes VALID and loses its allocation. -/
def Bank.offAir (p : Bank) : Bank := if p.status.editable then p else p.retired

/-- R7: the banks after STANDBY or the reset pin. -/
def State.retireBanks (s : State) : State :=
  s.setBanks (Table.fill {} (fun k => (s.bank k).offAir) Config.bankNumbers s.banks)

/-- R27: a start is abandoned. -/
def State.abandonStart (s : State) : State :=
  (s.retireBanks.setFramer { s.framer with state := .standby, settle := 0 }).raise .standbyDone 1

/-- R28, R48: the final frame, its remaining slots without any desk. -/
def State.finalFrame (s : State) : Option Frame :=
  s.framer.frame.map fun f => { f with slots := s.closingSlots f.override }

/-- R28: the framer when STANDBY is taken in ON_AIR: the frame in progress is completed, and the frame number is the one
the next frame will carry. -/
def State.stopFramer (s : State) : State :=
  s.setFramer { s.framer with
    state := .standby
    override := .off
    pendingSwitch := none
    frameNumber := nextFrameNumber s.framer.frameNumber
    frame := none
    closing := s.finalFrame }

/-- R28, R54, R84, R102: the effect of STANDBY in ON_AIR when it is taken. -/
def State.stop (s : State) : State := ((s.retireBanks.stopFramer).relayStandby.liveReset).mixStandby

/-- R27, R28: the rule of STANDBY. -/
def standbyReply (s : State) : Reply :=
  match s.framer.state with
  | .standby => ⟨s, .wrongState, []⟩
  | .starting => ⟨s.abandonStart, .accepted, []⟩
  | .onAir => if s.meter.sitting.isOpen then ⟨s, .sittingOpen, []⟩ else ⟨s.stop, .accepted, []⟩

/-- STANDBY (R27, R28). -/
def execStandby (s : State) : Result := serve .console Code.standby standbyReply s

/-- R28: the trailer of the final frame has been sent. -/
def State.closeFinal (s : State) : State :=
  (s.setFramer { s.framer with closing := none, trailer := some (trailerBytes false s.slots) }).raise .standbyDone 1

/-- STANDBY_FINAL_FRAME_END (R28): where no final frame is being completed no such event arises (log entry 4). -/
def execStandbyFinalFrameEnd (s : State) : Result := .next (if s.framer.closing.isSome then s.closeFinal else s)

/-! ## SWITCH (R35) -/

/-- R35: a bank accepted for a switch. -/
def State.acceptSwitch (s : State) (k : Nat) : State :=
  (s.commitBank k .pending).setFramer { s.framer with pendingSwitch := some k }

/-- R35: the rule of SWITCH. -/
def switchReply (k : Nat) (s : State) : Reply :=
  if !s.onAir then ⟨s, .wrongState, []⟩
  else if s.framer.pendingSwitch.isSome then ⟨s, .switchPending, []⟩
  else if s.onAirBank = some k then ⟨s, .bankLocked, []⟩
  else match s.validationRefusal (s.bank k) with
    | some (code, fields) => ⟨s, code, fields⟩
    | none => ⟨s.acceptSwitch k, .accepted, fAlloc (s.allocation (s.bank k))⟩

/-- SWITCH (R35). -/
def execSwitch (bank : Nat) (s : State) : Result :=
  serve .console Code.switch (fun s => checked [okBank bank] s (switchReply bank s)) s

/-! ## The override (R38, R40) -/

/-- R38: the framer after a cut, with the override ON and the numbers of the frame begun by the cut-in. -/
def Framer.overridden (f : Framer) : Framer := { f.continued with override := .on }

/-- R38: the effect of ANNOUNCE when it is taken. -/
def State.announce (s : State) : State :=
  ((s.cutFrame.setFramer s.cutFrame.framer.overridden).beginFrame false true true).raise .announceTaken 1

/-- R38: the rule of ANNOUNCE. -/
def announceReply (s : State) : Reply :=
  match s.framer.state with
  | .standby => ⟨s, .notOnAir, []⟩
  | .starting => ⟨s, .wrongState, []⟩
  | .onAir => if s.framer.override = .off then ⟨s.announce, .accepted, []⟩ else ⟨s, .already, []⟩

/-- ANNOUNCE (R38). -/
def execAnnounce (s : State) : Result := serve .console Code.announce announceReply s

/-- R40: the rule of ANNOUNCE_END. -/
def announceEndReply (s : State) : Reply :=
  match s.framer.override with
  | .off => ⟨s, .notActive, []⟩
  | .on => ⟨s.setFramer { s.framer with override := .ending }, .done, []⟩
  | .ending => ⟨s, .done, []⟩

/-- ANNOUNCE_END (R40). -/
def execAnnounceEnd (s : State) : Result := serve .console Code.announceEnd announceEndReply s

/-! ## The boundary line and reading (R41, R42) -/

/-- LINE_MODE (R41): OFF 0, EVERY 1, CHANGE 2. -/
def execLineMode (mode : Nat) (s : State) : Result :=
  serve .console Code.lineMode (fun s =>
    checked [inRange 0 2 mode] s ⟨s.setFramer { s.framer with lineMode := LineMode.ofPlace mode }, .done, []⟩) s

/-- R42: the fields of FRAMER_READ. -/
def framerFields (s : State) : List Field :=
  [f1 s.framer.state.code, f1 s.framer.settle, fOpt 1 s.onAirBank, fOpt 1 s.framer.pendingSwitch,
    f3 s.framer.frameNumber, f1 s.framer.planNumber, f1 s.framer.fragment, f1 s.framer.override.code,
    f1 s.framer.lineMode.code, f1 s.slots]

/-- FRAMER_READ (R42). -/
def execFramerRead (s : State) : Result := serve .console Code.framerRead (fun s => ⟨s, .done, framerFields s⟩) s

end Sys2Proof.Machine
end

