-- ==== Sys2Proof/Machine/Registry.lean ====
section
/-! DEFINITION. RRG, the receiver register (chapter 7): registration and its window, reading, withdrawal, repair and rack
reports. -/

namespace Sys2Proof.Machine

/-! ## Searches -/

/-- The first free slot among `n` slots from `slot` on. -/
def firstFree (t : Table Receiver) : Nat → Nat → Option Nat
  | _, 0 => none
  | slot, n + 1 => if (Table.fetch? t slot).isNone then some slot else firstFree t (slot + 1) n

/-- The first occupied slot among `n` slots from `slot` on, with its record. -/
def firstOccupied (t : Table Receiver) : Nat → Nat → Option (Nat × Receiver)
  | _, 0 => none
  | slot, n + 1 =>
    match Table.fetch? t slot with
    | some r => some (slot, r)
    | none => firstOccupied t (slot + 1) n

/-- R126: the slots from the write cursor to the window's end. -/
def Register.searchForward (x : Register) : Option Nat :=
  firstFree x.slots x.window.write (x.window.last + 1 - x.window.write)

/-- R127: the slots from the write cursor to the end, and then those from the start up to the cursor. -/
def Register.searchRound (x : Register) : Option Nat :=
  match x.searchForward with
  | some slot => some slot
  | none => firstFree x.slots x.window.first (x.window.write - x.window.first)

/-- R126, R127: the slot that RX_REGISTER_NEXT finds; none where the window is full. -/
def Register.nextFree (x : Register) : Option Nat := if x.window.wrap then x.searchRound else x.searchForward

/-- R126, R127: the write cursor after a registration in `slot`. -/
def Window.advance (w : Window) (slot : Nat) : Window :=
  { w with write := if w.wrap ∧ w.last < slot + 1 then w.first else slot + 1 }

/-! ## Registration -/

/-- R123: the record of a newly registered receiver. -/
def Receiver.fresh (serial : Nat) (cls : RxClass) : Receiver := { serial := serial, cls := cls }

/-- The state with the registration window replaced. -/
def State.setWindow (s : State) (w : Window) : State := s.setRegister { s.register with window := w }

/-- R124: the rule of RX_REGISTER. -/
def registerReply (serial : Nat) (cls : RxClass) (s : State) : Reply :=
  match s.receiver serial with
  | some (slot, _) => ⟨s, .duplicate, [f2 slot]⟩
  | none =>
    match firstFree s.register.slots 0 Config.registerSize with
    | none => ⟨s, .registerFull, []⟩
    | some slot => ⟨s.setSlot slot (Receiver.fresh serial cls), .done, [f2 slot]⟩

/-- RX_REGISTER (R124). -/
def execRxRegister (serial cls : Nat) (s : State) : Result :=
  serve .counter Code.rxRegister (fun s =>
    checked [okSerial serial, inRange 0 1 cls] s (registerReply serial (RxClass.ofPlace cls) s)) s

/-- R126, R127: the rule of RX_REGISTER_NEXT. -/
def registerNextReply (serial : Nat) (cls : RxClass) (s : State) : Reply :=
  match s.receiver serial with
  | some (slot, _) => ⟨s, .duplicate, [f2 slot]⟩
  | none =>
    match s.register.nextFree with
    | none => ⟨s, .windowFull, []⟩
    | some slot =>
      ⟨(s.setSlot slot (Receiver.fresh serial cls)).setWindow (s.register.window.advance slot), .done, [f2 slot]⟩

/-- RX_REGISTER_NEXT (R126, R127). -/
def execRxRegisterNext (serial cls : Nat) (s : State) : Result :=
  serve .counter Code.rxRegisterNext (fun s =>
    checked [okSerial serial, inRange 0 1 cls] s (registerNextReply serial (RxClass.ofPlace cls) s)) s

/-- R125: the window that RX_WINDOW sets, both cursors at its start. -/
def Window.ofParams (first last mode : Nat) : Window :=
  { first := first, last := last, wrap := yes mode, write := first, read := first }

/-- RX_WINDOW (R125): mode IGNORE 0 or WRAP 1. -/
def execRxWindow (first last mode : Nat) (s : State) : Result :=
  serve .counter Code.rxWindow (fun s =>
    checked [okSlot first, okSlot last && decide (first ≤ last), inRange 0 1 mode] s
      ⟨s.setWindow (Window.ofParams first last mode), .done, []⟩) s

/-! ## Reading -/

/-- R130: every field of a receiver record with its slot. -/
def receiverFields (slot : Nat) (r : Receiver) : List Field :=
  [f2 slot, f2 r.serial, f1 r.cls.code, f1 r.state.code, fOpt 2 (r.hire.map HireFields.account),
    fOpt 2 (r.hire.map HireFields.preset), fBit r.orphaned, fOpt 4 (r.hire.map HireFields.issueTime),
    fOpt 2 (r.hire.map HireFields.issueSitting), fOpt 1 (r.hire.map fun h => if h.openAtIssue then 1 else 0),
    fOpt 2 (r.hire.map HireFields.deposit), f2 r.lifetimeHires, f1 r.lastRack.code]

/-- R129: the rule of RX_READ_NEXT. -/
def readNextReply (s : State) : Reply :=
  match firstOccupied s.register.slots s.register.window.read
      (s.register.window.last + 1 - s.register.window.read) with
  | some (slot, r) =>
    ⟨s.setWindow { s.register.window with read := slot + 1 }, .done, receiverFields slot r⟩
  | none => ⟨s.setWindow { s.register.window with read := s.register.window.last + 1 }, .endOfWindow, []⟩

/-- RX_READ_NEXT (R129). -/
def execRxReadNext (s : State) : Result := serve .counter Code.rxReadNext readNextReply s

/-- R130: the rule of RX_QUERY. -/
def queryReply (serial : Nat) (s : State) : Reply :=
  match s.receiver serial with
  | none => ⟨s, .noSuchReceiver, []⟩
  | some (slot, r) => ⟨s, .done, receiverFields slot r⟩

/-- RX_QUERY (R130). -/
def execRxQuery (link : MasterLink) (serial : Nat) (s : State) : Result :=
  serve link.toLink Code.rxQuery (fun s => checked [okSerial serial] s (queryReply serial s)) s

/-! ## Withdrawal, repair and rack reports -/

/-- R131: a slot becomes free. -/
def State.freeSlot (s : State) (slot : Nat) : State :=
  s.setRegister { s.register with slots := Table.remove s.register.slots slot }

/-- R131: the rule of RX_WITHDRAW. -/
def withdrawReply (serial : Nat) (s : State) : Reply :=
  match s.receiver serial with
  | none => ⟨s, .noSuchReceiver, []⟩
  | some (slot, r) =>
    if r.onHire then ⟨s, .wrongState, [f1 r.state.code]⟩ else ⟨s.freeSlot slot, .done, [f2 slot]⟩

/-- RX_WITHDRAW (R131). -/
def execRxWithdraw (serial : Nat) (s : State) : Result :=
  serve .counter Code.rxWithdraw (fun s => checked [okSerial serial] s (withdrawReply serial s)) s

/-- R131: the rule of REPAIRED. -/
def repairedReply (serial : Nat) (s : State) : Reply :=
  match s.receiver serial with
  | none => ⟨s, .noSuchReceiver, []⟩
  | some (slot, r) =>
    if r.state = .faulty then ⟨s.setSlot slot { r with state := .charging, lastRack := .none }, .done, []⟩
    else ⟨s, .wrongState, [f1 r.state.code]⟩

/-- REPAIRED (R131). -/
def execRepaired (serial : Nat) (s : State) : Result :=
  serve .counter Code.repaired (fun s => checked [okSerial serial] s (repairedReply serial s)) s

/-- R132: the record after a rack result, where its state takes the result. -/
def Receiver.racked (r : Receiver) (result : RackResult) : Option Receiver :=
  match r.state, result with
  | .charging, .charged => some { r with state := .available, lastRack := .charged }
  | .charging, .fault => some { r with state := .faulty, lastRack := .fault }
  | .available, .fault => some { r with state := .faulty, lastRack := .fault }
  | _, _ => none

/-- R133: the record after an auto-return to which the result has been applied. -/
def Receiver.autoReturned (r : Receiver) (result : RackResult) : Receiver :=
  ((r.offHire .charging).racked result).getD (r.offHire .charging)

/-- R133: an auto-return: the return with path RACK, RACK_RETURN, then the result. -/
def State.autoReturn (s : State) (slot : Nat) (r : Receiver) (h : HireFields) (result : RackResult) : State :=
  ((s.leaveHire slot r h .rack).raiseCounter .rackReturn 1).setSlot slot (r.autoReturned result)

/-- R133, R134: the rule of RACK_REPORT for a receiver on hire. -/
def autoReturnReply (slot : Nat) (r : Receiver) (h : HireFields) (result : RackResult) (s : State) : Reply :=
  if !s.hireSideRoom then ⟨s.setSlot slot { r with lastRack := result }, .journalFull, [f1 r.state.code]⟩
  else ⟨s.autoReturn slot r h result, .done,
    [f1 (r.autoReturned result).state.code, f2 h.account] ++ settlementFields s r h .rack⟩

/-- R132: the rule of RACK_REPORT for a receiver not on hire. -/
def rackReply (slot : Nat) (r : Receiver) (result : RackResult) (s : State) : Reply :=
  match r.racked result with
  | some r' => ⟨s.setSlot slot r', .done, [f1 r'.state.code]⟩
  | none => ⟨s, .wrongState, [f1 r.state.code]⟩

/-- R132 to R134: the rule of RACK_REPORT. -/
def rackReportReply (serial : Nat) (result : RackResult) (s : State) : Reply :=
  match s.receiver serial with
  | none => ⟨s, .noSuchReceiver, []⟩
  | some (slot, r) =>
    match r.onHire, r.hire with
    | true, some h => autoReturnReply slot r h result s
    | _, _ => rackReply slot r result s

/-- RACK_REPORT (R132 to R134). -/
def execRackReport (serial result : Nat) (s : State) : Result :=
  serve .counter Code.rackReport (fun s =>
    checked [okSerial serial, inRange 0 1 result] s (rackReportReply serial (RackResult.ofPlace result) s)) s

end Sys2Proof.Machine
end

