-- ==== Sys2Proof/Machine/Resets.lean ====
section
/-! DEFINITION. Power-on and the reset pin: what each block takes and keeps (R23, R43, R58, R88, R105, R119, R136, R157,
R181, R197). -/

namespace Sys2Proof.Machine

/-- The part after power-on with the straps as sampled; the commands and the bytes that wait, and the count of free
values used, are the model's own and stay. -/
def State.powered (s : State) (slotsHigh desksHigh : Bool) : State :=
  { straps := { slotsHigh := slotsHigh, desksHigh := desksHigh }, freeIndex := s.freeIndex, pending := s.pending,
    arriving := s.arriving }

/-- POWER_ON (R196): every block takes its power-on values. -/
def execPowerOn (slotsHigh desksHigh : Bool) (s : State) : Result := .next (s.powered slotsHigh desksHigh)

/-- R58: the mixer at the reset pin keeps its two settings. -/
def Mixer.pinReset (m : Mixer) : Mixer := { rampLength := m.rampLength, offerTimeout := m.offerTimeout }

/-- R105: the resolver at the reset pin keeps the relay hold setting. -/
def Relay.pinReset (r : Relay) : Relay := { hold := r.hold }

/-- R119: the meter at the reset pin keeps meter time, the sitting number and the return grace setting. -/
def Meter.pinReset (m : Meter) : Meter :=
  { time := m.time, sitting := { number := m.sitting.number }, graceSetting := m.graceSetting }

/-- R136: the register at the reset pin keeps its records; the window is set anew. -/
def Register.pinReset (x : Register) : Register := { slots := x.slots }

/-- R197: the console link at the reset pin: a frame in reception is discarded and an answer lost, and a select period
in which a frame was received or in reception yields no answer, so that nothing more is received until it ends. The byte
shifted out last is told until then (log entry 8). -/
def ConsoleLink.pinReset (x : ConsoleLink) : ConsoleLink :=
  { period := x.period || decide (x.receive ≠ .hunting), out := x.out }

/-- R23, R43, R58, R88, R105, R119, R136, R197: the reset pin clears live operation and keeps stored work; the hire
records (R157), the journal (R181) and the straps (R196) are kept as they stand. -/
def State.pinReset (s : State) : State :=
  ((((((((s.retireBanks.setFramer {}).setMixer s.mixer.pinReset).setBdc {}).setRelay s.relay.pinReset).setMeter
    s.meter.pinReset).setRegister s.register.pinReset).setLinks { console := s.links.console.pinReset }).setHeld
    true)

/-- RESET_PIN (R43): the pin is asserted and held. -/
def execResetPin (s : State) : Result := .next s.pinReset

/-- RESET_PIN_RELEASE (R106, R197): the pin is released; the one-second timer and the receivers run again. -/
def execResetPinRelease (s : State) : Result := .next (s.setHeld false)

end Sys2Proof.Machine
end

