-- ==== Sys2Proof/Machine/Dispatch.lean ====
section
/-! DEFINITION. The dispatch of commands to their meanings, one arm per row of the table. -/

namespace Sys2Proof.Machine

def exec (i : Instr) (s : State) : Host.Outcome State Fault Refusal :=
  match i with
  | .powerOn slotsHigh desksHigh => Sys2Proof.Machine.execPowerOn slotsHigh desksHigh s
  | .resetPin => Sys2Proof.Machine.execResetPin s
  | .resetPinRelease => Sys2Proof.Machine.execResetPinRelease s
  | .chSet bank channel enabled lang quality fill => Sys2Proof.Machine.execChSet bank channel enabled lang quality fill s
  | .boothSet bank booth present a b count c1 c2 c3 c4 desks => Sys2Proof.Machine.execBoothSet bank booth present a b count c1 c2 c3 c4 desks s
  | .bankClear bank => Sys2Proof.Machine.execBankClear bank s
  | .bankCopy source target => Sys2Proof.Machine.execBankCopy source target s
  | .bankCheck bank => Sys2Proof.Machine.execBankCheck bank s
  | .bankRead bank kind item => Sys2Proof.Machine.execBankRead bank kind item s
  | .start bank => Sys2Proof.Machine.execStart bank s
  | .standby => Sys2Proof.Machine.execStandby s
  | .standbyFinalFrameEnd => Sys2Proof.Machine.execStandbyFinalFrameEnd s
  | .settleTick => Sys2Proof.Machine.execSettleTick s
  | .switch bank => Sys2Proof.Machine.execSwitch bank s
  | .frameBoundary => Sys2Proof.Machine.execFrameBoundary s
  | .announce => Sys2Proof.Machine.execAnnounce s
  | .announceEnd => Sys2Proof.Machine.execAnnounceEnd s
  | .lineMode mode => Sys2Proof.Machine.execLineMode mode s
  | .framerRead => Sys2Proof.Machine.execFramerRead s
  | .handoverSet ramp offer => Sys2Proof.Machine.execHandoverSet ramp offer s
  | .channelRead channel => Sys2Proof.Machine.execChannelRead channel s
  | .forceOff booth => Sys2Proof.Machine.execForceOff booth s
  | .liveReset => Sys2Proof.Machine.execLiveReset s
  | .boothRead booth => Sys2Proof.Machine.execBoothRead booth s
  | .floorLang code => Sys2Proof.Machine.execFloorLang code s
  | .relaySet hold => Sys2Proof.Machine.execRelaySet hold s
  | .sittingOpen => Sys2Proof.Machine.execSittingOpen s
  | .sittingClose => Sys2Proof.Machine.execSittingClose s
  | .returnGrace minutes => Sys2Proof.Machine.execReturnGrace minutes s
  | .sittingRead kind item => Sys2Proof.Machine.execSittingRead kind item s
  | .tariffSet grace unit rate cap fee loss deposit => Sys2Proof.Machine.execTariffSet grace unit rate cap fee loss deposit s
  | .tallyRead => Sys2Proof.Machine.execTallyRead s
  | .jnlRead => Sys2Proof.Machine.execJnlRead s
  | .jnlAck sequence => Sys2Proof.Machine.execJnlAck sequence s
  | .rxQuery link serial => Sys2Proof.Machine.execRxQuery link serial s
  | .acctQuery link account => Sys2Proof.Machine.execAcctQuery link account s
  | .flagsRead link => Sys2Proof.Machine.execFlagsRead link s
  | .flagsClear link selection => Sys2Proof.Machine.execFlagsClear link selection s
  | .maskSet link mask => Sys2Proof.Machine.execMaskSet link mask s
  | .rxRegister serial cls => Sys2Proof.Machine.execRxRegister serial cls s
  | .rxRegisterNext serial cls => Sys2Proof.Machine.execRxRegisterNext serial cls s
  | .rxWindow first last mode => Sys2Proof.Machine.execRxWindow first last mode s
  | .rxReadNext => Sys2Proof.Machine.execRxReadNext s
  | .rxWithdraw serial => Sys2Proof.Machine.execRxWithdraw serial s
  | .repaired serial => Sys2Proof.Machine.execRepaired serial s
  | .rackReport serial result => Sys2Proof.Machine.execRackReport serial result s
  | .acctOpen account kind limit credit => Sys2Proof.Machine.execAcctOpen account kind limit credit s
  | .acctLimit account limit credit => Sys2Proof.Machine.execAcctLimit account limit credit s
  | .acctPay account amount => Sys2Proof.Machine.execAcctPay account amount s
  | .acctClose account => Sys2Proof.Machine.execAcctClose account s
  | .issue serial account preset deposit => Sys2Proof.Machine.execIssue serial account preset deposit s
  | .rxPreset serial lang => Sys2Proof.Machine.execRxPreset serial lang s
  | .rxReturn serial => Sys2Proof.Machine.execRxReturn serial s
  | .lost serial => Sys2Proof.Machine.execLost serial s
  | .found serial => Sys2Proof.Machine.execFound serial s
  | .micOn booth desk => Sys2Proof.Machine.execMicOn booth desk s
  | .micOff booth desk => Sys2Proof.Machine.execMicOff booth desk s
  | .output booth desk out => Sys2Proof.Machine.execOutput booth desk out s
  | .coughOn booth desk => Sys2Proof.Machine.execCoughOn booth desk s
  | .coughOff booth desk => Sys2Proof.Machine.execCoughOff booth desk s
  | .signOn booth desk interpreter => Sys2Proof.Machine.execSignOn booth desk interpreter s
  | .signOff booth desk => Sys2Proof.Machine.execSignOff booth desk s
  | .source booth desk mode channel => Sys2Proof.Machine.execSource booth desk mode channel s
  | .poll booth desk => Sys2Proof.Machine.execPoll booth desk s
  | .meterSecond => Sys2Proof.Machine.execMeterSecond s
  | .offerTimerExpiry booth => Sys2Proof.Machine.execOfferTimerExpiry booth s
  | .holdTimerExpiry booth => Sys2Proof.Machine.execHoldTimerExpiry booth s
  | .returnGraceExpiry => Sys2Proof.Machine.execReturnGraceExpiry s
  | .badCrcFrame link => Sys2Proof.Machine.execBadCrcFrame link s
  | .unknownRequest link code params => Sys2Proof.Machine.execUnknownRequest link code params s
  | .zeroLengthFrame link => Sys2Proof.Machine.execZeroLengthFrame link s
  | .uartGapTimeout link byte => Sys2Proof.Machine.execUartGapTimeout link byte s
  | .uartFramingError link => Sys2Proof.Machine.execUartFramingError link s
  | .selectDeassert => Sys2Proof.Machine.execSelectDeassert s
  | .answerSent link => Sys2Proof.Machine.execAnswerSent link s

end Sys2Proof.Machine
end

