-- ==== Sys2Proof/Machine/Reception.lean ====
section
/-! DEFINITION. The receivers of the links, byte by byte (R185, R186, R197): hunting, the frame in reception, and the
command that a complete frame leads to; and the byte that the console's data output shifts out meanwhile. -/

namespace Sys2Proof.Machine

/-- The receiver of a link. -/
def State.receiverOf (s : State) : Link → Receive
  | .console => s.links.console.receive
  | .counter => s.links.counter.receive
  | .desk => s.links.desk.receive

/-- The state with a link's receiver set. -/
def State.setReceiver (s : State) (l : Link) (r : Receive) : State :=
  match l with
  | .console => s.setLinks { s.links with console := { s.links.console with receive := r } }
  | .counter => s.setUart .counter { s.uart .counter with receive := r }
  | .desk => s.setUart .desk { s.uart .desk with receive := r }

/-- R185: a receiver after a byte; `opens` tells that the byte 0xC5 may begin a frame. -/
def Receive.take (opens : Bool) (byte : Byte) : Receive → Receive
  | .hunting => if byte = 0xC5 ∧ opens then .begun else .hunting
  | .begun => if byte = 0 then .hunting else .body byte []
  | .body length taken => .body length (taken ++ [byte])

/-- R185: the length byte, the body and the CRC of a frame that is complete: L body bytes and 2 CRC bytes. -/
def Receive.complete : Receive → Option (List Byte)
  | .body length taken => if taken.length = length.toNat + 2 then some (length :: taken) else none
  | _ => none

/-- R186, R197: a byte is received on a link: on no link while the pin is held, on the console not after the frame of
its select period. -/
def State.hears (s : State) : Link → Bool
  | .console => !s.resetHeld && !s.links.console.period
  | .counter | .desk => !s.resetHeld

/-- R185: the receiver hunts again after a complete frame, and the command that the frame stands for is taken (R187,
R188). -/
def State.takeFrame (s : State) (l : Link) (frame : List Byte) : Result :=
  match readCounted l frame with
  | some i => exec i (s.setReceiver l .hunting)
  | none => .next (s.setReceiver l .hunting)

/-- R185: a byte that a link's receiver hears. -/
def State.receiveByte (s : State) (l : Link) (byte : Byte) : Result :=
  match ((s.receiverOf l).take (s.receives l) byte).complete with
  | some frame => s.takeFrame l frame
  | none => .next (s.setReceiver l ((s.receiverOf l).take (s.receives l) byte))

/-- R185, R186, R197: a byte reaches a link. While the pin is held nothing comes of it; on the console a byte is shifted
out for it, whether it is heard or ignored. -/
def State.takeByte (s : State) (l : Link) (byte : Byte) : Result :=
  if s.resetHeld then .next s
  else if s.hears l then (s.shiftOut l).receiveByte l byte
  else .next (s.shiftOut l)

/-- The first byte that arrives is received; without one the part idles (log entries 1 and 9). -/
def State.takeArrival (s : State) : Result :=
  match s.arriving with
  | [] => .next s
  | a :: rest => (s.setArriving rest).takeByte a.link a.byte

end Sys2Proof.Machine
end

