-- ==== Sys2Proof/WellFormed.lean ====
section
/-! DEFINITION. Well-formed commands: those that the links, timers and pins can produce. -/

namespace Sys2Proof

/-- R183: each parameter fits the width that the frame gives it. -/
def paramsFit : List Nat → List Nat → Bool
  | [], [] => true
  | w :: ws, p :: ps => decide (p < 256 ^ w) && paramsFit ws ps
  | _, _ => false

/-- R183, R184: a request that a frame on its link can carry. -/
def Request.wellFormed (r : Request) : Bool := r.link.takes r.code && paramsFit (requestWidths r.code) r.params

/-- R187: a body that LNK turns away at check 2 or 3, of at most 255 bytes with its code (R183). -/
def turnedAway (l : Link) (code : Nat) (params : List Byte) : Bool :=
  decide (code < 256) && decide (params.length < 255) && (l.turnsAway code params.length).isSome

/-- A command that can arise: a request within its widths, a body that LNK turns away, an expiry of one of the 31
booths' timers, or any other event. -/
def Instr.wellFormed (i : Instr) : Bool :=
  match i.request with
  | some r => r.wellFormed
  | none =>
    match i with
    | .unknownRequest link code params => turnedAway link code params
    | .offerTimerExpiry booth | .holdTimerExpiry booth => decide (booth ∈ Config.boothNumbers)
    | _ => true

end Sys2Proof
end

