-- ==== Sys2Proof/Safety.lean ====
section
/-! DEFINITION. The laws that the data book states of the part's records, as properties of a state. -/

namespace Sys2Proof.Machine

/-! ## The journal (R170, R173) -/

/-- R173: the numbers of the entries in the ring and the counter behind them follow one another without a gap. -/
def Journal.numbers (j : Journal) : List Nat := j.entries.map Entry.seq ++ [j.next]

/-- R170, R173: at most 1,024 entries; every number and the counter from 1 to 4,294,967,295; each number the one after
the number before it. -/
structure Journal.Law (j : Journal) : Prop where
  size : j.entries.length ≤ Config.journalSize
  range : ∀ n ∈ j.numbers, 1 ≤ n ∧ n ≤ Config.max32
  unbroken : j.numbers.IsChain fun m n => n = nextSequence m

/-! ## Banks and framer (R6, R7, R24) -/

/-- R24, R30, R31: the framer's counts within their ranges; a settle count runs exactly in STARTING; override and
pending switch only in ON_AIR. -/
structure Framer.Law (f : Framer) : Prop where
  frameNumber : f.frameNumber < Config.frameModulus
  planNumber : f.planNumber < Config.planModulus
  fragment : f.fragment < 8
  settle : if f.state = .starting then 1 ≤ f.settle ∧ f.settle ≤ Config.settlePeriods else f.settle = 0
  override : f.state ≠ .onAir → f.override = .off
  pending : f.state ≠ .onAir → f.pendingSwitch = none

/-- R6, R7, R24: an allocation is present exactly in PENDING and ON_AIR; exactly one bank is ON_AIR while the framer is
STARTING or ON_AIR and none in STANDBY; the pending bank is the one that the framer holds. -/
structure State.PlanLaw (s : State) : Prop where
  framer : s.framer.Law
  alloc : ∀ k, (s.bank k).alloc.isSome ↔ (s.bank k).status = .pending ∨ (s.bank k).status = .onAir
  numbers : ∀ k, s.bank k ≠ {} → k ∈ Config.bankNumbers
  standby : s.framer.state = .standby → ∀ k, (s.bank k).status ≠ .onAir
  live : s.framer.state ≠ .standby → ∃ k, (s.bank k).status = .onAir
  one : ∀ j k, (s.bank j).status = .onAir → (s.bank k).status = .onAir → j = k
  pending : ∀ k, (s.bank k).status = .pending ↔ s.framer.pendingSwitch = some k

/-! ## The live microphones (R45, R60 to R62, R90) -/

/-- R5: the channels that a booth entry names are 1 to 31. -/
def BoothEntry.inRange (e : BoothEntry) : Prop :=
  ∀ x c, e.channelOn x = some c → c ∈ Config.channelNumbers

/-- R60 to R62, with the copies of the live holders that the mixer (R45) and the relay resolver (R90) keep. -/
structure State.MicLaw (s : State) : Prop where
  /-- R5: every booth entry of every bank names channels 1 to 31 only. -/
  entries : ∀ k b, (s.boothEntry (s.bank k) b).inRange
  /-- Only booths 1 to 31 and channels 1 to 31 have records. -/
  booths : ∀ b, s.booth b ≠ {} → b ∈ Config.boothNumbers
  channels : ∀ c, s.chan c ≠ {} → c ∈ Config.channelNumbers
  /-- R59: the desks that are live, offering or waiting are 1 to 3. -/
  live : ∀ b d c, (s.booth b).live = some (d, c) → d ∈ [1, 2, 3]
  offering : ∀ b d x, (s.booth b).offer = some (d, x) → d ∈ [1, 2, 3]
  waiting : ∀ b d x, (s.booth b).pending = some (d, x) → d ∈ [1, 2, 3]
  /-- R61: holder and live desk name each other. -/
  named : ∀ b d c, (s.booth b).live = some (d, c) ↔ (s.chan c).holder = some ⟨b, d⟩
  /-- R60: an offer only while the booth has a live desk, and never that desk's. -/
  offer : ∀ b e y, (s.booth b).offer = some (e, y) → ∃ d c, (s.booth b).live = some (d, c) ∧ d ≠ e
  /-- R60: a pending request only while the booth has no live desk. -/
  pending : ∀ b, (s.booth b).pending.isSome → (s.booth b).live = none
  /-- R60: the offer timer runs exactly while an offer is present. -/
  timer : ∀ b, (s.booth b).offerTimer.isSome = (s.booth b).offer.isSome
  /-- R60, R62: who waits in a queue has the booth's pending request, and who has one waits in a queue. -/
  waits : ∀ c w, w ∈ (s.chan c).queue → (s.booth w.booth).pending.map Prod.fst = some w.desk
  queued : ∀ b d x, (s.booth b).pending = some (d, x) → ∃ c, (⟨b, d⟩ : DeskId) ∈ (s.chan c).queue
  /-- R62: at most four entries, never two of one booth. -/
  size : ∀ c, (s.chan c).queue.length ≤ Config.queueSize
  once : ∀ c, ((s.chan c).queue.map DeskId.booth).Nodup
  /-- R83: outside ON_AIR no desk is live and no queue or offer exists. -/
  quiet : s.framer.state ≠ .onAir → (∀ b, s.booth b = {}) ∧ ∀ c, s.chan c = {}
  /-- R45: the mixer's live desk is a copy of the live holder; of a ramp it is the incoming desk. -/
  carriage : ∀ c, (s.carriage c).live = (s.chan c).holder
  ramp : ∀ c r, (s.carriage c).ramp = some r → (s.carriage c).live = some r.incoming
  /-- R90: the relay resolver's producing booth is the live holder's. -/
  producer : ∀ c, s.producer c = (s.chan c).holder.map DeskId.booth

/-! ## Relay records (R89 to R102) -/

/-- R89, R93, R99, R102: a hold timer runs exactly in HOLDING, which only an AUTO booth on a channel at depth 1 or 2 is
in; depth 0 is the floor; outside ON_AIR every booth has FLOOR, depth 0 and OK; the mixer's feed source is a copy of the
resolved source (R45). -/
structure State.RelayLaw (s : State) : Prop where
  booths : ∀ b, s.relayRec b ≠ {} → b ∈ Config.boothNumbers
  timer : ∀ b, (s.relayRec b).timer.isSome ↔ (s.relayRec b).status = .holding
  held : ∀ b, (s.relayRec b).status = .holding → (s.relayRec b).mode = .auto ∧ ∃ c, (s.relayRec b).source = .channel c
  lost : ∀ b, (s.relayRec b).status = .noRelay → (s.relayRec b).source = .floor
  floor : ∀ b, (s.relayRec b).source = .floor ↔ (s.relayRec b).depth = 0
  depth : ∀ b, (s.relayRec b).depth ≤ 3
  layered : ∀ b, (∀ c, (s.relayRec b).mode ≠ .fixed c) → (s.relayRec b).depth ≤ 2
  quiet : s.framer.state ≠ .onAir → ∀ b, s.relayRec b = (s.relayRec b).standby
  feed : ∀ b, s.feedSource b = (s.relayRec b).source

/-! ## Turns and the return grace (R110, R116) -/

/-- R110, R111: a sitting is open only in ON_AIR; while it is open every live desk has one open turn, with its channel
and interpreter, and while it is closed there is no turn; the return grace is within its range. -/
structure State.TurnLaw (s : State) : Prop where
  onAir : s.meter.sitting.isOpen = true → s.framer.state = .onAir
  live : ∀ b t, s.turn b = some t → s.meter.sitting.isOpen = true ∧ (s.booth b).live = some (t.desk, t.channel)
  interpreter : ∀ b t, s.turn b = some t → t.interpreter = (s.desk b t.desk).interpreter
  metered : s.meter.sitting.isOpen = true → ∀ b, (s.booth b).live.isSome → (s.turn b).isSome
  /-- R115, R116: the return grace setting is 0 to 240 minutes; a running timer has 1 to 14,400 seconds left. -/
  setting : s.meter.graceSetting ≤ 240
  grace : ∀ n, s.meter.graceTimer = some n → 1 ≤ n ∧ n ≤ 14400

/-! ## Receivers on hire (R120, R121, R137, R138, R148) -/

/-- The records of the register that are ON_HIRE or OVERDUE. -/
def Register.onHire (x : Register) : List Receiver := (x.slots.map Prod.snd).filter Receiver.onHire

/-- Whether a record's hire names an account. -/
def Receiver.names (r : Receiver) (account : Nat) : Bool := decide (r.hire.map HireFields.account = some account)

/-- Whether a record's hire has a preset. -/
def Receiver.presets (r : Receiver) (lang : Nat) : Bool := decide (r.hire.map HireFields.preset = some lang)

/-- Whether a record's preset has a language entry in the tally. -/
def Tally.lists (t : Tally) (r : Receiver) : Bool :=
  match r.hire with
  | some h => (Table.fetch? t.langs h.preset).isSome
  | none => false

/-- R120, R121, R137, R138, R148: the register's, the accounts' and the tally's counts agree with the records on hire. -/
structure State.HireLaw (s : State) : Prop where
  /-- R121: no two records hold the same serial. -/
  serials : (s.register.slots.map fun e => e.2.serial).Nodup
  /-- Slots are listed once each. -/
  slots : (s.register.slots.map Prod.fst).Nodup
  /-- R120: the hire fields are present exactly in ON_HIRE and OVERDUE, and the orphaned flag is set only there. -/
  hire : ∀ e ∈ s.register.slots, e.2.hire.isSome = e.2.onHire
  orphaned : ∀ e ∈ s.register.slots, e.2.orphaned = true → e.2.onHire = true
  /-- R138: every record on hire names an account. -/
  accounts : ∀ r ∈ s.register.onHire, ∀ h, r.hire = some h → (s.account h.account).isSome
  /-- R138: out_count and deposits_held count the records on hire that name the account. -/
  out : ∀ a x, s.account a = some x → x.outCount = (s.register.onHire.filter fun r => r.names a).length
  limit : ∀ a x, s.account a = some x → x.outCount ≤ x.limit
  /-- R139: an account's state follows its balance. -/
  blocked : ∀ a x, s.account a = some x → x.blocked =
    match x.kind with
    | .personal => decide (0 < x.balance)
    | .delegation => decide (x.credit < x.balance)
  deposits : ∀ a x, s.account a = some x →
    x.deposits = ((s.register.onHire.filter fun r => r.names a).map fun r => (r.hire.map HireFields.deposit).getD 0).sum
  /-- R148: a language entry counts the records on hire with its preset, OTHER those without an entry. -/
  tally : ∀ lang n, Table.fetch? s.hire.tally.langs lang = some n →
    n = (s.register.onHire.filter fun r => r.presets lang).length
  other : s.hire.tally.other = (s.register.onHire.filter fun r => !s.hire.tally.lists r).length
  entries : s.hire.tally.langs.length ≤ Config.tallyPlaces

/-! ## Canonical tables -/

/-- Numbers strictly rising: the form of a table that has no cleared record. -/
def Rising {α : Type} (t : Table α) : Prop := t.Pairwise fun x y => x.1 < y.1

/-- Every table of the state is in its canonical form: numbers strictly rising, no cleared record listed. -/
structure State.TablesLaw (s : State) : Prop where
  banks : Table.wf {} s.banks = true
  carriage : Table.wf {} s.mixer.carriage = true
  feedSource : Table.wf .floor s.mixer.feedSource = true
  feeds : Table.wf .floor s.mixer.feeds = true
  desks : Table.wf {} s.bdc.desks = true
  booths : Table.wf {} s.bdc.booths = true
  channels : Table.wf {} s.bdc.channels = true
  relay : Table.wf {} s.relay.booths = true
  totals : Table.wf {} s.meter.totals = true
  langs : Table.wf 0 s.hire.tally.langs = true
  consoleCounts : Table.wf 0 s.links.consoleFlags.counts = true
  counterCounts : Table.wf 0 s.links.counterFlags.counts = true
  producers : Rising s.relay.producers
  turns : Rising s.meter.turns
  slots : Rising s.register.slots
  accounts : Rising s.hire.accounts

/-! ## Frames: what a command leaves alone -/

/-- The parts of the state that a frame speaks of. -/
inductive Block where
  | straps | banks | framer | mixer | bdc | relay | meter | register | hire | journal | links | held | free | pending
  | arriving
  deriving DecidableEq, Repr

/-- Two states agree in a block. -/
def State.agrees (s t : State) : Block → Prop
  | .straps => t.straps = s.straps
  | .banks => t.banks = s.banks
  | .framer => t.framer = s.framer
  | .mixer => t.mixer = s.mixer
  | .bdc => t.bdc = s.bdc
  | .relay => t.relay = s.relay
  | .meter => t.meter = s.meter
  | .register => t.register = s.register
  | .hire => t.hire = s.hire
  | .journal => t.journal = s.journal
  | .links => t.links = s.links
  | .held => t.resetHeld = s.resetHeld
  | .free => t.freeIndex = s.freeIndex
  | .pending => t.pending = s.pending
  | .arriving => t.arriving = s.arriving

/-- `t` agrees with `s` in every block but those listed. -/
def State.onlyChanges (s t : State) (bs : List Block) : Prop := ∀ x, x ∉ bs → s.agrees t x

/-- The three links' frames, answers and receivers are as they were; only flags may differ. -/
def State.sameLinks (s t : State) : Prop :=
  t.links.console = s.links.console ∧ t.links.counter = s.links.counter ∧ t.links.desk = s.links.desk

/-! ## Parameter ranges (R187, check 4) -/

/-- The ranges that the rules give the parameters of each request, in the order in which R187 counts them (log entry
15). A clamped parameter has none. -/
def Instr.paramsInRange (s : State) : Instr → List Prop
  | .chSet bank channel enabled lang quality fill =>
    [bank ≤ 3, 1 ≤ channel ∧ channel ≤ 31, enabled ≤ 1, lang ≤ 999, quality ≤ 2, fill ≤ 1]
  | .boothSet bank booth present a b count c1 c2 c3 c4 desks =>
    [bank ≤ 3, 1 ≤ booth ∧ booth ≤ 31, present ≤ 1, a ≤ 31, b ≤ 31,
      count ≤ 4 ∧ (∀ c ∈ [c1, c2, c3, c4].take count, 1 ≤ c ∧ c ≤ 999) ∧ ([c1, c2, c3, c4].take count).Nodup,
      1 ≤ desks ∧ desks ≤ s.desksPerBooth]
  | .bankClear bank | .bankCheck bank | .start bank | .switch bank => [bank ≤ 3]
  | .bankCopy origin target => [origin ≤ 3, target ≤ 3 ∧ origin ≠ target]
  | .bankRead bank kind item => [bank ≤ 3, kind = 0 ∨ (kind = 1 ∨ kind = 2) ∧ 1 ≤ item ∧ item ≤ 31]
  | .lineMode mode => [mode ≤ 2]
  | .channelRead channel => [1 ≤ channel ∧ channel ≤ 31]
  | .forceOff booth | .boothRead booth => [1 ≤ booth ∧ booth ≤ 31]
  | .floorLang code => [code ≤ 999]
  | .sittingRead kind item => [kind = 0 ∨ kind = 1 ∧ 1 ≤ item ∧ item ≤ 31]
  | .rxQuery _ serial | .rxWithdraw serial | .repaired serial | .rxReturn serial | .lost serial | .found serial =>
    [1 ≤ serial ∧ serial ≤ 65535]
  | .acctQuery _ account | .acctLimit account _ _ | .acctClose account => [1 ≤ account ∧ account ≤ 65535]
  | .flagsClear link n | .maskSet link n =>
    [match link with
      | .console => n ≤ 0x07FF
      | .counter => n ≤ 0x000F]
  | .rxRegister serial cls | .rxRegisterNext serial cls => [1 ≤ serial ∧ serial ≤ 65535, cls ≤ 1]
  | .rxWindow first last mode => [first ≤ 2047, last ≤ 2047 ∧ first ≤ last, mode ≤ 1]
  | .rackReport serial result => [1 ≤ serial ∧ serial ≤ 65535, result ≤ 1]
  | .acctOpen account kind _ _ => [1 ≤ account ∧ account ≤ 65535, kind ≤ 1]
  | .acctPay account amount => [1 ≤ account ∧ account ≤ 65535, amount ≤ 9999999]
  | .issue serial account preset deposit =>
    [1 ≤ serial ∧ serial ≤ 65535, 1 ≤ account ∧ account ≤ 65535, preset ≤ 999, deposit ≤ 65535]
  | .rxPreset serial lang => [1 ≤ serial ∧ serial ≤ 65535, lang ≤ 999]
  | .micOn booth desk | .micOff booth desk | .coughOn booth desk | .coughOff booth desk | .signOff booth desk =>
    [1 ≤ booth ∧ booth ≤ 31, 1 ≤ desk ∧ desk ≤ 3]
  | .output booth desk out => [1 ≤ booth ∧ booth ≤ 31, 1 ≤ desk ∧ desk ≤ 3, out ≤ 1]
  | .signOn booth desk interpreter =>
    [1 ≤ booth ∧ booth ≤ 31, 1 ≤ desk ∧ desk ≤ 3, 1 ≤ interpreter ∧ interpreter ≤ 9999]
  | .source booth desk mode channel =>
    [1 ≤ booth ∧ booth ≤ 31, 1 ≤ desk ∧ desk ≤ 3, mode ≤ 1 ∨ mode = 2 ∧ 1 ≤ channel ∧ channel ≤ 31]
  | .poll booth _ => [1 ≤ booth ∧ booth ≤ 31]
  | _ => []

/-- A command's link receives it and its parameters are in range: what every request's own rule begins from (R187). -/
def State.accepts (s : State) (i : Instr) : Prop :=
  (∀ r, i.request = some r → s.receives r.link = true) ∧ ∀ q ∈ Instr.paramsInRange s i, q

/-- R183, R188: `t` is `s` with one more answer on a link: the console's single answer, or the last of a UART's FIFO; the
link's receiver hunts. -/
def State.answered (s t : State) (a : Answer) : Link → Prop
  | .console =>
    t.links.console.period = true ∧ t.links.console.answer = some a ∧ t.links.console.filler ≤ 2 ∧
      t.links.console.receive = .hunting ∧ t.links.console.sent = 0 ∧ t.links.console.out = some 0 ∧
      t.links.counter = s.links.counter ∧ t.links.desk = s.links.desk
  | .counter =>
    t.links.counter = ⟨.hunting, s.links.counter.fifo ++ [a]⟩ ∧ t.links.console = s.links.console ∧
      t.links.desk = s.links.desk
  | .desk =>
    t.links.desk = ⟨.hunting, s.links.desk.fifo ++ [a]⟩ ∧ t.links.console = s.links.console ∧
      t.links.counter = s.links.counter

/-! ## Validation, condition by condition (R15) -/

/-- R15: the number of the condition that a reason code belongs to. -/
def PlanReason.condition : PlanReason → Nat
  | .noChannel => 1 | .noLanguage => 2 | .languageRepeat => 3 | .aNotEnabled | .bNotEnabled => 4
  | .sameOutputs => 5 | .aShared => 6 | .bOvershared => 7 | .ownLanguage => 8

/-- R15: channel or booth `n` breaks a condition of 2 to 8. -/
def State.breaks (s : State) (p : Bank) (n : Nat) : Nat → Prop
  | 2 => (p.channel n).enabled = true ∧ ¬ (1 ≤ (p.channel n).lang ∧ (p.channel n).lang ≤ 999)
  | 3 =>
    (p.channel n).enabled = true ∧
      ∃ e ∈ Config.channelNumbers, e < n ∧ (p.channel e).enabled = true ∧ (p.channel e).lang = (p.channel n).lang
  | 4 =>
    (s.boothEntry p n).present = true ∧
      ((∀ c, (s.boothEntry p n).a = some c → (p.channel c).enabled = false) ∨
        ∃ c, (s.boothEntry p n).b = some c ∧ (p.channel c).enabled = false)
  | 5 =>
    (s.boothEntry p n).present = true ∧ ∃ c, (s.boothEntry p n).a = some c ∧ (s.boothEntry p n).b = some c
  | 6 =>
    ∃ x ∈ Config.boothNumbers, ∃ y ∈ Config.boothNumbers, x ≠ y ∧ (s.boothEntry p x).present = true ∧
      (s.boothEntry p y).present = true ∧ (s.boothEntry p x).a = some n ∧ (s.boothEntry p y).a = some n
  | 7 =>
    3 < (Config.boothNumbers.filter fun x =>
      (s.boothEntry p x).present && decide ((s.boothEntry p x).b = some n)).length
  | 8 =>
    (s.boothEntry p n).present = true ∧
      ∃ x c, (s.boothEntry p n).channelOn x = some c ∧ (p.channel c).lang ∈ (s.boothEntry p n).prefs
  | _ => False

/-- R15: a condition of 1 to 8 holds. Channels and booths both have the numbers 1 to 31. -/
def State.meets (s : State) (p : Bank) (condition : Nat) : Prop :=
  if condition = 1 then ∃ c ∈ Config.channelNumbers, (p.channel c).enabled = true
  else ∀ n ∈ Config.channelNumbers, ¬ s.breaks p n condition

/-! ## Where the relay rules place booths (R90 to R94) -/

/-- R91: a present booth that layer 0 places. -/
def State.floorPlaced (s : State) (b : Nat) : Prop :=
  ∃ e, s.planBooth b = some e ∧ (s.relayRec b).status ≠ .holding ∧
    ((s.relayRec b).mode = .floor ∨
      (s.relayRec b).mode = .auto ∧ (s.relay.floorLang = 0 ∨ s.relay.floorLang ∈ e.prefs))

/-- R92: a booth that stands one step from the floor: placed at layer 1, or in HOLDING with held depth 1. -/
def State.stepPlaced (s : State) (b : Nat) : Prop :=
  (s.relayRec b).depth = 1 ∧
    ((s.relayRec b).status = .holding ∨ (s.relayRec b).mode = .auto ∧ (s.relayRec b).status = .ok)

/-- R92: a preferred language leads booth `b` to channel `c`: the enabled channel with that language, produced by a
booth that `ok` accepts, and not the booth's own. -/
def State.reaches (s : State) (ok : Nat → Prop) (b lang c : Nat) : Prop :=
  s.channelOf lang = some c ∧ (∃ p, s.producer c = some p ∧ ok p) ∧
    s.planChannel b .a ≠ some c ∧ s.planChannel b .b ≠ some c

/-- R92: channel `c` is the first that a preference list leads to. -/
def State.firstReached (s : State) (ok : Nat → Prop) (b : Nat) (prefs : List Nat) (c : Nat) : Prop :=
  ∃ before lang after, prefs = before ++ lang :: after ∧ s.reaches ok b lang c ∧
    ∀ l ∈ before, ∀ c', ¬ s.reaches ok b l c'

/-- A record's source, depth and status. -/
def RelayRec.at (r : RelayRec) (source : Source) (depth : Nat) (status : RelayStatus) : Prop :=
  r.source = source ∧ r.depth = depth ∧ r.status = status

/-- R91 to R93: where an AUTO booth stands. -/
def State.autoRule (s : State) (b : Nat) (e : BoothEntry) : Prop :=
  if s.relay.floorLang = 0 ∨ s.relay.floorLang ∈ e.prefs then (s.relayRec b).at .floor 0 .ok
  else (∀ c, s.firstReached s.floorPlaced b e.prefs c → (s.relayRec b).at (.channel c) 1 .ok) ∧
    ((∀ c, ¬ s.firstReached s.floorPlaced b e.prefs c) →
      (∀ c, s.firstReached s.stepPlaced b e.prefs c → (s.relayRec b).at (.channel c) 2 .ok) ∧
      ((∀ c, ¬ s.firstReached s.stepPlaced b e.prefs c) → (s.relayRec b).at .floor 0 .noRelay))

/-- R94: where a booth FIXED to channel `c` stands. -/
def State.fixedRule (s : State) (b c : Nat) (e : BoothEntry) : Prop :=
  if e.a = some c ∨ e.b = some c then (s.relayRec b).at .floor 0 .noRelay
  else (∀ p, s.enabled c = true → s.producer c = some p →
      ((∃ x, (s.relayRec p).mode = .fixed x) → (s.relayRec b).at (.channel c) 3 .ok) ∧
      ((∀ x, (s.relayRec p).mode ≠ .fixed x) → (s.relayRec b).at (.channel c) ((s.relayRec p).depth + 1) .ok)) ∧
    (s.enabled c = false ∨ s.producer c = none → (s.relayRec b).at (.channel c) 3 .silent)

/-- R90 to R94: every booth stands where the relay rules place it, those in HOLDING left out. -/
def State.relayPlaced (s : State) : Prop :=
  ∀ b ∈ Config.boothNumbers,
    (s.planBooth b = none → (s.relayRec b).at .floor 0 .ok ∧ (s.relayRec b).timer = none) ∧
    ∀ e, s.planBooth b = some e → (s.relayRec b).status ≠ .holding →
      match (s.relayRec b).mode with
      | .floor => (s.relayRec b).at .floor 0 .ok
      | .auto => s.autoRule b e
      | .fixed c => s.fixedRule b c e

/-- The floor language, the hold setting and every source mode are as they were. -/
def State.relayKept (s t : State) : Prop :=
  t.relay.floorLang = s.relay.floorLang ∧ t.relay.hold = s.relay.hold ∧
    ∀ b, (t.relayRec b).mode = (s.relayRec b).mode

/-! ## What a plan taken and a frame beginning leave -/

/-- R151: a record on hire whose preset is not 0 and is the language of no enabled channel of the plan on air. -/
def State.presetGone (s : State) (r : Receiver) : Bool :=
  match r.hire, s.plan with
  | some h, some p =>
    r.onHire && decide (h.preset ≠ 0) &&
      Config.channelNumbers.all fun c => !((p.channel c).enabled && decide ((p.channel c).lang = h.preset))
  | _, _ => false

/-- R151: from `s` to `t` the records whose preset the plan on air of `t` lacks have been marked. -/
def State.orphansMarked (s t : State) : Prop :=
  t.register.window = s.register.window ∧
    t.register.slots = s.register.slots.map fun e =>
      (e.1, if t.presetGone e.2 then { e.2 with orphaned := true } else e.2)

/-- R151: how many records are newly marked from `s` to `t`. -/
def State.orphanedTo (s t : State) : Nat :=
  (s.register.slots.filter fun e => t.presetGone e.2 && !e.2.orphaned).length

/-- R26, R36, R37: the flags that a plan taken raises after those of its switch or start: RELAY_LOST by the booths newly
without a relay, and ORPHANED on both links by the records newly marked. -/
def State.planFlags (s : State) (lost orphaned : Nat) : State :=
  ((s.raise .relayLost lost).raise .orphaned orphaned).raiseCounter .orphaned orphaned

/-- R52: from `s` to `t` every ramp has advanced by one frame, and a ramp at its end has gone; live desks stay. -/
def State.rampsAdvanced (s t : State) : Prop :=
  ∀ c ∈ Config.channelNumbers, (t.carriage c).live = (s.carriage c).live ∧
    ((s.carriage c).ramp = none → (t.carriage c).ramp = none) ∧
    ∀ r, (s.carriage c).ramp = some r →
      (t.carriage c).ramp = if r.k + 1 < r.len then some { r with k := r.k + 1 } else none

/-- R46, R49: from `s` to `t` a frame with a plan taken has begun, and every feed has been fixed as it began: by the plan
of `t`, with the feed sources, live desks and ramps of `s`, the ramps advanced. -/
def State.feedsFixed (s t : State) : Prop :=
  ∃ u : State, u.straps = s.straps ∧ u.banks = t.banks ∧ u.framer = t.framer ∧ u.bdc = s.bdc ∧
    u.mixer.feedSource = s.mixer.feedSource ∧ s.rampsAdvanced u ∧
    ∀ b ∈ Config.boothNumbers, t.feed b = u.feedSignal b

/-- R116: a record in ON_HIRE whose account is PERSONAL. -/
def State.dueBack (s : State) (r : Receiver) : Bool :=
  match r.state, r.hire with
  | .onHire, some h => (s.account h.account).any fun a => decide (a.kind = .personal)
  | _, _ => false

/-- R116: from `s` to `t` every record in ON_HIRE whose account is PERSONAL has become OVERDUE and no other has changed;
OVERDUE_SWEEP has been raised on both links by the number marked, and the links are otherwise as they were. -/
def State.sweptTo (s t : State) : Prop :=
  t.register.window = s.register.window ∧
    t.register.slots = s.register.slots.map (fun e =>
      (e.1, if s.dueBack e.2 then { e.2 with state := .overdue } else e.2)) ∧
    ∃ n, n = (s.register.slots.filter fun e => s.dueBack e.2).length ∧
      t.links = ((s.raise .overdueSweep n).raiseCounter .overdueSweep n).links

/-! ## No booth relays its own channel (R95) -/

/-- R95: in ON_AIR no booth's resolved source is its own A or B channel in the plan on air. -/
def State.OwnLaw (s : State) : Prop :=
  s.framer.state = .onAir → ∀ b c, (s.relayRec b).source = .channel c →
    s.planChannel b .a ≠ some c ∧ s.planChannel b .b ≠ some c

/-! ## What the live microphones' commands leave alone, and what their reports do -/

/-- Every booth's runtime record but booth `b`'s is as it was. -/
def State.boothsBut (s t : State) (b : Nat) : Prop := ∀ x, x ≠ b → t.booth x = s.booth x

/-- Every channel's runtime and carriage records but channel `c`'s are as they were, and so are the mixer's settings and
what the feeds carry now. -/
def State.channelsBut (s t : State) (c : Nat) : Prop :=
  (∀ x, x ≠ c → t.chan x = s.chan x ∧ t.carriage x = s.carriage x) ∧ t.mixer.feeds = s.mixer.feeds ∧
    t.mixer.rampLength = s.mixer.rampLength ∧ t.mixer.offerTimeout = s.mixer.offerTimeout

/-- Every desk record but that of booth `b` desk `d` is as it was. -/
def State.desksBut (s t : State) (b d : Nat) : Prop :=
  ∀ x y, deskKey x y ≠ deskKey b d → t.desk x y = s.desk x y

/-- Meter time, the return grace and every other booth's turn are as they were. -/
def State.turnsBut (s t : State) (b : Nat) : Prop :=
  t.meter.time = s.meter.time ∧ t.meter.graceSetting = s.meter.graceSetting ∧
    t.meter.graceTimer = s.meter.graceTimer ∧ ∀ x, x ≠ b → t.turn x = s.turn x

/-- R111: the turn that a desk gets on a channel while a sitting is open. -/
def State.newTurn (s : State) (b d c : Nat) : Option Turn :=
  if s.meter.sitting.isOpen then
    some ⟨d, (s.desk b d).interpreter, c, s.carriedQuality c, s.meter.time, 0, 0, 0⟩
  else none

/-- R112, R171: booth `b`'s open turn, if it had one, has ended with a reason: counted in the sitting record, and
written to the journal, or folded into the totals where the journal has no free entry. -/
def State.turnEnded (s t : State) (b : Nat) (reason : Reason) : Prop :=
  (s.turn b = none →
    t.journal = s.journal ∧ t.meter.sitting = s.meter.sitting ∧ t.meter.totals = s.meter.totals) ∧
  ∀ x, s.turn b = some x →
    (s.journal.entries.length < 1024 →
      t.journal = s.journal.append s.meter.time (.turn ⟨s.meter.sitting.number, b, x, s.meter.time, reason⟩) ∧
      t.meter.sitting = { s.meter.sitting with turns := min 65535 (s.meter.sitting.turns + 1) } ∧
      t.meter.totals = s.meter.totals) ∧
    (1024 ≤ s.journal.entries.length →
      t.journal = s.journal ∧
      t.meter.sitting = { s.meter.sitting with
        turns := min 65535 (s.meter.sitting.turns + 1), folded := min 65535 (s.meter.sitting.folded + 1) } ∧
      t.totals b = { s.totals b with
        foldedTurns := min 65535 ((s.totals b).foldedTurns + 1)
        foldedSeconds := min 4294967295 ((s.totals b).foldedSeconds + (x.onAir + x.held)) } ∧
      ∀ y, y ≠ b → t.totals y = s.totals y)

/-- R112: how often a count has grown: not at all, or by `n` up to its limit. -/
def grown (limit count n : Nat) : Nat := if n = 0 then count else min limit (count + n)

/-- The free entries of the journal (R170). -/
def State.room (s : State) : Nat := 1024 - s.journal.entries.length

/-- R171, R173: the journal after entries have been handed over in order: as many as it has room for are written. -/
def State.journalWith (s : State) (bodies : List EntryBody) : Journal :=
  (bodies.take s.room).foldl (fun j x => j.append s.meter.time x) s.journal

/-- R171, R174: the flags after `n` entries have been handed over: JOURNAL_HIGH and JOURNAL_FULL where the writes reach
their levels, and TURN_FOLDED once for each entry without room. -/
def State.handedOver (s : State) (n : Nat) : State :=
  let after := s.journal.entries.length + min n s.room
  let high := if s.journal.entries.length < 896 ∧ 896 ≤ after then s.raise .journalHigh 1 else s
  let full := if s.journal.entries.length < 992 ∧ 992 ≤ after then
    (high.raise .journalFull 1).raiseCounter .journalFull 1 else high
  full.raise .turnFolded (n - s.room)

/-- Those of some booths that have an open turn. -/
def State.metered (s : State) (booths : List Nat) : List Nat := booths.filter fun b => (s.turn b).isSome

/-- R112, R178: the TURN entries of the open turns of some booths, in order, that end now with a reason. -/
def State.turnEntries (s : State) (booths : List Nat) (reason : Reason) : List EntryBody :=
  booths.filterMap fun b => (s.turn b).map fun x =>
    .turn ⟨s.meter.sitting.number, b, x, s.meter.time, reason⟩

/-- R112, R171: the sitting record after the open turns of some booths have ended: counted, and folded where the journal
has no room. -/
def State.turnsCounted (s : State) (booths : List Nat) : Sitting :=
  { s.meter.sitting with
    turns := grown 65535 s.meter.sitting.turns (s.metered booths).length
    folded := grown 65535 s.meter.sitting.folded ((s.metered booths).length - s.room) }

/-- R112, R171: from `s` to `t` the totals of the booths whose turns found no room have taken them in. -/
def State.turnsFolded (s t : State) (booths : List Nat) : Prop :=
  ∀ b, t.totals b =
    if b ∈ (s.metered booths).drop s.room then { s.totals b with
      foldedTurns := min 65535 ((s.totals b).foldedTurns + 1)
      foldedSeconds := min 4294967295 ((s.totals b).foldedSeconds +
        ((s.turn b).map fun x => x.onAir + x.held).getD 0) }
    else s.totals b

/-- R86: the booths whose live desk is not from `s` to `t` what it was, ascending. -/
def State.movedBooths (s t : State) : List Nat :=
  Config.boothNumbers.filter fun b => decide ((t.booth b).live ≠ (s.booth b).live)

/-- The mixer's feeds and settings are as they were: only carriage records and feed sources may differ. -/
def State.mixerBut (s t : State) : Prop :=
  t.mixer = { s.mixer with carriage := t.mixer.carriage, feedSource := t.mixer.feedSource }

/-- Meter time and the return grace are as they were. -/
def State.meterBut (s t : State) : Prop :=
  t.meter = { s.meter with sitting := t.meter.sitting, turns := t.meter.turns, totals := t.meter.totals }

/-- The mixer holds the sources that the relay resolver has resolved (R95). -/
def State.sourcesReported (t : State) : Prop := ∀ x, t.feedSource x = (t.relayRec x).source

/-! ## What the relay resolver makes of the reports of production (R98, R99) -/

/-- R93: how many booths are from `s` to `t` newly in NO_RELAY. -/
def State.lostTo (s t : State) : Nat :=
  (Config.boothNumbers.filter fun b =>
    decide ((t.relayRec b).status = .noRelay) && decide ((s.relayRec b).status ≠ .noRelay)).length

/-- R98, R99: booth `b`'s record in HOLDING once channel `c` is produced by `p`, or by nobody, if it is held then: the
stop of the channel it relayed begins its hold, the start of the channel it is held on ends it. -/
def State.heldRec (s : State) (b c : Nat) (p : Option Nat) : Option RelayRec :=
  if p = none ∧ (s.relayRec b).mode = .auto ∧ (s.relayRec b).status = .ok ∧ (s.relayRec b).source = .channel c ∧
      s.relay.hold ≠ 0 then
    some { s.relayRec b with status := .holding, timer := some s.relay.hold }
  else if (s.relayRec b).status = .holding ∧ (p = none ∨ (s.relayRec b).source ≠ .channel c) then some (s.relayRec b)
  else none

/-- R90, R95, R98, R99: the relay resolver has learnt that channel `c` is produced by `p`, or by nobody, and has placed
every booth of the plan: in HOLDING exactly those that are held then, the others by the relay rules. -/
def State.relayFollows (s t : State) (c : Nat) (p : Option Nat) : Prop :=
  s.relayKept t ∧ (∀ x, t.producer x = if x = c then p else s.producer x) ∧ t.relayPlaced ∧
    ∀ b ∈ Config.boothNumbers, (s.planBooth b).isSome = true →
      match s.heldRec b c p with
      | some r => t.relayRec b = r
      | none => (t.relayRec b).status ≠ .holding ∧ (t.relayRec b).timer = none

/-- R72, R98, R99: the relay resolver has followed reports of production one after another, each a channel and its new
producer; `n` counts over all of them the booths that newly entered NO_RELAY (R93). -/
def State.relayRuns (s t : State) : List (Nat × Option Nat) → Nat → Prop
  | [], n => t.relay = s.relay ∧ n = 0
  | x :: rest, n => ∃ r m, s.relayFollows (s.setRelay r) x.1 x.2 ∧ State.relayRuns (s.setRelay r) t rest m ∧
      n = s.lostTo (s.setRelay r) + m

/-! ## A channel released and passed on (R71, R72) -/

/-- R72: the report of production that follows where channel `c`, released, passes to its oldest waiting desk. -/
def State.passReports (s : State) (c : Nat) : List (Nat × Option Nat) :=
  match (s.chan c).queue with
  | [] => []
  | e :: _ => [(c, some e.booth)]

/-- R66, R72: the wait queue of channel `x` once channel `c` has passed to its oldest waiting desk, if it has one: that
entry has gone, and so has every entry of its booth. -/
def State.passedQueue (s : State) (c x : Nat) : List DeskId :=
  match (s.chan c).queue with
  | [] => (s.chan x).queue
  | e :: rest => if x = c then rest else (s.chan x).queue.filter fun w => decide (w.booth ≠ e.booth)

/-- R66, R71, R72: from `s` to `t` channel `c`, released by booth `b`, is held by its oldest waiting desk, which is live
and heard without a ramp, or by nobody; every other booth but `b` is as it was, turn included. -/
def State.passedOn (s t : State) (b c : Nat) : Prop :=
  t.chan c = ⟨(s.chan c).queue.head?, s.passedQueue c c⟩ ∧ t.carriage c = ⟨(s.chan c).queue.head?, none⟩ ∧
    (∀ e ∈ (s.chan c).queue.head?,
      t.booth e.booth = { s.booth e.booth with live := some (e.desk, c), pending := none } ∧
      t.turn e.booth = s.newTurn e.booth e.desk c) ∧
    ∀ x, x ≠ b → (∀ e ∈ (s.chan c).queue.head?, x ≠ e.booth) → t.booth x = s.booth x ∧ t.turn x = s.turn x

/-- R66, R72: from `s` to `t` channel `x` has kept its holder and its carriage record, and its wait queue but for the
entries of a desk to which channel `c` has passed. -/
def State.keptBeside (s t : State) (c x : Nat) : Prop :=
  (t.chan x).holder = (s.chan x).holder ∧ (t.chan x).queue = s.passedQueue c x ∧ t.carriage x = s.carriage x

/-- The flags after booth `b`'s turn has ended, if it had one, and `lost` booths have newly entered NO_RELAY. -/
def State.releaseFlags (s : State) (b lost : Nat) : State := (s.handedOver (s.metered [b]).length).raise .relayLost lost

/-! ## Hires that begin and end -/

/-- Every slot but `k` holds what it held, and the window is as it was. -/
def State.slotsBut (s t : State) (k : Nat) : Prop :=
  t.register.window = s.register.window ∧
    ∀ x, x ≠ k → Table.fetch? t.register.slots x = Table.fetch? s.register.slots x

/-- Every account but `a`, and the tariff, are as they were. -/
def State.accountsBut (s t : State) (a : Nat) : Prop :=
  t.hire.tariff = s.hire.tariff ∧ ∀ x, x ≠ a → t.account x = s.account x

/-- R149: from `t` to `u` one receiver with preset `lang` has been counted in. -/
def Tally.countedIn (t u : Tally) (lang : Nat) : Prop :=
  (∀ x, x ≠ lang → Table.fetch? u.langs x = Table.fetch? t.langs x) ∧
    match Table.fetch? t.langs lang with
    | some n => Table.fetch? u.langs lang = some (n + 1) ∧ u.other = t.other
    | none =>
      if t.langs.length < 64 ∧ t.other = 0 then Table.fetch? u.langs lang = some 1 ∧ u.other = t.other
      else Table.fetch? u.langs lang = none ∧ u.other = t.other + 1

/-- R149: from `t` to `u` one receiver with preset `lang` has been counted out. -/
def Tally.countedOut (t u : Tally) (lang : Nat) : Prop :=
  (∀ x, x ≠ lang → Table.fetch? u.langs x = Table.fetch? t.langs x) ∧
    match Table.fetch? t.langs lang with
    | some n => Table.fetch? u.langs lang = (if n ≤ 1 then none else some (n - 1)) ∧ u.other = t.other
    | none => Table.fetch? u.langs lang = none ∧ u.other = t.other - 1

/-- R166, R167: an account after a charge: its balance has grown by what the deposit left uncovered, or by the whole
charge of a DELEGATION account, and its state follows the balance (R139). -/
def Account.charged (a : Account) (deposit charge : Nat) : Account :=
  match a.kind with
  | .personal =>
    { a with balance := min 9999999 (a.balance + (charge - deposit))
             blocked := decide (0 < min 9999999 (a.balance + (charge - deposit))) }
  | .delegation =>
    { a with balance := min 9999999 (a.balance + charge)
             blocked := decide (a.credit < min 9999999 (a.balance + charge)) }

/-- R168, R179: the figures of the entry of a hire that ends, with its account and charge. -/
def State.figures (s : State) (r : Receiver) (h : HireFields) (a : Account) (charge : Nat) : HireBody :=
  { serial := r.serial, account := h.account, cls := r.cls, kind := a.kind, issueTime := h.issueTime,
    returnTime := s.meter.time, duration := s.meter.time - h.issueTime,
    units := s.hire.tariff.units (s.meter.time - h.issueTime),
    time := min 999999 (s.hire.tariff.cappedTime r.cls (s.meter.time - h.issueTime)
      (sittingsSpanned h.issueSitting s.meter.sitting.number h.openAtIssue))
    sittings := sittingsSpanned h.issueSitting s.meter.sitting.number h.openAtIssue,
    fee := if r.state = .overdue then s.hire.tariff.fee else 0, charge := charge, deposit := h.deposit,
    refund := match a.kind with
      | .personal => h.deposit - charge
      | .delegation => 0
    owed := match a.kind with
      | .personal => charge - h.deposit
      | .delegation => (a.charged h.deposit charge).balance
    orphaned := r.orphaned }

/-- R152, R133, R153, R174: from `s` to `t` the receiver `r` of a slot has left hire with a charge: the entry is written
with the flags of its write, RACK_RETURN raised besides where the rack reports the return, the account settled, the
receiver counted off the account and out of the tally, and a return and its charge counted in the open sitting, a loss
without a return. -/
def State.leftHire (s t : State) (h : HireFields) (a : Account) (charge : Nat) (lost : Bool) (body : EntryBody) :
    Prop :=
  t.journal = s.journal.append s.meter.time body ∧
    t.links = (match body with
      | .hire _ .rack => (s.writeEntry body).raiseCounter .rackReturn 1
      | _ => s.writeEntry body).links ∧
    s.accountsBut t h.account ∧
    t.account h.account = some { a.charged h.deposit charge with
      outCount := a.outCount - 1, deposits := a.deposits - h.deposit } ∧
    s.hire.tally.countedOut t.hire.tally h.preset ∧
    t.meter = { s.meter with sitting :=
      if s.meter.sitting.isOpen then { s.meter.sitting with
        revenue := min 4294967295 (s.meter.sitting.revenue + charge)
        returns := if lost then s.meter.sitting.returns else min 65535 (s.meter.sitting.returns + 1) }
      else s.meter.sitting }

/-- R168: the settlement as an answer carries it. -/
def settlementAnswer (r : Receiver) (a : Account) (t : Tariff) (deposit charge : Nat) : List Field :=
  [f3 charge, fOpt 2 (if r.state = .overdue ∧ t.fee ≠ 0 then some t.fee else none)] ++
    (match a.kind with
    | .personal => [f2 (deposit - charge), f3 (charge - deposit)]
    | .delegation => []) ++
    [f3 (a.charged deposit charge).balance, fBit (a.charged deposit charge).blocked]

/-! ## Bytes on a link -/

/-- Bytes reach a link one after another. -/
def State.takeBytes (s : State) (l : Link) : List Byte → Result
  | [] => .next s
  | b :: bs =>
    match s.takeByte l b with
    | .next t => t.takeBytes l bs
    | o => o

/-! ## A run that goes on -/

/-- The step answers a next state: no command of this part faults or is refused (R189). -/
def State.Goes (s : State) : Prop := ∃ t, step s = .next t

end Sys2Proof.Machine
end

