-- ==== Sys2Proof/Certificates/Slice0/Obligations.lean ====
section
/-! DEFINITION. The statements for the provers, one definition each. -/

open Sys2Proof Sys2Proof.Machine

/-! ## The queue, requests and answers -/

/-- A step is the command at the front of the queue with the rest of the queue behind it. With no command waiting the
first byte that arrives is received, and without one the part idles, which is the model's choice (log entries 1 and 9). -/
def Obligations.StepTakesFrontCommand : Prop :=
  (∀ (c : Instr) (rest : List Instr) (s : State), s.pending = c :: rest → step s = exec c (s.setPending rest)) ∧
  ∀ s : State, s.pending = [] →
    (s.arriving = [] → step s = .next s) ∧
    ∀ a rest, s.arriving = a :: rest → step s = (s.setArriving rest).takeByte a.link a.byte

/-- Every command leads to a next state that has the same queues; only power-on samples the straps (R196), and only the
pin and power-on move the reset pin (R197). -/
def Obligations.EveryCommandHasANextState : Prop :=
  ∀ (c : Instr) (s : State), ∃ t, exec c s = .next t ∧ t.pending = s.pending ∧ t.arriving = s.arriving ∧
    ((∀ h d, c ≠ .powerOn h d) → t.straps = s.straps ∧
      (c ≠ .resetPin → c ≠ .resetPinRelease → t.resetHeld = s.resetHeld))

/-- Power-on samples the straps and gives every record, counter, setting, flag and link the value its chapter states;
with both straps low that is the model's reset state (log entry 5), and the reset pin is taken as released (log entry
7). -/
def Obligations.PowerOnValues : Prop :=
  (∀ (h d : Bool) (s : State), ∃ t, exec (.powerOn h d) s = .next t ∧
    t.straps = ⟨h, d⟩ ∧ t.slots = (if h then 64 else 48) ∧ t.desksPerBooth = (if d then 3 else 2) ∧
    (∀ k, (t.bank k).status = .empty ∧ (t.bank k).alloc = none ∧
      (∀ c, (t.bank k).channel c = ⟨false, 0, .auto, false⟩) ∧
      ∀ b, t.boothEntry (t.bank k) b = ⟨false, none, none, [], if d then 3 else 2⟩) ∧
    t.framer = ⟨.standby, 0, 0, 0, 0, none, .off, .off, none, none, none⟩ ∧
    (∀ c, t.carriage c = ⟨none, none⟩) ∧ (∀ b, t.feedSource b = .floor ∧ t.feed b = .floor) ∧
    t.mixer.rampLength = 12 ∧ t.mixer.offerTimeout = 30 ∧
    (∀ b n, t.desk b n = ⟨.a, false, none, false⟩) ∧ (∀ b, t.booth b = ⟨none, none, none, none⟩) ∧
    (∀ c, t.chan c = ⟨none, []⟩) ∧
    t.relay.floorLang = 0 ∧ t.relay.hold = 4 ∧ (∀ b, t.relayRec b = ⟨.auto, .floor, 0, .ok, none⟩) ∧
    (∀ c, t.producer c = none) ∧
    t.meter.time = 0 ∧ t.meter.sitting = ⟨false, 0, none, none, 0, 0, 0, 0, 0, 0⟩ ∧ (∀ b, t.turn b = none) ∧
    (∀ b, t.totals b = ⟨0, 0, 0, 0, 0⟩) ∧ t.meter.graceSetting = 30 ∧ t.meter.graceTimer = none ∧
    (∀ k, Table.fetch? t.register.slots k = none) ∧ t.register.window = ⟨0, 2047, false, 0, 0⟩ ∧
    (∀ a, t.account a = none) ∧ t.hire.tariff = ⟨10, 60, 0, 0, 0, 0, 0⟩ ∧ t.hire.tally = ⟨[], 0⟩ ∧
    t.journal = ⟨[], 1⟩ ∧
    t.links = ⟨⟨0, [], 0x07FF⟩, ⟨0, [], 0x000F⟩, ⟨false, none, 0, .hunting, 0, none⟩, ⟨.hunting, []⟩,
      ⟨.hunting, []⟩⟩ ∧
    t.resetHeld = false ∧ t.pending = s.pending ∧ t.arriving = s.arriving) ∧
  exec (.powerOn false false) State.reset = .next State.reset

/-- The reset pin stops the framer, clears the live microphones, the relay, the sitting, the window, the flags and the
links, and takes every locked bank off air; stored settings, meter time, the sitting number, receivers, hire records
and the journal stay. A console select period in which a frame was received or in reception yields no answer; the byte that
it shifted out last is told until it ends, which is the model's choice (log entry 8). Releasing the pin changes nothing
but the pin. -/
def Obligations.ResetPinClearsLiveKeepsStored : Prop :=
  ∀ s : State,
    (∃ t, exec .resetPin s = .next t ∧
      s.onlyChanges t [.banks, .framer, .mixer, .bdc, .relay, .meter, .register, .links, .held] ∧
      (∀ k ∈ Config.bankNumbers, t.bank k =
        if (s.bank k).status = .pending ∨ (s.bank k).status = .onAir then
          { s.bank k with status := .valid, alloc := none }
        else s.bank k) ∧
      (∀ k, k ∉ Config.bankNumbers → t.bank k = s.bank k) ∧
      t.framer = ⟨.standby, 0, 0, 0, 0, none, .off, .off, none, none, none⟩ ∧
      t.mixer = { rampLength := s.mixer.rampLength, offerTimeout := s.mixer.offerTimeout } ∧
      (∀ b d, t.desk b d = ⟨.a, false, none, false⟩) ∧ (∀ b, t.booth b = ⟨none, none, none, none⟩) ∧
      (∀ c, t.chan c = ⟨none, []⟩) ∧
      t.relay = { hold := s.relay.hold } ∧
      t.meter = { time := s.meter.time, sitting := { number := s.meter.sitting.number },
                  graceSetting := s.meter.graceSetting } ∧
      t.register = { slots := s.register.slots } ∧
      (∃ ended, t.links =
          ⟨⟨0, [], 0x07FF⟩, ⟨0, [], 0x000F⟩, ⟨ended, none, 0, .hunting, 0, s.links.console.out⟩, ⟨.hunting, []⟩,
            ⟨.hunting, []⟩⟩ ∧
        (ended = true ↔ s.links.console.period = true ∨ s.links.console.receive ≠ .hunting)) ∧
      t.resetHeld = true) ∧
    ∃ t, exec .resetPinRelease s = .next t ∧ s.onlyChanges t [.held] ∧ t.resetHeld = false

/-- A request that its link receives is answered once, on that link, with its code echoed, and leaves the other links'
frames, answers and receivers alone; one that its link does not receive changes nothing. While the reset pin is released
the console receives one frame in a select period, and a UART receives while fewer than four answers wait in its FIFO. -/
def Obligations.RequestAnsweredOnceOnItsLink : Prop :=
  (∀ (i : Instr) (r : Request) (s : State), i.request = some r →
    (s.receives r.link = true →
      ∃ t code fields, exec i s = .next t ∧ s.answered t ⟨r.code, code, fields⟩ r.link) ∧
    (s.receives r.link = false → exec i s = .next s)) ∧
  ∀ s : State,
    (s.receives .console = true ↔ s.resetHeld = false ∧ s.links.console.period = false) ∧
    (s.receives .counter = true ↔ s.resetHeld = false ∧ s.links.counter.fifo.length < 4) ∧
    (s.receives .desk = true ↔ s.resetHeld = false ∧ s.links.desk.fifo.length < 4)

/-- A frame whose code is not in its link's set is answered UNKNOWN_REQUEST, one whose length is not the code's
BAD_LENGTH; a request's first parameter out of its range is answered BAD_PARAMETER with its position. Each answer echoes
the code, and nothing else happens. -/
def Obligations.BadRequestsChangeNothing : Prop :=
  (∀ (l : Link) (code : Nat) (params : List Byte) (s : State), s.receives l = true →
    (l.takes code = false →
      exec (.unknownRequest l code params) s = .next (s.post l ⟨code, .unknownRequest, []⟩)) ∧
    (l.takes code = true → params.length ≠ paramLength code →
      exec (.unknownRequest l code params) s = .next (s.post l ⟨code, .badLength, []⟩))) ∧
  ∀ (i : Instr) (r : Request) (s : State) (p : Nat) (q : Prop), i.request = some r → s.receives r.link = true →
    (Instr.paramsInRange s i)[p]? = some q → ¬ q →
    (∀ (j : Nat) (q' : Prop), j < p → (Instr.paramsInRange s i)[j]? = some q' → q') →
    exec i s = .next (s.post r.link ⟨r.code, .badParameter, [⟨1, some (p + 1)⟩]⟩)

/-- The frame of a well-formed request, and of a body that LNK turns away, is read back as the command it was written
from; a frame adds four bytes to its body. -/
def Obligations.RequestFramesReadBack : Prop :=
  (∀ (i : Instr) (r : Request), i.request = some r → r.wellFormed = true →
    readFrame r.link (requestFrame r.body) = some i ∧ (requestFrame r.body).length = r.body.length + 4 ∧
      r.body.length = 1 + paramLength r.code) ∧
  ∀ (l : Link) (code : Nat) (params : List Byte), turnedAway l code params = true →
    readFrame l (requestFrame (bytesOf 1 code ++ params)) = some (.unknownRequest l code params)

/-! ## Channel plans -/

/-- CH_SET, BOOTH_SET, BANK_CLEAR and BANK_COPY on a bank that is EMPTY, EDITED or VALID are taken and answered DONE:
they write what their rule says in that bank and leave every other entry, every other bank and every other block as they
were. On a PENDING or ON_AIR bank each is refused with BANK_LOCKED and changes nothing. -/
def Obligations.PlanEditsTaken : Prop :=
  (∀ (s : State) (k : Nat), (s.bank k).status ≠ .pending → (s.bank k).status ≠ .onAir →
    (∀ c enabled lang quality fill, s.accepts (.chSet k c enabled lang quality fill) →
      ∃ t, exec (.chSet k c enabled lang quality fill) s = .next (t.post .console ⟨Code.chSet, .done, []⟩) ∧
        s.onlyChanges t [.banks] ∧ (∀ j, j ≠ k → t.bank j = s.bank j) ∧ (t.bank k).status = .edited ∧
        (∀ x, (t.bank k).channel x =
          if x = c then ⟨decide (enabled = 1), lang, Quality.ofPlace quality, decide (fill = 1)⟩
          else (s.bank k).channel x) ∧
        (t.bank k).booths = (s.bank k).booths ∧ (t.bank k).alloc = (s.bank k).alloc) ∧
    (∀ b present ca cb n c1 c2 c3 c4 desks, s.accepts (.boothSet k b present ca cb n c1 c2 c3 c4 desks) →
      ∃ t, exec (.boothSet k b present ca cb n c1 c2 c3 c4 desks) s =
          .next (t.post .console ⟨Code.boothSet, .done, []⟩) ∧
        s.onlyChanges t [.banks] ∧ (∀ j, j ≠ k → t.bank j = s.bank j) ∧ (t.bank k).status = .edited ∧
        (∀ x, t.boothEntry (t.bank k) x =
          if x = b then ⟨decide (present = 1), optChannel ca, optChannel cb, [c1, c2, c3, c4].take n, desks⟩
          else s.boothEntry (s.bank k) x) ∧
        (t.bank k).channels = (s.bank k).channels ∧ (t.bank k).alloc = (s.bank k).alloc) ∧
    (s.accepts (.bankClear k) →
      ∃ t, exec (.bankClear k) s = .next (t.post .console ⟨Code.bankClear, .done, []⟩) ∧
        s.onlyChanges t [.banks] ∧ (∀ j, j ≠ k → t.bank j = s.bank j) ∧ (t.bank k).status = .empty ∧
        (t.bank k).alloc = none ∧ (∀ x, (t.bank k).channel x = ⟨false, 0, .auto, false⟩) ∧
        ∀ x, t.boothEntry (t.bank k) x = ⟨false, none, none, [], t.desksPerBooth⟩) ∧
    ∀ j, s.accepts (.bankCopy j k) →
      ∃ t, exec (.bankCopy j k) s = .next (t.post .console ⟨Code.bankCopy, .done, []⟩) ∧
        s.onlyChanges t [.banks] ∧ (∀ i, i ≠ k → t.bank i = s.bank i) ∧
        ((s.bank j).status = .empty → t.bank k = {}) ∧
        ((s.bank j).status ≠ .empty → t.bank k = { s.bank j with status := .edited, alloc := none })) ∧
  ∀ (s : State) (k : Nat), (s.bank k).status = .pending ∨ (s.bank k).status = .onAir →
    (∀ c enabled lang quality fill, s.accepts (.chSet k c enabled lang quality fill) →
      exec (.chSet k c enabled lang quality fill) s = .next (s.post .console ⟨Code.chSet, .bankLocked, []⟩)) ∧
    (∀ b present ca cb n c1 c2 c3 c4 desks, s.accepts (.boothSet k b present ca cb n c1 c2 c3 c4 desks) →
      exec (.boothSet k b present ca cb n c1 c2 c3 c4 desks) s =
        .next (s.post .console ⟨Code.boothSet, .bankLocked, []⟩)) ∧
    (s.accepts (.bankClear k) →
      exec (.bankClear k) s = .next (s.post .console ⟨Code.bankClear, .bankLocked, []⟩)) ∧
    ∀ j, s.accepts (.bankCopy j k) →
      exec (.bankCopy j k) s = .next (s.post .console ⟨Code.bankCopy, .bankLocked, []⟩)

/-- Validation passes exactly where conditions 1 to 9 hold, and otherwise reports the first condition that fails and its
first channel or booth: PLAN_INVALID with the reason and the item, or OVER_BUDGET with the need and the budget. -/
def Obligations.ValidationIsTheNineConditions : Prop :=
  ∀ (s : State) (p : Bank),
    (s.validationRefusal p = none ↔ (∀ n, 1 ≤ n → n ≤ 8 → s.meets p n) ∧ p.need ≤ s.slots - 2) ∧
    ((∀ n, 1 ≤ n → n ≤ 8 → s.meets p n) → s.slots - 2 < p.need →
      s.validationRefusal p = some (.overBudget, [f1 p.need, f1 (s.slots - 2)])) ∧
    (∀ n, 1 ≤ n → n ≤ 8 → ¬ s.meets p n → (∀ m, 1 ≤ m → m < n → s.meets p m) →
      ∃ (reason : PlanReason) (item : Option Nat), reason.condition = n ∧
        s.validationRefusal p = some (.planInvalid, [⟨1, some reason.code⟩, ⟨1, item⟩]) ∧
        (n = 1 → item = none) ∧
        (n ≠ 1 → ∃ x ∈ Config.channelNumbers, item = some x ∧ s.breaks p x n ∧
          (∀ y ∈ Config.channelNumbers, y < x → ¬ s.breaks p y n) ∧
          (n = 4 → (reason = .aNotEnabled ↔
            ∀ c, (s.boothEntry p x).a = some c → (p.channel c).enabled = false)))) ∧
    p.need =
      2 * (p.enabledChannels.filter fun c => (p.channel c).quality = .full).length +
        (p.enabledChannels.filter fun c => (p.channel c).quality = .narrow).length +
        (p.enabledChannels.filter fun c => (p.channel c).quality = .auto).length

/-- BANK_CHECK answers what validation gives. Where the bank passes it becomes VALID unless it is PENDING or ON_AIR, and
the answer carries the need, the budget and the stored allocation, or else a provisional one; nothing else changes. How
the answer gives the allocation is the model's reading (log entry 17). -/
def Obligations.BankCheckVerdict : Prop :=
  ∀ (s : State) (k : Nat), s.accepts (.bankCheck k) →
    (∀ code fields, s.validationRefusal (s.bank k) = some (code, fields) →
      exec (.bankCheck k) s = .next (s.post .console ⟨Code.bankCheck, code, fields⟩)) ∧
    (s.validationRefusal (s.bank k) = none →
      ∃ t, exec (.bankCheck k) s = .next (t.post .console ⟨Code.bankCheck, .done,
          [f1 (s.bank k).need, f1 (s.slots - 2)] ++
            ((s.bank k).alloc.getD (s.allocation (s.bank k))).flatMap fun e => [f1 e.2.first, f1 e.2.count]⟩) ∧
        s.onlyChanges t [.banks] ∧ (∀ j, j ≠ k → t.bank j = s.bank j) ∧
        t.bank k = { s.bank k with
          status := if (s.bank k).status = .pending ∨ (s.bank k).status = .onAir then (s.bank k).status
            else .valid })

/-- The allocation of a bank whose need is within the budget: the enabled channels in ascending order, the first one
starting at slot 2 and each next one right after the one before it, within the frame; FULL channels get two slots, NARROW
one, and an AUTO channel two exactly where fewer AUTO channels come before it by demand, equal demand by number, than
slots are left over. -/
def Obligations.AllocationWithinBudgetByDemand : Prop :=
  ∀ (s : State) (p : Bank), p.need ≤ s.slots - 2 →
    (s.allocation p).map Prod.fst = p.enabledChannels ∧
    (∀ e ∈ (s.allocation p).head?, e.2.first = 2) ∧
    (∀ e ∈ s.allocation p, 2 ≤ e.2.first ∧ e.2.first + e.2.count ≤ s.slots ∧
      e.2.count =
        match (p.channel e.1).quality with
        | .full => 2
        | .narrow => 1
        | .auto =>
          if ((p.enabledChannels.filter fun c => (p.channel c).quality = .auto).filter fun c =>
              decide (s.demand (p.channel e.1).lang < s.demand (p.channel c).lang) ||
                (decide (s.demand (p.channel c).lang = s.demand (p.channel e.1).lang) && decide (c < e.1))).length
              < s.slots - 2 - p.need then 2 else 1) ∧
    ((s.allocation p).map Prod.snd).IsChain fun x y => y.first = x.first + x.count

/-! ## The carrier framer -/

/-- START in STANDBY, and SWITCH in ON_AIR with no switch pending, on a bank that passes validation are answered
ACCEPTED with the allocation computed at that moment, which the bank keeps with its new status. START enters STARTING
with a settle count of 25; SWITCH records the pending switch. Both are refused in the order of their checks, and a refusal
changes nothing. The fields of the answers are the model's reading (log entries 16 and 17). -/
def Obligations.StartAndSwitchCommitABank : Prop :=
  (∀ (s : State) (k : Nat), s.validationRefusal (s.bank k) = none →
    (s.accepts (.start k) → s.framer.state = .standby →
      ∃ t, exec (.start k) s = .next (t.post .console ⟨Code.start, .accepted,
          (s.allocation (s.bank k)).flatMap fun e => [f1 e.2.first, f1 e.2.count]⟩) ∧
        s.onlyChanges t [.banks, .framer] ∧ (∀ j, j ≠ k → t.bank j = s.bank j) ∧
        t.bank k = { s.bank k with status := .onAir, alloc := some (s.allocation (s.bank k)) } ∧
        t.framer = { s.framer with state := .starting, settle := 25 }) ∧
    (s.accepts (.switch k) → s.framer.state = .onAir → s.framer.pendingSwitch = none →
      (s.bank k).status ≠ .onAir →
      ∃ t, exec (.switch k) s = .next (t.post .console ⟨Code.switch, .accepted,
          (s.allocation (s.bank k)).flatMap fun e => [f1 e.2.first, f1 e.2.count]⟩) ∧
        s.onlyChanges t [.banks, .framer] ∧ (∀ j, j ≠ k → t.bank j = s.bank j) ∧
        t.bank k = { s.bank k with status := .pending, alloc := some (s.allocation (s.bank k)) } ∧
        t.framer = { s.framer with pendingSwitch := some k })) ∧
  ∀ (s : State) (k : Nat),
    (s.accepts (.start k) →
      (s.framer.state ≠ .standby → exec (.start k) s = .next (s.post .console ⟨Code.start, .wrongState, []⟩)) ∧
      (s.framer.state = .standby → ∀ code fields, s.validationRefusal (s.bank k) = some (code, fields) →
        exec (.start k) s = .next (s.post .console ⟨Code.start, code, fields⟩))) ∧
    (s.accepts (.switch k) →
      (s.framer.state ≠ .onAir → exec (.switch k) s = .next (s.post .console ⟨Code.switch, .wrongState, []⟩)) ∧
      (s.framer.state = .onAir →
        (∀ j, s.framer.pendingSwitch = some j →
          exec (.switch k) s = .next (s.post .console ⟨Code.switch, .switchPending, []⟩)) ∧
        (s.framer.pendingSwitch = none →
          (s.PlanLaw → (s.bank k).status = .onAir →
            exec (.switch k) s = .next (s.post .console ⟨Code.switch, .bankLocked, []⟩)) ∧
          ((s.bank k).status ≠ .onAir → ∀ code fields, s.validationRefusal (s.bank k) = some (code, fields) →
            exec (.switch k) s = .next (s.post .console ⟨Code.switch, code, fields⟩)))))

/-- STANDBY in STANDBY is refused, in STARTING it abandons the start, with a sitting open it is refused; otherwise it
stops the framer: every locked bank becomes VALID without an allocation, every live desk, wait, offer and ramp goes,
every booth listens to the floor, and the frame in progress is completed without any desk, or with the announcement
where it is an OVERRIDE frame. STANDBY_DONE is raised when that frame has ended. The WRONG_STATE answer without fields is
the model's reading (log entry 16). -/
def Obligations.StandbyStopsTheFramer : Prop :=
  (∀ s : State, s.receives .console = true →
    (s.framer.state = .standby → exec .standby s = .next (s.post .console ⟨Code.standby, .wrongState, []⟩)) ∧
    (s.framer.state = .starting →
      ∃ t, exec .standby s = .next (t.post .console ⟨Code.standby, .accepted, []⟩) ∧
        s.onlyChanges t [.banks, .framer, .links] ∧
        (∀ k ∈ Config.bankNumbers, t.bank k =
          if (s.bank k).status = .pending ∨ (s.bank k).status = .onAir then
            { s.bank k with status := .valid, alloc := none }
          else s.bank k) ∧
        t.framer = { s.framer with state := .standby, settle := 0 } ∧
        t.links = (s.raise .standbyDone 1).links) ∧
    (s.framer.state = .onAir → s.meter.sitting.isOpen = true →
      exec .standby s = .next (s.post .console ⟨Code.standby, .sittingOpen, []⟩)) ∧
    (s.framer.state = .onAir → s.meter.sitting.isOpen = false → s.MicLaw → s.TurnLaw → s.TablesLaw →
      ∃ t, exec .standby s = .next (t.post .console ⟨Code.standby, .accepted, []⟩) ∧
        s.onlyChanges t [.banks, .framer, .mixer, .bdc, .relay] ∧
        (∀ k ∈ Config.bankNumbers, t.bank k =
          if (s.bank k).status = .pending ∨ (s.bank k).status = .onAir then
            { s.bank k with status := .valid, alloc := none }
          else s.bank k) ∧
        t.framer = { s.framer with
          state := .standby, override := .off, pendingSwitch := none, frame := none,
          frameNumber := (s.framer.frameNumber + 1) % 16777216,
          closing := s.framer.frame.map fun f => { f with
            slots := (List.range s.slots).map fun i =>
              if f.override then .announcement else if i < 2 then .floor else .silence } } ∧
        (∀ b, t.booth b = ⟨none, none, none, none⟩) ∧ (∀ c, t.chan c = ⟨none, []⟩) ∧
        (∀ b d, t.desk b d = { s.desk b d with refused := false }) ∧
        (∀ c, t.carriage c = ⟨none, none⟩) ∧ (∀ b, t.feed b = .floor ∧ t.feedSource b = .floor) ∧
        t.mixer.rampLength = s.mixer.rampLength ∧ t.mixer.offerTimeout = s.mixer.offerTimeout ∧
        (∀ c, t.producer c = none) ∧ t.relay.floorLang = s.relay.floorLang ∧ t.relay.hold = s.relay.hold ∧
        ∀ b ∈ Config.boothNumbers, t.relayRec b =
          { s.relayRec b with source := .floor, depth := 0, status := .ok, timer := none })) ∧
  ∀ s : State,
    (s.framer.closing.isSome = true →
      ∃ t, exec .standbyFinalFrameEnd s = .next t ∧ s.onlyChanges t [.framer, .links] ∧
        t.framer = { s.framer with closing := none, trailer := some [0x00, BitVec.ofNat 8 s.slots] } ∧
        t.links = (s.raise .standbyDone 1).links) ∧
    (s.framer.closing = none → exec .standbyFinalFrameEnd s = .next s)

/-- In STARTING each tick of the frame period lowers the settle count by 1. At 0 the framer enters ON_AIR, the plan
number grows by 1, and the first frame begins: a TRANSITION frame of fragment 0 with the present frame number, the floor
in slots 0 and 1 and silence in the language slots; every feed is fixed as it begins. START_DONE is raised, every booth is
placed by the relay rules, RELAY_LOST raised by those newly without a relay, and every receiver on hire whose preset the
plan does not carry is marked, ORPHANED raised on both links. Outside STARTING nothing ticks. -/
def Obligations.SettleIntervalEndsWithFirstFrame : Prop :=
  ∀ s : State,
    (s.framer.state ≠ .starting → exec .settleTick s = .next s) ∧
    (s.framer.state = .starting → 1 < s.framer.settle →
      ∃ t, exec .settleTick s = .next t ∧ s.onlyChanges t [.framer] ∧
        t.framer = { s.framer with settle := s.framer.settle - 1 }) ∧
    (s.framer.state = .starting → s.framer.settle = 1 → s.MicLaw → s.TablesLaw →
      ∃ t f, exec .settleTick s = .next t ∧
        s.onlyChanges t [.framer, .mixer, .bdc, .relay, .register, .links] ∧
        t.framer = { s.framer with
          state := .onAir, settle := 0, planNumber := (s.framer.planNumber + 1) % 256, fragment := 0,
          frame := some f } ∧
        f.header = t.header true false ∧ f.transition = true ∧ f.override = false ∧
        f.pulse = decide (s.framer.lineMode ≠ .off) ∧
        f.slots = (List.range t.slots).map (fun i => if i < 2 then .floor else .silence) ∧
        (∀ b, t.booth b = {}) ∧ (∀ c, t.chan c = {}) ∧ (∀ c ∈ Config.channelNumbers, t.carriage c = {}) ∧
        (∀ b d, t.desk b d = { s.desk b d with refused := false }) ∧
        t.links = ((s.raise .startDone 1).planFlags (s.lostTo t) (s.orphanedTo t)).links ∧
        t.relayPlaced ∧ s.relayKept t ∧ (s.RelayLaw → t.sourcesReported) ∧ s.orphansMarked t ∧ s.feedsFixed t ∧
        t.mixer.rampLength = s.mixer.rampLength ∧ t.mixer.offerTimeout = s.mixer.offerTimeout)

/-- A frame boundary in ON_AIR at which no switch is due ends the frame in progress whole and begins the next one of the
same plan: the frame number and the fragment grow by 1, an override that is ENDING ends, the ramps advance, and the new
frame's slots and every feed are fixed from the state that the boundary leaves. Outside ON_AIR no boundary arises. -/
def Obligations.FrameBoundaryContinuesThePlan : Prop :=
  ∀ s : State,
    (s.framer.state ≠ .onAir → exec .frameBoundary s = .next s) ∧
    (s.framer.state = .onAir → s.framer.override = .on ∨ s.framer.pendingSwitch = none →
      ∃ t f, exec .frameBoundary s = .next t ∧ s.onlyChanges t [.framer, .mixer] ∧
        t.framer = { s.framer with
          frameNumber := (s.framer.frameNumber + 1) % 16777216
          fragment := (s.framer.fragment + 1) % 8
          override := if s.framer.override = .on then .on else .off
          trailer := some [0x00, BitVec.ofNat 8 s.slots]
          frame := some f } ∧
        f.transition = false ∧ f.override = decide (s.framer.override = .on) ∧
        f.header = t.header false f.override ∧
        f.pulse = (decide (s.framer.lineMode = .every) ||
          (decide (s.framer.lineMode = .change) && decide (s.framer.override = .ending))) ∧
        f.slots = (List.range t.slots).map (t.slotSignal false f.override) ∧
        s.rampsAdvanced t ∧ (∀ b ∈ Config.boothNumbers, t.feed b = t.feedSignal b) ∧
        t.mixer.feedSource = s.mixer.feedSource ∧ t.mixer.rampLength = s.mixer.rampLength ∧
        t.mixer.offerTimeout = s.mixer.offerTimeout)

/-- A frame boundary at which a switch is pending and the override is OFF or ends takes the switch: the pending bank
becomes ON_AIR with its allocation, the old one VALID without; the plan number grows by 1; the frame that begins is a
TRANSITION frame of fragment 0 with silent language slots, and every feed is fixed as it begins. SWITCH_DONE is raised,
the ramps go, every booth is placed by the relay rules, RELAY_LOST raised by those newly without a relay, and receivers
whose presets the new plan does not carry are marked, ORPHANED raised on both links. -/
def Obligations.SwitchTakenAtBoundary : Prop :=
  ∀ (s : State) (j k : Nat), s.PlanLaw → s.MicLaw → s.framer.state = .onAir → s.framer.override ≠ .on →
    s.framer.pendingSwitch = some k → (s.bank j).status = .onAir →
    ∃ t f, exec .frameBoundary s = .next t ∧
      s.onlyChanges t [.banks, .framer, .mixer, .bdc, .relay, .meter, .register, .journal, .links] ∧
      t.bank k = { s.bank k with status := .onAir } ∧
      t.bank j = { s.bank j with status := .valid, alloc := none } ∧
      (∀ i, i ≠ j → i ≠ k → t.bank i = s.bank i) ∧
      t.framer = { s.framer with
        frameNumber := (s.framer.frameNumber + 1) % 16777216
        planNumber := (s.framer.planNumber + 1) % 256
        fragment := 0
        pendingSwitch := none
        override := .off
        trailer := some [0x00, BitVec.ofNat 8 s.slots]
        frame := some f } ∧
      f.header = t.header true false ∧ f.transition = true ∧ f.override = false ∧
      f.pulse = decide (s.framer.lineMode ≠ .off) ∧
      f.slots = (List.range t.slots).map (fun i => if i < 2 then .floor else .silence) ∧
      (∀ c ∈ Config.channelNumbers, (t.carriage c).ramp = none) ∧
      t.links = (((s.raise .switchDone 1).handedOver (s.metered (s.movedBooths t)).length).planFlags
        (s.lostTo t) (s.orphanedTo t)).links ∧
      t.relayPlaced ∧ s.relayKept t ∧ (s.RelayLaw → t.sourcesReported) ∧ s.orphansMarked t ∧ s.feedsFixed t ∧
      t.mixer.rampLength = s.mixer.rampLength ∧ t.mixer.offerTimeout = s.mixer.offerTimeout

/-- At a plan taken the live desks are carried over: a live desk stays live, on the channel that the new plan gives its
selected output, where that plan has its booth present and the desk in use and no lower-numbered booth's desk is carried
to that channel; otherwise it is released. Its turn goes on where the channel is the same, ends with reason SWITCH where
it is released, and is followed by a new one where the channel is another. The ended turns are handed to the journal
booth by booth in ascending number, an order that is the model's choice (log entry 34). Every wait, offer and REFUSED
latch is cleared. -/
def Obligations.CarryOverFollowsTheNewPlan : Prop :=
  ∀ (s : State) (k : Nat), s.PlanLaw → s.MicLaw → s.TurnLaw → s.TablesLaw → s.framer.state = .onAir →
    s.framer.override ≠ .on → s.framer.pendingSwitch = some k →
    ∃ t, exec .frameBoundary s = .next t ∧
      (∀ b, t.booth b = { live := none } ∨ ∃ x, t.booth b = { live := some x }) ∧
      (∀ c, (t.chan c).queue = []) ∧
      (∀ b d, t.desk b d = { s.desk b d with refused := false }) ∧
      (∀ b, (s.booth b).live = none → (t.booth b).live = none) ∧
      (∀ b d c, (s.booth b).live = some (d, c) →
        ∀ x, (t.booth b).live = some x ↔
          ∃ c' e, x = (d, c') ∧ t.planBooth b = some e ∧ d ≤ e.desksInUse ∧
            e.channelOn (s.desk b d).output = some c' ∧
            ∀ b' d' y e', b' < b → (s.booth b').live = some (d', y) → t.planBooth b' = some e' →
              d' ≤ e'.desksInUse → e'.channelOn (s.desk b' d').output ≠ some c') ∧
      (∀ b d c, (s.booth b).live = some (d, c) →
        ((t.booth b).live = none → t.turn b = none) ∧
        ((t.booth b).live = some (d, c) → t.turn b = s.turn b) ∧
        ∀ c', c' ≠ c → (t.booth b).live = some (d, c') → t.turn b =
          if s.meter.sitting.isOpen then
            some ⟨d, (s.desk b d).interpreter, c', t.carriedQuality c', s.meter.time, 0, 0, 0⟩
          else none) ∧
      (∀ b d c, (t.booth b).live = some (d, c) ↔ (t.chan c).holder = some ⟨b, d⟩) ∧
      t.journal = s.journalWith (s.turnEntries (s.movedBooths t) .switch) ∧ s.meterBut t ∧
      t.meter.sitting = s.turnsCounted (s.movedBooths t) ∧ s.turnsFolded t (s.movedBooths t)

/-- ANNOUNCE in ON_AIR with the override OFF cuts the frame in progress, its trailer telling a count of slots below
SLOTS, 0 where the cut falls in the frame of a boundary of the same instant (log entry 10), and begins an OVERRIDE frame
that carries the announcement in every slot; a pending switch stays. Elsewhere it is refused; the WRONG_STATE answer
without fields is the model's reading (log entry 16). ANNOUNCE_END makes the override ENDING. -/
def Obligations.AnnounceCutsTheFrame : Prop :=
  ∀ s : State, s.receives .console = true →
    (s.framer.state = .standby → exec .announce s = .next (s.post .console ⟨Code.announce, .notOnAir, []⟩)) ∧
    (s.framer.state = .starting → exec .announce s = .next (s.post .console ⟨Code.announce, .wrongState, []⟩)) ∧
    (s.framer.state = .onAir → s.framer.override ≠ .off →
      exec .announce s = .next (s.post .console ⟨Code.announce, .already, []⟩)) ∧
    (s.framer.state = .onAir → s.framer.override = .off →
      ∃ t f n, exec .announce s = .next (t.post .console ⟨Code.announce, .accepted, []⟩) ∧
        s.onlyChanges t [.framer, .mixer, .links, .free] ∧ n < s.slots ∧
        (Config.cutWithBoundary s.freeIndex = true → n = 0) ∧
        t.framer = { s.framer with
          frameNumber := (s.framer.frameNumber + 1) % 16777216
          fragment := (s.framer.fragment + 1) % 8
          override := .on
          trailer := some [0x80, BitVec.ofNat 8 n]
          frame := some f } ∧
        f.header = t.header false true ∧ f.transition = false ∧ f.override = true ∧
        f.pulse = decide (s.framer.lineMode ≠ .off) ∧
        f.slots = List.replicate s.slots .announcement ∧
        s.rampsAdvanced t ∧ (∀ b ∈ Config.boothNumbers, t.feed b = t.feedSignal b) ∧
        t.mixer.feedSource = s.mixer.feedSource ∧ t.mixer.rampLength = s.mixer.rampLength ∧
        t.mixer.offerTimeout = s.mixer.offerTimeout ∧
        t.links = (s.raise .announceTaken 1).links) ∧
    (s.framer.override = .off →
      exec .announceEnd s = .next (s.post .console ⟨Code.announceEnd, .notActive, []⟩)) ∧
    (s.framer.override ≠ .off →
      ∃ t, exec .announceEnd s = .next (t.post .console ⟨Code.announceEnd, .done, []⟩) ∧
        s.onlyChanges t [.framer] ∧ t.framer = { s.framer with override := .ending })

/-- A header is 28 bytes: the frame mark, the frame number, the plan number, the flags with the fragment index, the four
directory entries of the fragment, and the CRC over bytes 0 to 25. -/
def Obligations.HeaderLayout : Prop :=
  ∀ (s : State) (transition override : Bool), s.framer.Law →
    (s.header transition override).length = 28 ∧
    (s.header transition override).take 1 = [0xA6] ∧
    numberOf (((s.header transition override).drop 1).take 3) = s.framer.frameNumber ∧
    numberOf (((s.header transition override).drop 4).take 1) = s.framer.planNumber ∧
    numberOf (((s.header transition override).drop 5).take 1) =
      (if transition then 128 else 0) + (if override then 64 else 0) + (if s.slots = 64 then 32 else 0) +
        s.framer.fragment ∧
    (∀ i, i < 4 → ∀ c, c = 4 * s.framer.fragment + i →
      (c = 0 → ((s.header transition override).drop (6 + 5 * i)).take 5 =
        [0x00] ++ bytesOf 2 s.relay.floorLang ++ [0x00, 0x82]) ∧
      (c ≠ 0 → s.enabled c = false → ((s.header transition override).drop (6 + 5 * i)).take 5 =
        [BitVec.ofNat 8 c, 0x00, 0x00, 0x00, 0x00]) ∧
      (∀ x, c ≠ 0 → s.enabled c = true → s.planPlace c = some x →
        ((s.header transition override).drop (6 + 5 * i)).take 5 =
          [BitVec.ofNat 8 c] ++ bytesOf 2 (s.planEntry c).lang ++
            [BitVec.ofNat 8 x.first, BitVec.ofNat 8 (128 + x.count)])) ∧
    (s.header transition override).drop 26 = bytesOf 2 (crc16 ((s.header transition override).take 26)).toNat

/-- What a slot carries: the floor in slots 0 and 1, the announcement in every slot of an OVERRIDE frame, and in a slot
of a channel's place silence in a TRANSITION frame, else the ramp, the live desk (silence where it coughs), the floor
where the channel has floor fill, or silence; a slot of no channel is silent. -/
def Obligations.SlotsCarryTheirChannel : Prop :=
  ∀ (s : State) (i : Nat),
    (∀ o, i < 2 → s.slotSignal false o i = if o then .announcement else .floor) ∧
    (i < 2 → s.slotSignal true false i = .floor) ∧
    s.slotSignal false true i = .announcement ∧
    (∀ o, 2 ≤ i → (∀ c ∈ Config.channelNumbers, ∀ x, s.planPlace c = some x → ¬ (x.first ≤ i ∧ i < x.first + x.count)) →
      s.slotSignal o false i = .silence) ∧
    ∀ c x, 2 ≤ i → c ∈ Config.channelNumbers → s.planPlace c = some x → x.first ≤ i → i < x.first + x.count →
      (∀ e ∈ Config.channelNumbers, e < c → ∀ y, s.planPlace e = some y → ¬ (y.first ≤ i ∧ i < y.first + y.count)) →
      s.slotSignal true false i = .silence ∧
      (∀ r, (s.carriage c).ramp = some r → s.slotSignal false false i =
        .ramp r.outgoing (if (s.desk r.outgoing.booth r.outgoing.desk).cough then 0 else r.outGain)
          r.incoming (if (s.desk r.incoming.booth r.incoming.desk).cough then 0 else r.inGain)) ∧
      ((s.carriage c).ramp = none →
        (∀ w, (s.carriage c).live = some w → s.slotSignal false false i =
          if (s.desk w.booth w.desk).cough then .deskCough w else .desk w) ∧
        ((s.carriage c).live = none → s.slotSignal false false i =
          if (s.planEntry c).floorFill then .floor else .silence))

/-! ## Mixing and ramps -/

/-- A ramp's gains lie between 0 and 256, the incoming one rising with k and the outgoing one falling; their sum never
exceeds 256 and is 256 where the start gain is; the ramp begins at 0 and the start gain and ends at 256 and 0. -/
def Obligations.RampGainsStayWithinFullScale : Prop :=
  ∀ r : Ramp, 0 < r.len → r.k ≤ r.len → r.g0 ≤ 256 →
    r.inGain = 256 * r.k / r.len ∧ r.outGain = r.g0 - r.g0 * r.k / r.len ∧
    r.inGain ≤ 256 ∧ r.outGain ≤ r.g0 ∧ r.inGain + r.outGain ≤ 256 ∧
    (r.g0 = 256 → r.inGain + r.outGain = 256) ∧
    (r.k = 0 → r.inGain = 0 ∧ r.outGain = r.g0) ∧ (r.k = r.len → r.inGain = 256 ∧ r.outGain = 0) ∧
    ∀ k', r.k ≤ k' → k' ≤ r.len →
      r.inGain ≤ { r with k := k' }.inGain ∧ { r with k := k' }.outGain ≤ r.outGain

/-- HANDOVER_SET, RELAY_SET, RETURN_GRACE and LINE_MODE store their settings, the numbers clamped into their ranges,
and answer DONE with the numbers as stored; nothing else changes. -/
def Obligations.SettingsStoredClamped : Prop :=
  ∀ s : State, s.receives .console = true →
    (∀ ramp offer, ∃ t, exec (.handoverSet ramp offer) s =
        .next (t.post .console ⟨Code.handoverSet, .done, [f1 (min 50 ramp), f1 (min 120 (max 5 offer))]⟩) ∧
      s.onlyChanges t [.mixer] ∧
      t.mixer = { s.mixer with rampLength := min 50 ramp, offerTimeout := min 120 (max 5 offer) }) ∧
    (∀ hold, ∃ t, exec (.relaySet hold) s = .next (t.post .console ⟨Code.relaySet, .done, [f1 (min 30 hold)]⟩) ∧
      s.onlyChanges t [.relay] ∧ t.relay = { s.relay with hold := min 30 hold }) ∧
    (∀ minutes, ∃ t, exec (.returnGrace minutes) s =
        .next (t.post .console ⟨Code.returnGrace, .done, [f2 (min 240 minutes)]⟩) ∧
      s.onlyChanges t [.meter] ∧ t.meter = { s.meter with graceSetting := min 240 minutes }) ∧
    ∀ mode, mode ≤ 2 → ∃ t, exec (.lineMode mode) s = .next (t.post .console ⟨Code.lineMode, .done, []⟩) ∧
      s.onlyChanges t [.framer] ∧
      t.framer = { s.framer with lineMode := if mode = 0 then .off else if mode = 1 then .every else .change }

/-- The console's status reads and POLL answer DONE with the records as they stand and change nothing; POLL is refused
off air and for an absent booth. A desk's lamp is the first of the six states that applies; the state of an output's
channel tells whose desk holds it; the carriage field tells what the channel's slots carry in the frame in progress. The
order and form of the fields in these answers are the model's reading (log entry 17). -/
def Obligations.ReadsAnswerTheState : Prop :=
  ∀ s : State,
    (∀ k item, s.accepts (.bankRead k 0 item) → exec (.bankRead k 0 item) s = .next (s.post .console
      ⟨Code.bankRead, .done, [f1 (s.bank k).status.code, f1 (s.bank k).enabledChannels.length,
        f1 (s.presentBooths (s.bank k)).length, f1 (s.bank k).need, f1 (s.slots - 2), fBit (s.bank k).alloc.isSome]⟩)) ∧
    (∀ k c, s.accepts (.bankRead k 1 c) → exec (.bankRead k 1 c) s = .next (s.post .console
      ⟨Code.bankRead, .done, [fBit ((s.bank k).channel c).enabled, f2 ((s.bank k).channel c).lang,
        f1 ((s.bank k).channel c).quality.code, fBit ((s.bank k).channel c).floorFill,
        fOpt 1 (((s.bank k).place? c).map Place.first), fOpt 1 (((s.bank k).place? c).map Place.count),
        fOpt 1 (((s.bank k).place? c).map fun x => if x.count = 2 then 0 else 1)]⟩)) ∧
    (∀ k b, s.accepts (.bankRead k 2 b) → exec (.bankRead k 2 b) s = .next (s.post .console
      ⟨Code.bankRead, .done, [fBit (s.boothEntry (s.bank k) b).present, fOpt 1 (s.boothEntry (s.bank k) b).a,
        fOpt 1 (s.boothEntry (s.bank k) b).b, f1 (s.boothEntry (s.bank k) b).prefs.length] ++
        (s.boothEntry (s.bank k) b).prefs.map f2 ++ [f1 (s.boothEntry (s.bank k) b).desksInUse]⟩)) ∧
    (s.receives .console = true →
      exec .framerRead s = .next (s.post .console ⟨Code.framerRead, .done,
        [f1 s.framer.state.code, f1 s.framer.settle, fOpt 1 s.onAirBank, fOpt 1 s.framer.pendingSwitch,
          f3 s.framer.frameNumber, f1 s.framer.planNumber, f1 s.framer.fragment, f1 s.framer.override.code,
          f1 s.framer.lineMode.code, f1 s.slots]⟩) ∧
      (∀ item, exec (.sittingRead 0 item) s = .next (s.post .console ⟨Code.sittingRead, .done,
        [f4 s.meter.time, f1 (if s.meter.sitting.isOpen then 0 else 1), f2 s.meter.sitting.number,
          fOpt 4 s.meter.sitting.openTime, fOpt 4 s.meter.sitting.closeTime, f2 s.meter.sitting.turns,
          f4 s.meter.sitting.onAir, f2 s.meter.sitting.folded, f2 s.meter.sitting.issues,
          f2 s.meter.sitting.returns, f4 s.meter.sitting.revenue, f2 s.meter.graceSetting,
          fOpt 2 s.meter.graceTimer]⟩)) ∧
      exec .tallyRead s = .next (s.post .console ⟨Code.tallyRead, .done,
        [f1 s.hire.tally.langs.length] ++ s.hire.tally.langs.flatMap (fun e => [f2 e.1, f2 e.2]) ++
          [f2 s.hire.tally.other, f2 ((s.hire.tally.langs.map Prod.snd).sum + s.hire.tally.other),
            f3 s.hire.tariff.grace, f3 s.hire.tariff.unit, f3 s.hire.tariff.rate, f3 s.hire.tariff.cap,
            f3 s.hire.tariff.fee, f3 s.hire.tariff.loss, f3 s.hire.tariff.deposit,
            f2 s.hire.accounts.length]⟩)) ∧
    (∀ b, s.accepts (.sittingRead 1 b) → exec (.sittingRead 1 b) s = .next (s.post .console ⟨Code.sittingRead, .done,
        [f4 (s.totals b).onAir, f4 (s.totals b).held, f4 (s.totals b).relay, f2 (s.totals b).foldedTurns,
          f4 (s.totals b).foldedSeconds] ++ turnFields b (s.turn b)⟩)) ∧
    (∀ c, s.accepts (.channelRead c) → exec (.channelRead c) s = .next (s.post .console ⟨Code.channelRead, .done,
        fDesk (s.chan c).holder ++ [f1 (s.chan c).queue.length] ++
          (s.chan c).queue.flatMap (fun e => fDesk (some e)) ++ [f1 (s.carriageField c)] ++
          rampFields (s.carriage c).ramp ++ [f1 s.mixer.rampLength, f1 s.mixer.offerTimeout]⟩)) ∧
    (∀ b, s.accepts (.boothRead b) → exec (.boothRead b) s = .next (s.post .console ⟨Code.boothRead, .done,
        [fBit (s.planBooth b).isSome, fOpt 1 ((s.booth b).live.map Prod.fst), fOpt 1 ((s.booth b).live.map Prod.snd)] ++
          pendingFields s b ++ offerFields (s.booth b) ++
          (List.range' 1 s.desksPerBooth).flatMap (fun d => [f1 (s.desk b d).output.code, fBit (s.desk b d).cough,
            fOpt 2 (s.desk b d).interpreter, fBit (s.desk b d).refused, f1 (s.lamp b d).code]) ++
          fMode (s.relayRec b).mode ++ [f1 (s.relayRec b).source.code, f1 (s.relayRec b).depth,
            f1 (s.relayRec b).status.code, fOpt 1 (s.relayRec b).timer, f1 s.relay.hold, f2 s.relay.floorLang]⟩)) ∧
    (∀ b d, s.accepts (.poll b d) →
      (s.framer.state ≠ .onAir → exec (.poll b d) s = .next (s.post .desk ⟨Code.poll, .notOnAir, []⟩)) ∧
      (s.framer.state = .onAir → s.planBooth b = none →
        exec (.poll b d) s = .next (s.post .desk ⟨Code.poll, .badDesk, []⟩)) ∧
      ∀ e, s.framer.state = .onAir → s.planBooth b = some e →
        exec (.poll b d) s = .next (s.post .desk ⟨Code.poll, .done,
          (List.range' 1 e.desksInUse).flatMap (fun n =>
            [f1 (s.lamp b n).code, fBit (s.desk b n).cough, f1 (s.desk b n).output.code]) ++
          [fOpt 1 (s.outputState b .a), fOpt 1 (s.outputState b .b)] ++ fMode (s.relayRec b).mode ++
          [f1 (s.relayRec b).depth, f1 (s.relayRec b).status.code, fBit (decide (s.framer.override ≠ .off))]⟩)) ∧
    (∀ b d,
      ((∃ c, (s.booth b).live = some (d, c)) →
        s.lamp b d = if (s.booth b).offer = none then .live else .partnerRequest) ∧
      ((∀ c, (s.booth b).live ≠ some (d, c)) →
        ((∃ x, (s.booth b).offer = some (d, x)) → s.lamp b d = .requesting) ∧
        ((∀ x, (s.booth b).offer ≠ some (d, x)) →
          ((∃ x, (s.booth b).pending = some (d, x)) → s.lamp b d = .waiting) ∧
          ((∀ x, (s.booth b).pending ≠ some (d, x)) →
            s.lamp b d = if (s.desk b d).refused then .refused else .off)))) ∧
    [Lamp.partnerRequest, .live, .requesting, .waiting, .refused, .off].map Lamp.code = [0, 1, 2, 3, 4, 5] ∧
    (∀ b x, (s.planChannel b x = none → s.outputState b x = none) ∧
      ∀ c, s.planChannel b x = some c → ((s.chan c).holder = none → s.outputState b x = some 0) ∧
        ∀ w, (s.chan c).holder = some w → s.outputState b x = some (if w.booth = b then 1 else 2)) ∧
    ∀ c, (s.framer.state ≠ .onAir ∨ s.enabled c = false → s.carriageField c = 0) ∧
      ∀ f x carried, s.framer.state = .onAir → s.enabled c = true → s.framer.frame = some f →
        s.planPlace c = some x → f.slots[x.first]? = some carried →
        s.carriageField c = match carried with
          | .silence => 1 | .announcement => 2 | .ramp _ _ _ _ => 3 | .desk _ => 4 | .deskCough _ => 5 | .floor => 6

/-! ## Relay resolution -/

/-- FLOOR_LANG stores the floor language. In ON_AIR it ends every hold and places every booth by the relay rules, and
RELAY_LOST is raised once for each booth that newly has no relay; off air nothing else changes. -/
def Obligations.FloorLanguagePlacesBooths : Prop :=
  ∀ (s : State) (code : Nat), s.accepts (.floorLang code) →
    (s.framer.state ≠ .onAir →
      ∃ t, exec (.floorLang code) s = .next (t.post .console ⟨Code.floorLang, .done, []⟩) ∧
        s.onlyChanges t [.relay] ∧ t.relay = { s.relay with floorLang := code }) ∧
    (s.framer.state = .onAir → s.MicLaw → s.RelayLaw →
      ∃ t, exec (.floorLang code) s = .next (t.post .console ⟨Code.floorLang, .done, []⟩) ∧
        s.onlyChanges t [.mixer, .relay, .links] ∧
        t.relay.floorLang = code ∧ t.relay.hold = s.relay.hold ∧ t.relay.producers = s.relay.producers ∧
        (∀ b, (t.relayRec b).mode = (s.relayRec b).mode) ∧
        (∀ b, (t.relayRec b).status ≠ .holding ∧ (t.relayRec b).timer = none) ∧ t.relayPlaced ∧
        (∀ b, t.feedSource b = (t.relayRec b).source) ∧ t.mixer = { s.mixer with feedSource := t.mixer.feedSource } ∧
        ∃ n, n = (Config.boothNumbers.filter fun b =>
            decide ((t.relayRec b).status = .noRelay) && decide ((s.relayRec b).status ≠ .noRelay)).length ∧
          t.links = (s.raise .relayLost n).links)

/-- SOURCE from a desk in use gives its booth the mode AUTO, FLOOR or FIXED to a channel that is not the booth's own,
ends that booth's hold, and places the booths that are not in HOLDING, RELAY_LOST raised by those newly without a relay;
a channel of the booth's own is refused. -/
def Obligations.SourceSetsTheMode : Prop :=
  ∀ (s : State) (b d n c : Nat), s.accepts (.source b d n c) → s.framer.state = .onAir → s.deskInUse b d = true →
    (n = 2 → s.planChannel b .a = some c ∨ s.planChannel b .b = some c →
      exec (.source b d n c) s = .next (s.post .desk ⟨Code.source, .ownChannel, [f1 (s.lamp b d).code]⟩)) ∧
    (n ≠ 2 ∨ (s.planChannel b .a ≠ some c ∧ s.planChannel b .b ≠ some c) → s.MicLaw → s.RelayLaw →
      ∃ t, exec (.source b d n c) s = .next (t.post .desk ⟨Code.source, .done, [f1 (s.lamp b d).code]⟩) ∧
        s.onlyChanges t [.mixer, .relay, .links] ∧
        (t.relayRec b).mode = (if n = 0 then .auto else if n = 1 then .floor else .fixed c) ∧
        (∀ x, x ≠ b → (t.relayRec x).mode = (s.relayRec x).mode) ∧
        (t.relayRec b).status ≠ .holding ∧ (t.relayRec b).timer = none ∧
        (∀ x, x ≠ b → (s.relayRec x).status = .holding → (s.planBooth x).isSome = true →
          t.relayRec x = s.relayRec x) ∧
        (∀ x, (t.relayRec x).status = .holding → (s.relayRec x).status = .holding) ∧
        t.relayPlaced ∧ (∀ x, t.feedSource x = (t.relayRec x).source) ∧
        t.mixer = { s.mixer with feedSource := t.mixer.feedSource } ∧
        t.links = (s.raise .relayLost (s.lostTo t)).links ∧
        t.relay.floorLang = s.relay.floorLang ∧ t.relay.hold = s.relay.hold ∧
        t.relay.producers = s.relay.producers)

/-- In ON_AIR no booth listens to its own A or B channel: every step keeps it. -/
def Obligations.OwnChannelNeverRelayed : Prop :=
  ∀ s t : State, s.PlanLaw → s.MicLaw → s.RelayLaw → s.TablesLaw → s.OwnLaw → step s = .next t → t.OwnLaw

/-! ## Sittings and metering -/

/-- SITTING_OPEN in ON_AIR with the sitting closed opens the next one: its counters, the booth totals and the grace timer
are cleared, and every live desk gets a turn that starts now. It is refused while a sitting is open or off air. -/
def Obligations.SittingOpens : Prop :=
  ∀ s : State, s.receives .console = true →
    (s.meter.sitting.isOpen = true → exec .sittingOpen s = .next (s.post .console ⟨Code.sittingOpen, .sittingOpen, []⟩)) ∧
    (s.meter.sitting.isOpen = false → s.framer.state ≠ .onAir →
      exec .sittingOpen s = .next (s.post .console ⟨Code.sittingOpen, .notOnAir, []⟩)) ∧
    (s.meter.sitting.isOpen = false → s.framer.state = .onAir → s.MicLaw → s.TurnLaw →
      ∃ t n, exec .sittingOpen s = .next (t.post .console ⟨Code.sittingOpen, .done, [f2 n, f4 s.meter.time]⟩) ∧
        n = min 65535 (s.meter.sitting.number + 1) ∧ s.onlyChanges t [.meter] ∧
        t.meter.time = s.meter.time ∧ t.meter.graceSetting = s.meter.graceSetting ∧ t.meter.graceTimer = none ∧
        t.meter.sitting = ⟨true, n, some s.meter.time, none, 0, 0, 0, 0, 0, 0⟩ ∧
        (∀ b, t.totals b = ⟨0, 0, 0, 0, 0⟩) ∧
        (∀ b, (s.booth b).live = none → t.turn b = none) ∧
        ∀ b d c, (s.booth b).live = some (d, c) →
          t.turn b = some ⟨d, (s.desk b d).interpreter, c, s.carriedQuality c, s.meter.time, 0, 0, 0⟩)

/-- SITTING_CLOSE closes the sitting now: every open turn ends and is counted, the TURN entries in ascending booth number
and then the SITTING entry are handed to the journal, which writes as many as it has room for, a turn without room being
folded and a SITTING entry without room dropped; and the grace timer starts, or the sweep is made at once where the
setting is 0. It is refused while no sitting is open. Which fields the answer has is the model's choice (log entry 35),
their order its reading (log entry 17). -/
def Obligations.SittingCloses : Prop :=
  ∀ s : State, s.receives .console = true →
    (s.meter.sitting.isOpen = false →
      exec .sittingClose s = .next (s.post .console ⟨Code.sittingClose, .sittingClosed, []⟩)) ∧
    (s.meter.sitting.isOpen = true → s.MicLaw → s.TurnLaw →
      ∃ t x, exec .sittingClose s = .next (t.post .console ⟨Code.sittingClose, .done,
          [f1 1, f2 s.meter.sitting.number, fOpt 4 s.meter.sitting.openTime, f4 s.meter.time,
            f2 x.turns, f4 s.meter.sitting.onAir, f2 x.folded, f2 s.meter.sitting.issues,
            f2 s.meter.sitting.returns, f4 s.meter.sitting.revenue]⟩) ∧
        s.onlyChanges t [.meter, .journal, .register, .links] ∧ s.sameLinks t ∧
        x = s.turnsCounted Config.boothNumbers ∧
        t.meter.sitting = { x with isOpen := false, closeTime := some s.meter.time } ∧
        (∀ b, t.turn b = none) ∧ s.turnsFolded t Config.boothNumbers ∧ t.meter.time = s.meter.time ∧
        t.meter.graceSetting = s.meter.graceSetting ∧
        t.journal = s.journalWith (s.turnEntries Config.boothNumbers .sittingClose ++
          [.sitting ⟨s.meter.sitting.number, s.meter.sitting.openTime.getD 0, s.meter.time, x.turns,
            s.meter.sitting.onAir, x.folded, s.meter.sitting.issues, s.meter.sitting.returns,
            s.meter.sitting.revenue⟩]) ∧
        ∃ u, u = s.handedOver ((s.metered Config.boothNumbers).length + 1) ∧
          (s.meter.graceSetting ≠ 0 → t.register = s.register ∧
            t.meter.graceTimer = some (60 * s.meter.graceSetting) ∧ t.links = u.links) ∧
          (s.meter.graceSetting = 0 → u.sweptTo t ∧ t.meter.graceTimer = s.meter.graceTimer))

/-- A meter second that the pin does not stop adds 1 to meter time and counts every open turn with its booth's totals: a
held second where its desk coughs or the override is ON or ENDING, else an on-air second, and a relay second besides where
the booth's source is a channel. Each running timer loses one second, and the return grace timer in its last second stops
and makes the sweep. At its greatest meter time nothing is counted. -/
def Obligations.MeterSecondCounts : Prop :=
  ∀ s : State,
    (s.resetHeld = true → exec .meterSecond s = .next s) ∧
    (s.resetHeld = false → ∃ t, exec .meterSecond s = .next t ∧
      s.onlyChanges t [.meter, .bdc, .relay, .register, .links] ∧
      t.meter.time = (if s.meter.time < 4294967295 then s.meter.time + 1 else s.meter.time) ∧
      t.meter.graceSetting = s.meter.graceSetting ∧
      (s.meter.graceTimer = some 1 → t.meter.graceTimer = none ∧ s.sweptTo t) ∧
      (s.meter.graceTimer ≠ some 1 → t.meter.graceTimer = s.meter.graceTimer.map (fun n => n - 1) ∧
        t.register = s.register ∧ t.links = s.links) ∧
      (∀ b ∈ Config.boothNumbers,
        t.booth b = { s.booth b with offerTimer := (s.booth b).offerTimer.map fun n => n - 1 } ∧
        t.relayRec b = { s.relayRec b with timer := (s.relayRec b).timer.map fun n => n - 1 }) ∧
      t.bdc.desks = s.bdc.desks ∧ t.bdc.channels = s.bdc.channels ∧
      t.relay.floorLang = s.relay.floorLang ∧ t.relay.hold = s.relay.hold ∧
      t.relay.producers = s.relay.producers ∧
      t.meter.sitting = { s.meter.sitting with onAir := t.meter.sitting.onAir } ∧
      (s.meter.sitting.onAir ≤ 4294967295 → t.meter.sitting.onAir = if s.meter.time < 4294967295 then
        min 4294967295 (s.meter.sitting.onAir + (Config.boothNumbers.filter fun b =>
          (s.turn b).any fun x => !(s.desk b x.desk).cough && decide (s.framer.override = .off)).length)
        else s.meter.sitting.onAir) ∧
      (∀ b, s.turn b = none → t.turn b = none ∧ t.totals b = s.totals b) ∧
      (4294967295 ≤ s.meter.time → ∀ b, t.turn b = s.turn b ∧ t.totals b = s.totals b) ∧
      ∀ b ∈ Config.boothNumbers, ∀ x, s.turn b = some x → s.meter.time < 4294967295 →
        ∃ held relay : Bool,
          (held = true ↔ (s.desk b x.desk).cough = true ∨ s.framer.override ≠ .off) ∧
          (relay = true ↔ ∃ c, (s.relayRec b).source = .channel c) ∧
          t.turn b = some { x with
            onAir := if held then x.onAir else min 65535 (x.onAir + 1)
            held := if held then min 65535 (x.held + 1) else x.held
            relay := if relay then min 65535 (x.relay + 1) else x.relay } ∧
          t.totals b = { s.totals b with
            onAir := if held then (s.totals b).onAir else min 4294967295 ((s.totals b).onAir + 1)
            held := if held then min 4294967295 ((s.totals b).held + 1) else (s.totals b).held
            relay := if relay then min 4294967295 ((s.totals b).relay + 1) else (s.totals b).relay })

/-- The expiry of the return grace timer in its last second stops it and makes the sweep, OVERDUE_SWEEP raised on both
links by the number marked; with any other timer nothing happens, which is the model's choice (log entries 3 and 4). -/
def Obligations.GraceExpirySweeps : Prop :=
  ∀ s : State,
    (s.meter.graceTimer ≠ some 1 → exec .returnGraceExpiry s = .next s) ∧
    (s.meter.graceTimer = some 1 → ∃ t, exec .returnGraceExpiry s = .next t ∧
      s.onlyChanges t [.meter, .register, .links] ∧ s.sameLinks t ∧
      t.meter = { s.meter with graceTimer := none } ∧ s.sweptTo t)

/-! ## Live microphones -/

/-- MIC_ON from a desk in use of a booth that has no live desk and no pending request, on a free channel: the desk is
granted the channel and becomes live, heard without a ramp from the next frame; it gets a turn while a sitting is open,
and the channel produces by its booth: the holds on it end and the booths are placed, RELAY_LOST raised by those newly
without a relay. -/
def Obligations.MicOnGrantsAFreeChannel : Prop :=
  ∀ (s : State) (b d c : Nat), s.accepts (.micOn b d) → s.MicLaw → s.RelayLaw → s.TurnLaw →
    s.framer.state = .onAir → s.deskInUse b d = true → (s.booth b).live = none → (s.booth b).pending = none →
    s.planChannel b (s.desk b d).output = some c → (s.chan c).holder = none →
    ∃ t n, exec (.micOn b d) s = .next (t.post .desk ⟨Code.micOn, .done, [f1 1]⟩) ∧
      s.onlyChanges t [.mixer, .bdc, .relay, .meter, .links] ∧ s.sameLinks t ∧
      t.booth b = ⟨some (d, c), none, none, none⟩ ∧ s.boothsBut t b ∧
      t.chan c = { s.chan c with holder := some ⟨b, d⟩ } ∧ t.carriage c = ⟨some ⟨b, d⟩, none⟩ ∧ s.channelsBut t c ∧
      t.desk b d = { s.desk b d with refused := false } ∧ s.desksBut t b d ∧
      t.turn b = s.newTurn b d c ∧ s.turnsBut t b ∧ t.meter.sitting = s.meter.sitting ∧
      t.meter.totals = s.meter.totals ∧ s.relayFollows t c (some b) ∧ s.relayRuns t [(c, some b)] n ∧
      t.sourcesReported ∧ t.links = (s.raise .relayLost n).links

/-- Every other MIC_ON from a desk in use clears the desk's REFUSED latch and, besides that, changes at most the booth's
request: DONE for the live desk, OFFERED or WAITING again for the desk that offers or waits, CHANNEL_UNASSIGNED where
the output has no channel, an offer while a partner is live, BOOTH_BUSY where the booth's place is taken, and the tail of
the channel's queue, or QUEUE_FULL, where another booth holds the channel. -/
def Obligations.MicOnOffersOrWaits : Prop :=
  ∀ (s : State) (b d : Nat), s.accepts (.micOn b d) → s.framer.state = .onAir → s.deskInUse b d = true →
    ((s.booth b).live = none → (s.booth b).pending = none →
      ∀ c, s.planChannel b (s.desk b d).output = some c → (s.chan c).holder ≠ none) →
    ∃ t code,
      exec (.micOn b d) s = .next (t.post .desk ⟨Code.micOn, code, [f1 (t.lamp b d).code]⟩) ∧
      s.onlyChanges t [.bdc] ∧ t.desk b d = { s.desk b d with refused := false } ∧ s.desksBut t b d ∧
      s.boothsBut t b ∧
      ((∃ c, (s.booth b).live = some (d, c)) → code = .done ∧ t.booth b = s.booth b ∧ t.bdc.channels = s.bdc.channels) ∧
      ((∀ c, (s.booth b).live ≠ some (d, c)) →
        ((∃ x, (s.booth b).offer = some (d, x)) →
          code = .offered ∧ t.booth b = s.booth b ∧ t.bdc.channels = s.bdc.channels) ∧
        ((∀ x, (s.booth b).offer ≠ some (d, x)) →
          ((∃ x, (s.booth b).pending = some (d, x)) →
            code = .waiting ∧ t.booth b = s.booth b ∧ t.bdc.channels = s.bdc.channels) ∧
          ((∀ x, (s.booth b).pending ≠ some (d, x)) →
            (s.planChannel b (s.desk b d).output = none →
              code = .channelUnassigned ∧ t.booth b = s.booth b ∧ t.bdc.channels = s.bdc.channels) ∧
            ∀ c, s.planChannel b (s.desk b d).output = some c →
              ((s.booth b).live ≠ none →
                ((s.booth b).offer ≠ none → code = .boothBusy ∧ t.booth b = s.booth b) ∧
                ((s.booth b).offer = none → code = .offered ∧ t.booth b = { s.booth b with
                  offer := some (d, (s.desk b d).output), offerTimer := some s.mixer.offerTimeout }) ∧
                t.bdc.channels = s.bdc.channels) ∧
              ((s.booth b).live = none →
                ((s.booth b).pending ≠ none →
                  code = .boothBusy ∧ t.booth b = s.booth b ∧ t.bdc.channels = s.bdc.channels) ∧
                ((s.booth b).pending = none → (s.chan c).holder ≠ none →
                  (4 ≤ (s.chan c).queue.length →
                    code = .queueFull ∧ t.booth b = s.booth b ∧ t.bdc.channels = s.bdc.channels) ∧
                  ((s.chan c).queue.length < 4 → code = .waiting ∧
                    t.booth b = { s.booth b with pending := some (d, (s.desk b d).output) } ∧
                    t.chan c = { s.chan c with queue := (s.chan c).queue ++ [⟨b, d⟩] } ∧
                    ∀ x, x ≠ c → t.chan x = s.chan x))))))

/-- MIC_OFF from the live desk of a booth whose offer is for the same channel hands over: the offering desk becomes live
on the channel, a ramp begins unless the ramp length is 0, from full gain or from the gain a running ramp had reached,
one turn ends and the next begins, and neither the wait queue nor the relay is concerned. -/
def Obligations.MicOffHandsOver : Prop :=
  ∀ (s : State) (b d e c : Nat) (y : Output), s.accepts (.micOff b d) → s.MicLaw → s.TurnLaw →
    s.framer.state = .onAir → s.deskInUse b d = true → (s.booth b).live = some (d, c) →
    (s.booth b).offer = some (e, y) → s.planChannel b y = some c →
    ∃ t, exec (.micOff b d) s = .next (t.post .desk ⟨Code.micOff, .done, [f1 (t.lamp b d).code]⟩) ∧
      s.onlyChanges t [.mixer, .bdc, .meter, .journal, .links] ∧ s.sameLinks t ∧
      t.booth b = { s.booth b with live := some (e, c), offer := none, offerTimer := none } ∧ s.boothsBut t b ∧
      t.chan c = { s.chan c with holder := some ⟨b, e⟩ } ∧ s.channelsBut t c ∧ t.bdc.desks = s.bdc.desks ∧
      (t.carriage c).live = some ⟨b, e⟩ ∧
      (s.mixer.rampLength = 0 → (t.carriage c).ramp = none) ∧
      (s.mixer.rampLength ≠ 0 →
        ((s.carriage c).ramp = none →
          (t.carriage c).ramp = some ⟨⟨b, d⟩, ⟨b, e⟩, 256, 0, s.mixer.rampLength⟩) ∧
        ∀ r, (s.carriage c).ramp = some r →
          (t.carriage c).ramp = some ⟨⟨b, d⟩, ⟨b, e⟩, 256 * r.k / r.len, 0, s.mixer.rampLength⟩) ∧
      t.mixer.feedSource = s.mixer.feedSource ∧
      t.turn b = s.newTurn b e c ∧ s.turnsBut t b ∧ s.turnEnded t b .handover ∧
      t.links = (s.handedOver (s.metered [b]).length).links

/-- MIC_OFF from the live desk of a booth without an offer releases the channel, and its oldest waiting desk, if there is
one, is granted it at once; with nobody waiting it stays free. The relay resolver follows the stop and, where there is a
grant, the start: holds begin and end, the booths are placed, and RELAY_LOST is raised by those newly without a relay. -/
def Obligations.MicOffReleases : Prop :=
  ∀ (s : State) (b d c : Nat), s.accepts (.micOff b d) → s.MicLaw → s.RelayLaw → s.TurnLaw →
    s.framer.state = .onAir → s.deskInUse b d = true → (s.booth b).live = some (d, c) → (s.booth b).offer = none →
    ∃ t n, exec (.micOff b d) s = .next (t.post .desk ⟨Code.micOff, .done, [f1 (t.lamp b d).code]⟩) ∧
      s.onlyChanges t [.mixer, .bdc, .relay, .meter, .journal, .links] ∧ s.sameLinks t ∧
      t.booth b = { s.booth b with live := none } ∧ t.turn b = none ∧ s.turnEnded t b .release ∧ s.meterBut t ∧
      t.bdc.desks = s.bdc.desks ∧ s.passedOn t b c ∧ (∀ x, x ≠ c → s.keptBeside t c x) ∧ s.mixerBut t ∧
      s.relayFollows t c ((s.chan c).queue.head?.map DeskId.booth) ∧ s.relayRuns t ((c, none) :: s.passReports c) n ∧
      t.sourcesReported ∧ t.links = (s.releaseFlags b n).links

/-- MIC_OFF from a desk that is not live withdraws its offer or its pending request, or changes nothing. From the live
desk of a booth whose offer is for another channel it releases the channel, the offering desk asks for that other channel
at once, and then the released channel passes to its oldest waiting desk. The offering desk is granted its channel where
that is free, waits where another booth holds it, and is left without either where the queue is full (log entry 28). The
relay resolver follows the reports in this order. -/
def Obligations.MicOffWithdrawsOrCrosses : Prop :=
  ∀ (s : State) (b d : Nat), s.accepts (.micOff b d) → s.MicLaw → s.framer.state = .onAir →
    s.deskInUse b d = true →
    ((∀ c, (s.booth b).live ≠ some (d, c)) →
      ∃ t, exec (.micOff b d) s = .next (t.post .desk ⟨Code.micOff, .done, [f1 (t.lamp b d).code]⟩) ∧
        s.onlyChanges t [.bdc] ∧ t.bdc.desks = s.bdc.desks ∧ s.boothsBut t b ∧
        (∀ x, (t.chan x).holder = (s.chan x).holder) ∧
        ((∃ x, (s.booth b).offer = some (d, x)) →
          t.booth b = { s.booth b with offer := none, offerTimer := none } ∧ t.bdc.channels = s.bdc.channels) ∧
        ((∃ x, (s.booth b).pending = some (d, x)) → t.booth b = { s.booth b with pending := none } ∧
          ∀ x, (t.chan x).queue = (s.chan x).queue.filter fun w => decide (w.booth ≠ b)) ∧
        ((∀ x, (s.booth b).offer ≠ some (d, x)) → (∀ x, (s.booth b).pending ≠ some (d, x)) →
          t.bdc = s.bdc)) ∧
    ∀ c e y c', (s.booth b).live = some (d, c) → (s.booth b).offer = some (e, y) → s.planChannel b y = some c' →
      c' ≠ c → s.RelayLaw → s.TurnLaw →
      ∃ t n, exec (.micOff b d) s = .next (t.post .desk ⟨Code.micOff, .done, [f1 (t.lamp b d).code]⟩) ∧
        s.onlyChanges t [.mixer, .bdc, .relay, .meter, .journal, .links] ∧ s.sameLinks t ∧
        s.passedOn t b c ∧ s.turnEnded t b .release ∧ s.meterBut t ∧ t.bdc.desks = s.bdc.desks ∧
        (∀ x, x ≠ c → x ≠ c' → s.keptBeside t c x) ∧ s.mixerBut t ∧ t.sourcesReported ∧
        t.links = (s.releaseFlags b n).links ∧
        ((s.chan c').holder = none →
          t.booth b = ⟨some (e, c'), none, none, none⟩ ∧ t.chan c' = ⟨some ⟨b, e⟩, s.passedQueue c c'⟩ ∧
          t.carriage c' = ⟨some ⟨b, e⟩, none⟩ ∧ t.turn b = s.newTurn b e c' ∧
          s.relayRuns t ((c, none) :: (c', some b) :: s.passReports c) n) ∧
        ((s.chan c').holder ≠ none → t.turn b = none ∧ t.carriage c' = s.carriage c' ∧
          s.relayRuns t ((c, none) :: s.passReports c) n ∧
          ((s.chan c').queue.length < 4 → t.booth b = ⟨none, some (e, y), none, none⟩ ∧
            t.chan c' = { s.chan c' with queue := s.passedQueue c c' ++ [⟨b, e⟩] }) ∧
          (4 ≤ (s.chan c').queue.length → t.booth b = ⟨none, none, none, none⟩ ∧ s.keptBeside t c c'))

/-- OUTPUT with the output already selected changes nothing. From a desk that is not live it withdraws the desk's offer
or pending request and selects the output. From the live desk it is refused where the output has no channel; otherwise
the desk leaves its channel, which passes to its oldest waiting desk, and claims the other one: granted where it is free,
waiting where it is held, turned away where the queue is full (log entry 30), and in the last two cases an offer against
the desk is cancelled. The relay resolver follows the reports in this order. -/
def Obligations.OutputMovesTheDesk : Prop :=
  ∀ (s : State) (b d place : Nat) (x : Output), s.accepts (.output b d place) →
    x = (if place = 0 then .a else .b) → s.MicLaw → s.framer.state = .onAir → s.deskInUse b d = true →
    ((s.desk b d).output = x →
      exec (.output b d place) s = .next (s.post .desk ⟨Code.output, .done, [f1 (s.lamp b d).code]⟩)) ∧
    ((s.desk b d).output ≠ x → (∀ c, (s.booth b).live ≠ some (d, c)) →
      ∃ t, exec (.output b d place) s = .next (t.post .desk ⟨Code.output, .done, [f1 (t.lamp b d).code]⟩) ∧
        s.onlyChanges t [.bdc] ∧ t.desk b d = { s.desk b d with output := x } ∧ s.desksBut t b d ∧ s.boothsBut t b ∧
        t.booth b =
          (if (s.booth b).pending.map Prod.fst = some d then { s.booth b with pending := none }
          else if (s.booth b).offer.map Prod.fst = some d then { s.booth b with offer := none, offerTimer := none }
          else s.booth b) ∧
        ∀ c, (t.chan c).holder = (s.chan c).holder ∧ (t.chan c).queue =
          if (s.booth b).pending.map Prod.fst = some d then (s.chan c).queue.filter fun w => decide (w.booth ≠ b)
          else (s.chan c).queue) ∧
    ((s.desk b d).output ≠ x → (∃ c, (s.booth b).live = some (d, c)) → s.planChannel b x = none →
      exec (.output b d place) s = .next (s.post .desk ⟨Code.output, .channelUnassigned, [f1 (s.lamp b d).code]⟩)) ∧
    ∀ c c', (s.desk b d).output ≠ x → (s.booth b).live = some (d, c) → s.planChannel b x = some c' → c' ≠ c →
      s.RelayLaw → s.TurnLaw →
      ∃ t code n, exec (.output b d place) s = .next (t.post .desk ⟨Code.output, code, [f1 (t.lamp b d).code]⟩) ∧
        s.onlyChanges t [.mixer, .bdc, .relay, .meter, .journal, .links] ∧ s.sameLinks t ∧
        s.passedOn t b c ∧ s.turnEnded t b .output ∧ s.meterBut t ∧ t.desk b d = { s.desk b d with output := x } ∧
        (∀ y, y ≠ c → y ≠ c' → s.keptBeside t c y) ∧ s.mixerBut t ∧ t.sourcesReported ∧
        t.links = (s.releaseFlags b n).links ∧
        ((s.chan c').holder = none → code = .done ∧ s.desksBut t b d ∧
          t.booth b = { s.booth b with live := some (d, c') } ∧
          t.chan c' = ⟨some ⟨b, d⟩, s.passedQueue c c'⟩ ∧ t.carriage c' = ⟨some ⟨b, d⟩, none⟩ ∧
          t.turn b = s.newTurn b d c' ∧
          s.relayRuns t ((c, none) :: (s.passReports c ++ [(c', some b)])) n) ∧
        ((s.chan c').holder ≠ none → t.turn b = none ∧ t.carriage c' = s.carriage c' ∧
          s.relayRuns t ((c, none) :: s.passReports c) n ∧
          (∀ e y, (s.booth b).offer = some (e, y) → t.desk b e = { s.desk b e with refused := true }) ∧
          (∀ p q, deskKey p q ≠ deskKey b d →
            (∀ e y, (s.booth b).offer = some (e, y) → deskKey p q ≠ deskKey b e) → t.desk p q = s.desk p q) ∧
          ((s.passedQueue c c').length < 4 → code = .waiting ∧ t.booth b = ⟨none, some (d, x), none, none⟩ ∧
            t.chan c' = { s.chan c' with queue := s.passedQueue c c' ++ [⟨b, d⟩] }) ∧
          (4 ≤ (s.passedQueue c c').length → code = .queueFull ∧ t.booth b = ⟨none, none, none, none⟩ ∧
            s.keptBeside t c c'))

/-- COUGH_ON and COUGH_OFF set a live desk's cough and are refused to another. SIGN_ON is refused where another desk
holds the number; otherwise SIGN_ON and SIGN_OFF set the desk's interpreter, and where that changes a live desk's turn
ends and a new one begins. -/
def Obligations.CoughAndSignOn : Prop :=
  ∀ (s : State) (b d : Nat), s.framer.state = .onAir → s.deskInUse b d = true →
    (∀ on : Bool, s.accepts (if on then .coughOn b d else .coughOff b d) →
      ((∃ c, (s.booth b).live = some (d, c)) →
        ∃ t, exec (if on then .coughOn b d else .coughOff b d) s = .next (t.post .desk
            ⟨if on then Code.coughOn else Code.coughOff, .done, [f1 (s.lamp b d).code]⟩) ∧
          s.onlyChanges t [.bdc] ∧ t.desk b d = { s.desk b d with cough := on } ∧ s.desksBut t b d ∧
          t.bdc.booths = s.bdc.booths ∧ t.bdc.channels = s.bdc.channels) ∧
      ((∀ c, (s.booth b).live ≠ some (d, c)) →
        exec (if on then .coughOn b d else .coughOff b d) s = .next (s.post .desk
          ⟨if on then Code.coughOn else Code.coughOff, .notLive, [f1 (s.lamp b d).code]⟩))) ∧
    (∀ n, s.accepts (.signOn b d n) → s.TablesLaw →
      (∃ x y, deskKey x y ≠ deskKey b d ∧ (s.desk x y).interpreter = some n) →
      exec (.signOn b d n) s = .next (s.post .desk ⟨Code.signOn, .idInUse, [f1 (s.lamp b d).code]⟩)) ∧
    ∀ i who req, (who = none ∧ i = .signOff b d ∧ req = Code.signOff ∨
        ∃ n, who = some n ∧ i = .signOn b d n ∧ req = Code.signOn ∧
          ∀ x y, deskKey x y ≠ deskKey b d → (s.desk x y).interpreter ≠ some n) →
      s.accepts i → s.TablesLaw →
      ∃ t, exec i s = .next (t.post .desk ⟨req, .done, [f1 (s.lamp b d).code]⟩) ∧
        s.onlyChanges t [.bdc, .meter, .journal, .links] ∧ s.sameLinks t ∧
        t.desk b d = { s.desk b d with interpreter := who } ∧ s.desksBut t b d ∧
        t.bdc.booths = s.bdc.booths ∧ t.bdc.channels = s.bdc.channels ∧ s.turnsBut t b ∧
        ((s.desk b d).interpreter = who ∨ (∀ c, (s.booth b).live ≠ some (d, c)) →
          t.meter = s.meter ∧ t.journal = s.journal ∧ t.links = s.links) ∧
        ∀ c, (s.desk b d).interpreter ≠ who → (s.booth b).live = some (d, c) →
          s.turnEnded t b .signOn ∧ t.links = (s.handedOver (s.metered [b]).length).links ∧
          t.turn b = if s.meter.sitting.isOpen then
            some ⟨d, who, c, s.carriedQuality c, s.meter.time, 0, 0, 0⟩ else none

/-- Every desk request but POLL is refused with NOT_ON_AIR off air, and with BAD_DESK where the plan on air does not have
the booth present or the desk in use; both answers carry the desk's lamp, and nothing changes. -/
def Obligations.DeskRequestsRefusedOffAir : Prop :=
  ∀ (s : State) (i : Instr) (r : Request) (b d : Nat) (more : List Nat), i.request = some r → r.link = .desk →
    r.code ≠ Code.poll → r.params = b :: d :: more → s.accepts i →
    (s.framer.state ≠ .onAir → exec i s = .next (s.post .desk ⟨r.code, .notOnAir, [f1 (s.lamp b d).code]⟩)) ∧
    (s.framer.state = .onAir → (∀ e, s.planBooth b = some e → e.desksInUse < d) →
      exec i s = .next (s.post .desk ⟨r.code, .badDesk, [f1 (s.lamp b d).code]⟩))

/-- FORCE_OFF takes the microphone from a booth's live desk: an offer is cancelled, with the offering desk's REFUSED latch
set, the channel is released, and its oldest waiting desk, if there is one, is granted it. The relay resolver follows the
stop and the start, RELAY_LOST raised by the booths newly without a relay. It is refused off air and where no desk of the
booth is live. -/
def Obligations.ForceOffReleases : Prop :=
  ∀ (s : State) (b : Nat), s.accepts (.forceOff b) →
    (s.framer.state ≠ .onAir → exec (.forceOff b) s = .next (s.post .console ⟨Code.forceOff, .notOnAir, []⟩)) ∧
    (s.framer.state = .onAir → (s.booth b).live = none →
      exec (.forceOff b) s = .next (s.post .console ⟨Code.forceOff, .notLive, []⟩)) ∧
    ∀ d c, s.framer.state = .onAir → (s.booth b).live = some (d, c) → s.MicLaw → s.RelayLaw → s.TurnLaw →
      ∃ t n, exec (.forceOff b) s = .next (t.post .console ⟨Code.forceOff, .done, []⟩) ∧
        s.onlyChanges t [.mixer, .bdc, .relay, .meter, .journal, .links] ∧ s.sameLinks t ∧
        t.booth b = ⟨none, none, none, none⟩ ∧ t.turn b = none ∧ s.turnEnded t b .forced ∧ s.meterBut t ∧
        ((s.booth b).offer = none → t.bdc.desks = s.bdc.desks) ∧
        (∀ e y, (s.booth b).offer = some (e, y) → t.desk b e = { s.desk b e with refused := true } ∧
          s.desksBut t b e) ∧
        s.passedOn t b c ∧ (∀ x, x ≠ c → s.keptBeside t c x) ∧ s.mixerBut t ∧
        s.relayFollows t c ((s.chan c).queue.head?.map DeskId.booth) ∧
        s.relayRuns t ((c, none) :: s.passReports c) n ∧ t.sourcesReported ∧ t.links = (s.releaseFlags b n).links

/-- LIVE_RESET empties every queue, clears every request, offer and REFUSED latch, and releases every live desk, booth by
booth in ascending number; outputs, cough and sign-on stay. Every open turn ends, its entry written while the journal has
room, and folded into the totals otherwise. The relay resolver follows the stops in their order: holds begin, the booths
are placed, and RELAY_LOST is raised by those newly without a relay. -/
def Obligations.LiveResetClearsTheDesks : Prop :=
  ∀ s : State, s.receives .console = true → s.MicLaw → s.TurnLaw → s.TablesLaw →
    ∃ t, exec .liveReset s = .next (t.post .console ⟨Code.liveReset, .done, []⟩) ∧
      s.onlyChanges t [.mixer, .bdc, .relay, .meter, .journal, .links] ∧ s.sameLinks t ∧
      (∀ b, t.booth b = ⟨none, none, none, none⟩) ∧ (∀ c, t.chan c = ⟨none, []⟩) ∧
      (∀ b d, t.desk b d = { s.desk b d with refused := false }) ∧
      (∀ c, t.carriage c = ⟨none, none⟩) ∧ (∀ c, t.producer c = none) ∧ s.relayKept t ∧ s.mixerBut t ∧
      (∀ b, t.turn b = none) ∧ s.meterBut t ∧ t.meter.sitting = s.turnsCounted Config.boothNumbers ∧
      s.turnsFolded t Config.boothNumbers ∧
      t.journal = s.journalWith (s.turnEntries Config.boothNumbers .liveReset) ∧
      (s.RelayLaw → ∃ n,
        s.relayRuns t (Config.boothNumbers.filterMap fun b => (s.booth b).live.map fun x => (x.2, none)) n ∧
        t.sourcesReported ∧
        t.links = ((s.handedOver (s.metered Config.boothNumbers).length).raise .relayLost n).links)

/-- An offer timer that has run out: its expiry removes the offer, sets the offering desk's REFUSED latch and raises
OFFER_EXPIRED. A hold timer that has run out: its expiry ends the booth's hold and places it with the others, those still
in HOLDING left as they are, and RELAY_LOST is raised by the booths newly without a relay. Without a timer that has run
out nothing happens, which is the model's choice (log entries 3 and 4). -/
def Obligations.TimersExpire : Prop :=
  ∀ (s : State) (b : Nat),
    ((s.booth b).offerTimer ≠ some 0 → exec (.offerTimerExpiry b) s = .next s) ∧
    (∀ e y, (s.booth b).offerTimer = some 0 → (s.booth b).offer = some (e, y) →
      ∃ t, exec (.offerTimerExpiry b) s = .next t ∧ s.onlyChanges t [.bdc, .links] ∧
        t.booth b = { s.booth b with offer := none, offerTimer := none } ∧ s.boothsBut t b ∧
        t.desk b e = { s.desk b e with refused := true } ∧ s.desksBut t b e ∧
        t.bdc.channels = s.bdc.channels ∧ t.links = (s.raise .offerExpired 1).links) ∧
    ((s.relayRec b).timer ≠ some 0 → exec (.holdTimerExpiry b) s = .next s) ∧
    ((s.relayRec b).timer = some 0 → s.MicLaw → s.RelayLaw →
      ∃ t, exec (.holdTimerExpiry b) s = .next t ∧ s.onlyChanges t [.mixer, .relay, .links] ∧ s.sameLinks t ∧
        (t.relayRec b).status ≠ .holding ∧ (t.relayRec b).timer = none ∧ t.relayPlaced ∧ s.relayKept t ∧
        (∀ x, x ≠ b → (s.relayRec x).status = .holding → (s.planBooth x).isSome = true →
          t.relayRec x = s.relayRec x) ∧
        (∀ x, (t.relayRec x).status = .holding → (s.relayRec x).status = .holding) ∧
        t.relay.producers = s.relay.producers ∧ t.sourcesReported ∧
        t.mixer = { s.mixer with feedSource := t.mixer.feedSource } ∧
        t.links = (s.raise .relayLost (s.lostTo t)).links)

/-! ## The receiver register -/

/-- RX_REGISTER fills the lowest free slot, RX_REGISTER_NEXT the next free slot of the window from the write cursor on,
in WRAP mode coming round to the window's start, and moves that cursor; a serial already registered is refused, and so
is a register or window without a free slot. RX_WINDOW sets the window, and RX_READ_NEXT walks its occupied slots, a record's
fields standing in the order that is the model's reading (log entry 17). -/
def Obligations.RegistrationTakesAFreeSlot : Prop :=
  ∀ s : State,
    (∀ serial cls : Nat, ∀ fresh : Receiver,
      fresh = ⟨serial, if cls = 0 then .standard else .assistive, .charging, none, false, 0, .none⟩ →
      (s.accepts (.rxRegister serial cls) →
        (∀ slot r, s.receiver serial = some (slot, r) →
          exec (.rxRegister serial cls) s = .next (s.post .counter ⟨Code.rxRegister, .duplicate, [f2 slot]⟩)) ∧
        (s.receiver serial = none →
          (∀ slot, (List.range 2048).find? (fun x => (Table.fetch? s.register.slots x).isNone) = some slot →
            ∃ t, exec (.rxRegister serial cls) s = .next (t.post .counter ⟨Code.rxRegister, .done, [f2 slot]⟩) ∧
              s.onlyChanges t [.register] ∧ Table.fetch? t.register.slots slot = some fresh ∧ s.slotsBut t slot) ∧
          ((List.range 2048).find? (fun x => (Table.fetch? s.register.slots x).isNone) = none →
            exec (.rxRegister serial cls) s = .next (s.post .counter ⟨Code.rxRegister, .registerFull, []⟩)))) ∧
      (s.accepts (.rxRegisterNext serial cls) → ∀ order,
        order = List.range' s.register.window.write (s.register.window.last + 1 - s.register.window.write) ++
          (if s.register.window.wrap then
            List.range' s.register.window.first (s.register.window.write - s.register.window.first) else []) →
        (∀ slot r, s.receiver serial = some (slot, r) →
          exec (.rxRegisterNext serial cls) s =
            .next (s.post .counter ⟨Code.rxRegisterNext, .duplicate, [f2 slot]⟩)) ∧
        (s.receiver serial = none →
          (∀ slot, order.find? (fun x => (Table.fetch? s.register.slots x).isNone) = some slot →
            ∃ t, exec (.rxRegisterNext serial cls) s =
                .next (t.post .counter ⟨Code.rxRegisterNext, .done, [f2 slot]⟩) ∧
              s.onlyChanges t [.register] ∧ Table.fetch? t.register.slots slot = some fresh ∧
              (∀ x, x ≠ slot → Table.fetch? t.register.slots x = Table.fetch? s.register.slots x) ∧
              t.register.window = { s.register.window with
                write := if s.register.window.wrap = true ∧ s.register.window.last < slot + 1 then
                  s.register.window.first else slot + 1 }) ∧
          (order.find? (fun x => (Table.fetch? s.register.slots x).isNone) = none →
            exec (.rxRegisterNext serial cls) s =
              .next (s.post .counter ⟨Code.rxRegisterNext, .windowFull, []⟩))))) ∧
    (∀ first last mode, s.accepts (.rxWindow first last mode) →
      ∃ t, exec (.rxWindow first last mode) s = .next (t.post .counter ⟨Code.rxWindow, .done, []⟩) ∧
        s.onlyChanges t [.register] ∧ t.register.slots = s.register.slots ∧
        t.register.window = ⟨first, last, decide (mode = 1), first, first⟩) ∧
    (s.receives .counter = true → ∀ walk,
      walk = List.range' s.register.window.read (s.register.window.last + 1 - s.register.window.read) →
      (∀ slot r, walk.find? (fun x => (Table.fetch? s.register.slots x).isSome) = some slot →
        Table.fetch? s.register.slots slot = some r →
        ∃ t, exec .rxReadNext s = .next (t.post .counter ⟨Code.rxReadNext, .done, receiverFields slot r⟩) ∧
          s.onlyChanges t [.register] ∧ t.register.slots = s.register.slots ∧
          t.register.window = { s.register.window with read := slot + 1 }) ∧
      (walk.find? (fun x => (Table.fetch? s.register.slots x).isSome) = none →
        ∃ t, exec .rxReadNext s = .next (t.post .counter ⟨Code.rxReadNext, .endOfWindow, []⟩) ∧
          s.onlyChanges t [.register] ∧ t.register.slots = s.register.slots ∧
          t.register.window = { s.register.window with read := s.register.window.last + 1 })) ∧
    (s.HireLaw → s.TablesLaw → ∀ serial slot r, s.receiver serial = some (slot, r) ↔
      Table.fetch? s.register.slots slot = some r ∧ r.serial = serial)

/-- A serial that is not registered is refused by every request that names a receiver. RX_QUERY answers the record on
either link; RX_WITHDRAW frees the slot of a receiver that is not on hire; REPAIRED returns a FAULTY one to CHARGING; a
rack result makes a CHARGING receiver AVAILABLE or FAULTY and an AVAILABLE one FAULTY; FOUND returns a LOST one to
CHARGING with a FOUND entry while more than 32 entries are free. Any other state is refused with the state. The order of
the record's fields is the model's reading (log entry 17). -/
def Obligations.ReceiverService : Prop :=
  ∀ (s : State) (serial : Nat),
    (s.receiver serial = none → ∀ (i : Instr) (r : Request), i.request = some r → s.accepts i →
      i ∈ [.rxQuery .console serial, .rxQuery .counter serial, .rxWithdraw serial, .repaired serial,
        .rackReport serial 0, .rackReport serial 1, .rxReturn serial, .lost serial, .found serial] ∨
        (∃ x, i = .rxPreset serial x) ∨ (∃ x y z, i = .issue serial x y z) →
      exec i s = .next (s.post r.link ⟨r.code, .noSuchReceiver, []⟩)) ∧
    ∀ slot r, s.receiver serial = some (slot, r) →
      (∀ l, s.accepts (.rxQuery l serial) → exec (.rxQuery l serial) s = .next (s.post (Link.ofMaster l)
        ⟨Code.rxQuery, .done, [f2 slot, f2 r.serial, f1 r.cls.code, f1 r.state.code,
          fOpt 2 (r.hire.map HireFields.account), fOpt 2 (r.hire.map HireFields.preset), fBit r.orphaned,
          fOpt 4 (r.hire.map HireFields.issueTime), fOpt 2 (r.hire.map HireFields.issueSitting),
          fOpt 1 (r.hire.map fun h => if h.openAtIssue then 1 else 0), fOpt 2 (r.hire.map HireFields.deposit),
          f2 r.lifetimeHires, f1 r.lastRack.code]⟩)) ∧
      (s.accepts (.rxWithdraw serial) →
        (r.state = .onHire ∨ r.state = .overdue → exec (.rxWithdraw serial) s =
          .next (s.post .counter ⟨Code.rxWithdraw, .wrongState, [f1 r.state.code]⟩)) ∧
        (r.state ≠ .onHire → r.state ≠ .overdue →
          ∃ t, exec (.rxWithdraw serial) s = .next (t.post .counter ⟨Code.rxWithdraw, .done, [f2 slot]⟩) ∧
            s.onlyChanges t [.register] ∧ Table.fetch? t.register.slots slot = none ∧ s.slotsBut t slot)) ∧
      (s.accepts (.repaired serial) →
        (r.state ≠ .faulty → exec (.repaired serial) s =
          .next (s.post .counter ⟨Code.repaired, .wrongState, [f1 r.state.code]⟩)) ∧
        (r.state = .faulty →
          ∃ t, exec (.repaired serial) s = .next (t.post .counter ⟨Code.repaired, .done, []⟩) ∧
            s.onlyChanges t [.register] ∧ s.slotsBut t slot ∧
            Table.fetch? t.register.slots slot = some { r with state := .charging, lastRack := .none })) ∧
      (∀ n, s.accepts (.rackReport serial n) → r.state ≠ .onHire → r.state ≠ .overdue →
        (r.state = .charging ∨ r.state = .available ∧ n = 1 →
          ∃ t r', exec (.rackReport serial n) s =
              .next (t.post .counter ⟨Code.rackReport, .done, [f1 r'.state.code]⟩) ∧
            r' = (if n = 0 then { r with state := .available, lastRack := .charged }
              else { r with state := .faulty, lastRack := .fault }) ∧
            s.onlyChanges t [.register] ∧ s.slotsBut t slot ∧ Table.fetch? t.register.slots slot = some r') ∧
        (¬ (r.state = .charging ∨ r.state = .available ∧ n = 1) → exec (.rackReport serial n) s =
          .next (s.post .counter ⟨Code.rackReport, .wrongState, [f1 r.state.code]⟩))) ∧
      (s.accepts (.found serial) →
        (r.state ≠ .lost → exec (.found serial) s =
          .next (s.post .counter ⟨Code.found, .wrongState, [f1 r.state.code]⟩)) ∧
        (r.state = .lost → s.journal.free ≤ 32 → exec (.found serial) s =
          .next (s.post .counter ⟨Code.found, .journalFull, []⟩)) ∧
        (r.state = .lost → 32 < s.journal.free →
          ∃ t, exec (.found serial) s = .next (t.post .counter ⟨Code.found, .done, []⟩) ∧
            s.onlyChanges t [.register, .journal, .links] ∧ s.sameLinks t ∧ s.slotsBut t slot ∧
            Table.fetch? t.register.slots slot = some { r with state := .charging } ∧
            t.journal = s.journal.append s.meter.time (.found r.serial) ∧
            t.links = (s.writeEntry (.found r.serial)).links))

/-! ## Accounts, hires and charges -/

/-- The account requests: ACCT_OPEN writes a new account with its limits clamped into the kind's ranges; ACCT_LIMIT
changes the limits unless they fall below the receivers out; ACCT_PAY takes the amount off the balance, never below 0;
ACCT_CLOSE removes an account with no receiver out, and writes its final balance to the journal while more than 32
entries are free; ACCT_QUERY answers the record. An account's state follows its balance. TARIFF_SET stores the seven
values clamped while no receiver is on hire. How the answers give the account's fields and code its state is the
model's reading (log entry 17). -/
def Obligations.AccountRequests : Prop :=
  ∀ s : State,
    (∀ n kind limit credit : Nat, s.accepts (.acctOpen n kind limit credit) →
      (s.account n ≠ none → exec (.acctOpen n kind limit credit) s =
        .next (s.post .counter ⟨Code.acctOpen, .duplicate, []⟩)) ∧
      (s.account n = none → 512 ≤ s.hire.accounts.length → exec (.acctOpen n kind limit credit) s =
        .next (s.post .counter ⟨Code.acctOpen, .tableFull, []⟩)) ∧
      (s.account n = none → s.hire.accounts.length < 512 →
        ∃ t a, exec (.acctOpen n kind limit credit) s =
            .next (t.post .counter ⟨Code.acctOpen, .done, accountFields n a⟩) ∧
          a = (if kind = 0 then ⟨.personal, false, min 2 (max 1 limit), 0, 0, 0, 0⟩
            else ⟨.delegation, false, min 255 (max 1 limit), 0, 0, min 9999999 credit, 0⟩) ∧
          s.onlyChanges t [.hire] ∧ t.account n = some a ∧ s.accountsBut t n ∧ t.hire.tally = s.hire.tally)) ∧
    (∀ n, s.account n = none → (∀ limit credit, s.accepts (.acctLimit n limit credit) →
        exec (.acctLimit n limit credit) s = .next (s.post .counter ⟨Code.acctLimit, .accountUnknown, []⟩)) ∧
      (∀ amount, s.accepts (.acctPay n amount) →
        exec (.acctPay n amount) s = .next (s.post .counter ⟨Code.acctPay, .accountUnknown, []⟩)) ∧
      (s.accepts (.acctClose n) →
        exec (.acctClose n) s = .next (s.post .counter ⟨Code.acctClose, .accountUnknown, []⟩)) ∧
      ∀ l, s.accepts (.acctQuery l n) →
        exec (.acctQuery l n) s = .next (s.post (Link.ofMaster l) ⟨Code.acctQuery, .accountUnknown, []⟩)) ∧
    (∀ n a, s.account n = some a →
      (∀ limit credit, s.accepts (.acctLimit n limit credit) → ∀ limit' credit',
        limit' = (match a.kind with
          | .personal => min 2 (max 1 limit)
          | .delegation => min 255 (max 1 limit)) →
        credit' = (match a.kind with
          | .personal => 0
          | .delegation => min 9999999 credit) →
        (limit' < a.outCount → exec (.acctLimit n limit credit) s =
          .next (s.post .counter ⟨Code.acctLimit, .limitBelowOut, []⟩)) ∧
        (a.outCount ≤ limit' → ∃ t blocked, exec (.acctLimit n limit credit) s =
            .next (t.post .counter ⟨Code.acctLimit, .done, [f1 limit'] ++ (match a.kind with
              | .personal => []
              | .delegation => [f3 credit']) ++ [fBit blocked]⟩) ∧
          blocked = (match a.kind with
            | .personal => decide (0 < a.balance)
            | .delegation => decide (credit' < a.balance)) ∧
          s.onlyChanges t [.hire] ∧ s.accountsBut t n ∧ t.hire.tally = s.hire.tally ∧
          t.account n = some { a with limit := limit', credit := credit', blocked := blocked })) ∧
      (∀ amount, s.accepts (.acctPay n amount) → ∃ t blocked, exec (.acctPay n amount) s =
            .next (t.post .counter ⟨Code.acctPay, .done,
              [f3 (min amount a.balance), f3 (a.balance - amount), fBit blocked]⟩) ∧
          blocked = (match a.kind with
            | .personal => decide (0 < a.balance - amount)
            | .delegation => decide (a.credit < a.balance - amount)) ∧
          s.onlyChanges t [.hire] ∧ s.accountsBut t n ∧ t.hire.tally = s.hire.tally ∧
          t.account n = some { a with balance := a.balance - amount, blocked := blocked }) ∧
      (s.accepts (.acctClose n) →
        (0 < a.outCount → exec (.acctClose n) s = .next (s.post .counter ⟨Code.acctClose, .receiversOut, []⟩)) ∧
        (a.outCount = 0 → s.journal.free ≤ 32 →
          exec (.acctClose n) s = .next (s.post .counter ⟨Code.acctClose, .journalFull, []⟩)) ∧
        (a.outCount = 0 → 32 < s.journal.free →
          ∃ t, exec (.acctClose n) s = .next (t.post .counter ⟨Code.acctClose, .done, [f3 a.balance]⟩) ∧
            s.onlyChanges t [.hire, .journal, .links] ∧ s.sameLinks t ∧ t.account n = none ∧ s.accountsBut t n ∧
            t.hire.tally = s.hire.tally ∧
            t.journal = s.journal.append s.meter.time (.account n a.kind a.balance) ∧
            t.links = (s.writeEntry (.account n a.kind a.balance)).links)) ∧
      ∀ l, s.accepts (.acctQuery l n) → exec (.acctQuery l n) s = .next (s.post (Link.ofMaster l)
        ⟨Code.acctQuery, .done, [f2 n, f1 a.kind.code, fBit a.blocked, f1 a.limit, f1 a.outCount, f3 a.balance] ++
          (match a.kind with
          | .personal => []
          | .delegation => [f3 a.credit]) ++ [f3 a.deposits]⟩)) ∧
    (s.receives .console = true → ∀ grace unit rate cap fee loss deposit : Nat,
      (0 < (s.hire.tally.langs.map Prod.snd).sum + s.hire.tally.other →
        exec (.tariffSet grace unit rate cap fee loss deposit) s =
          .next (s.post .console ⟨Code.tariffSet, .tariffInUse, []⟩)) ∧
      ((s.hire.tally.langs.map Prod.snd).sum + s.hire.tally.other = 0 →
        ∃ t u, exec (.tariffSet grace unit rate cap fee loss deposit) s = .next (t.post .console
            ⟨Code.tariffSet, .done,
              [f3 u.grace, f3 u.unit, f3 u.rate, f3 u.cap, f3 u.fee, f3 u.loss, f3 u.deposit]⟩) ∧
          u = ⟨min 60 grace, min 240 (max 5 unit), min 65535 rate, min 999999 cap, min 65535 fee, min 999999 loss,
            min 65535 deposit⟩ ∧
          s.onlyChanges t [.hire] ∧ t.hire = { s.hire with tariff := u }))

/-- ISSUE to an open account with a place left, of an AVAILABLE receiver, with a preset of the language list and the
deposit collected, puts the receiver on hire, counts it on the account, in the tally and in the open sitting; its other
outcomes are refused in the order of the checks. RX_PRESET moves a receiver on hire from its old preset to a new one of
the language list and clears its orphaned flag. -/
def Obligations.IssueAndPreset : Prop :=
  ∀ (s : State) (serial slot : Nat) (r : Receiver), s.receiver serial = some (slot, r) →
    (∀ n preset collected a, s.accepts (.issue serial n preset collected) → s.account n = some a →
      r.state = .available → a.blocked = false → a.outCount ≠ a.limit → s.inLanguageList preset = true →
      (a.kind = .personal → s.hire.tariff.deposit ≤ collected) →
      ∃ t paid, exec (.issue serial n preset collected) s =
          .next (t.post .counter ⟨Code.issue, .done, [f2 slot, f2 paid, f1 (a.outCount + 1)]⟩) ∧
        paid = (match a.kind with
          | .personal => s.hire.tariff.deposit
          | .delegation => 0) ∧
        s.onlyChanges t [.register, .hire, .meter] ∧ s.slotsBut t slot ∧
        Table.fetch? t.register.slots slot = some { r with
          state := .onHire, orphaned := false, lifetimeHires := min 65535 (r.lifetimeHires + 1),
          hire := some ⟨n, preset, s.meter.time, s.meter.sitting.number, s.meter.sitting.isOpen, paid⟩ } ∧
        t.account n = some { a with outCount := a.outCount + 1, deposits := a.deposits + paid } ∧
        s.accountsBut t n ∧ s.hire.tally.countedIn t.hire.tally preset ∧
        t.meter = { s.meter with sitting := { s.meter.sitting with
          issues := if s.meter.sitting.isOpen then min 65535 (s.meter.sitting.issues + 1)
            else s.meter.sitting.issues } }) ∧
    (∀ n preset collected, s.accepts (.issue serial n preset collected) →
      (r.state ≠ .available → exec (.issue serial n preset collected) s =
        .next (s.post .counter ⟨Code.issue, .wrongState, [f1 r.state.code]⟩)) ∧
      (r.state = .available → s.account n = none → exec (.issue serial n preset collected) s =
        .next (s.post .counter ⟨Code.issue, .accountUnknown, []⟩)) ∧
      ∀ a, r.state = .available → s.account n = some a →
        (a.blocked = true → exec (.issue serial n preset collected) s =
          .next (s.post .counter ⟨Code.issue, .accountBlocked, []⟩)) ∧
        (a.blocked = false → a.outCount = a.limit → exec (.issue serial n preset collected) s =
          .next (s.post .counter ⟨Code.issue, .limitReached, []⟩)) ∧
        (a.blocked = false → a.outCount ≠ a.limit → s.inLanguageList preset = false →
          exec (.issue serial n preset collected) s =
            .next (s.post .counter ⟨Code.issue, .noSuchLanguage, []⟩)) ∧
        (a.blocked = false → a.outCount ≠ a.limit → s.inLanguageList preset = true → a.kind = .personal →
          collected < s.hire.tariff.deposit → exec (.issue serial n preset collected) s =
            .next (s.post .counter ⟨Code.issue, .depositShort, [f2 s.hire.tariff.deposit]⟩))) ∧
    (∀ lang, s.accepts (.rxPreset serial lang) →
      (r.onHire = false → exec (.rxPreset serial lang) s =
        .next (s.post .counter ⟨Code.rxPreset, .wrongState, [f1 r.state.code]⟩)) ∧
      ∀ h, r.onHire = true → r.hire = some h →
        (s.inLanguageList lang = false → exec (.rxPreset serial lang) s =
          .next (s.post .counter ⟨Code.rxPreset, .noSuchLanguage, []⟩)) ∧
        (s.inLanguageList lang = true →
          ∃ t mid, exec (.rxPreset serial lang) s = .next (t.post .counter ⟨Code.rxPreset, .done,
              [f2 lang, f2 ((Table.fetch? t.hire.tally.langs lang).getD t.hire.tally.other)]⟩) ∧
            s.onlyChanges t [.register, .hire] ∧ s.slotsBut t slot ∧
            Table.fetch? t.register.slots slot =
              some { r with hire := some { h with preset := lang }, orphaned := false } ∧
            t.hire.accounts = s.hire.accounts ∧ t.hire.tariff = s.hire.tariff ∧
            (h.preset = lang → t.hire.tally = s.hire.tally) ∧
            (h.preset ≠ lang → s.hire.tally.countedOut mid h.preset ∧ mid.countedIn t.hire.tally lang)))

/-- The language list: 0, and the languages of the bank on air or, with none on air, of every VALID bank. -/
def Obligations.LanguageList : Prop :=
  ∀ (s : State) (lang : Nat), s.PlanLaw →
    (s.inLanguageList lang = true ↔ lang = 0 ∨
      ∃ k ∈ Config.bankNumbers, ∃ c ∈ Config.channelNumbers,
        ((s.bank k).status = .onAir ∨ s.framer.state = .standby ∧ (s.bank k).status = .valid) ∧
        ((s.bank k).channel c).enabled = true ∧ ((s.bank k).channel c).lang = lang)

/-- RETURN, LOST and a rack report for a receiver on hire end the hire: the charge is settled against the account, one
HIRE or LOSS entry is written, the receiver goes to CHARGING or LOST, and the account, the tally and the open sitting
count it. With 32 or fewer journal entries free they are refused, a rack report still leaving its result in the record.
How the answers give the settlement is the model's reading (log entries 13, 17 and 18). -/
def Obligations.ReceiverLeavesHire : Prop :=
  ∀ (s : State) (serial slot : Nat) (r : Receiver), s.receiver serial = some (slot, r) →
    (r.onHire = false →
      (s.accepts (.rxReturn serial) →
        exec (.rxReturn serial) s = .next (s.post .counter ⟨Code.rxReturn, .notOnHire, []⟩)) ∧
      (s.accepts (.lost serial) →
        exec (.lost serial) s = .next (s.post .counter ⟨Code.lost, .notOnHire, []⟩))) ∧
    ∀ h a, r.onHire = true → r.hire = some h → s.account h.account = some a →
      (s.journal.free ≤ 32 →
        (s.accepts (.rxReturn serial) →
          exec (.rxReturn serial) s = .next (s.post .counter ⟨Code.rxReturn, .journalFull, []⟩)) ∧
        (s.accepts (.lost serial) →
          exec (.lost serial) s = .next (s.post .counter ⟨Code.lost, .journalFull, []⟩)) ∧
        ∀ n, s.accepts (.rackReport serial n) →
          ∃ t, exec (.rackReport serial n) s =
              .next (t.post .counter ⟨Code.rackReport, .journalFull, [f1 r.state.code]⟩) ∧
            s.onlyChanges t [.register] ∧ s.slotsBut t slot ∧ Table.fetch? t.register.slots slot =
              some { r with lastRack := if n = 0 then .charged else .fault }) ∧
      (32 < s.journal.free →
        (s.accepts (.rxReturn serial) → ∃ t charge,
          charge = s.hire.tariff.charge r.cls (s.meter.time - h.issueTime)
            (sittingsSpanned h.issueSitting s.meter.sitting.number h.openAtIssue) r.state .counter ∧
          exec (.rxReturn serial) s = .next (t.post .counter ⟨Code.rxReturn, .done,
            settlementAnswer r a s.hire.tariff h.deposit charge⟩) ∧
          s.onlyChanges t [.register, .hire, .meter, .journal, .links] ∧ s.sameLinks t ∧ s.slotsBut t slot ∧
          Table.fetch? t.register.slots slot =
            some { r with state := .charging, hire := none, orphaned := false } ∧
          s.leftHire t h a charge false (.hire (s.figures r h a charge) .counter)) ∧
        (s.accepts (.lost serial) → ∃ t charge,
          charge = s.hire.tariff.charge r.cls (s.meter.time - h.issueTime)
            (sittingsSpanned h.issueSitting s.meter.sitting.number h.openAtIssue) r.state .lost ∧
          exec (.lost serial) s = .next (t.post .counter ⟨Code.lost, .done,
            settlementAnswer r a s.hire.tariff h.deposit charge⟩) ∧
          s.onlyChanges t [.register, .hire, .meter, .journal, .links] ∧ s.sameLinks t ∧ s.slotsBut t slot ∧
          Table.fetch? t.register.slots slot = some { r with state := .lost, hire := none, orphaned := false } ∧
          s.leftHire t h a charge true (.loss (s.figures r h a charge) s.hire.tariff.loss)) ∧
        ∀ n, s.accepts (.rackReport serial n) → ∃ t charge,
          charge = s.hire.tariff.charge r.cls (s.meter.time - h.issueTime)
            (sittingsSpanned h.issueSitting s.meter.sitting.number h.openAtIssue) r.state .rack ∧
          exec (.rackReport serial n) s = .next (t.post .counter ⟨Code.rackReport, .done,
            [f1 (if n = 0 then 1 else 5), f2 h.account] ++ settlementAnswer r a s.hire.tariff h.deposit charge⟩) ∧
          s.onlyChanges t [.register, .hire, .meter, .journal, .links] ∧ s.sameLinks t ∧ s.slotsBut t slot ∧
          Table.fetch? t.register.slots slot = some { r with
            state := if n = 0 then .available else .faulty, hire := none, orphaned := false,
            lastRack := if n = 0 then .charged else .fault } ∧
          (t.flags .counter).count 2 = min 65535 ((s.flags .counter).count 2 + 1) ∧
          bitSet (t.flags .counter).states 2 = true ∧
          s.leftHire t h a charge false (.hire (s.figures r h a charge) .rack))

/-- The charge of a hire: the units of the time beyond the grace, rounded up, times the rate, nothing for an ASSISTIVE
receiver; capped at the sitting cap times the sittings spanned where a cap is set; the overdue fee of an OVERDUE
receiver and the loss charge of a lost one added; and the sum limited to 999,999, as is the time part that its entry
records. -/
def Obligations.ChargeFollowsTheTariff : Prop :=
  ∀ (u : Tariff) (cls : RxClass) (d sittings : Nat) (state : RxState) (way : Leaving),
    (∀ ti tr, duration ti tr = tr - ti) ∧
    (60 * u.grace < d → u.billable d = d - 60 * u.grace) ∧ (d ≤ 60 * u.grace → u.billable d = 0) ∧
    (u.billable d = 0 → u.units d = 0) ∧
    (u.billable d ≠ 0 → u.units d = (u.billable d + 60 * u.unit - 1) / (60 * u.unit)) ∧
    (5 ≤ u.unit → d ≤ 4294967295 → u.units d ≤ 14316558 ∧
      (u.units d - 1) * (60 * u.unit) ≤ u.billable d ∧ u.billable d ≤ u.units d * (60 * u.unit)) ∧
    u.rawTime .standard d = u.units d * u.rate ∧ u.rawTime .assistive d = 0 ∧
    (5 ≤ u.unit → d ≤ 4294967295 → u.rate ≤ 65535 → u.rawTime cls d < 2 ^ 40) ∧
    (u.cap ≤ 999999 → sittings ≤ 65536 → u.cap * sittings < 2 ^ 36) ∧
    (0 < u.cap → u.cappedTime cls d sittings = min (u.rawTime cls d) (u.cap * sittings)) ∧
    (u.cap = 0 → u.cappedTime cls d sittings = u.rawTime cls d) ∧
    (u.feePart state = if state = .overdue then u.fee else 0) ∧
    (u.lossPart way = if way = .lost then u.loss else 0) ∧
    (∀ total, total = u.cappedTime cls d sittings + u.feePart state + u.lossPart way →
      u.charge cls d sittings state way = if 999999 < total then 999999 else total) ∧
    u.charge cls d sittings state way ≤ 999999 ∧
    (∀ (s : State) (r : Receiver) (h : HireFields), ∃ figures : HireBody,
      s.hireEntry r h way = (match way with
        | .counter => .hire figures .counter
        | .rack => .hire figures .rack
        | .lost => .loss figures s.hire.tariff.loss) ∧
      figures.time = min 999999 (s.hire.tariff.cappedTime r.cls figures.duration figures.sittings) ∧
      figures.duration = duration h.issueTime s.meter.time ∧ figures.units = s.hire.tariff.units figures.duration ∧
      figures.sittings = sittingsSpanned h.issueSitting s.meter.sitting.number h.openAtIssue) ∧
    ∀ si sr opened, (sittingsSpanned si sr opened =
      if sr - si + (if opened then 1 else 0) = 0 then 1 else sr - si + (if opened then 1 else 0)) ∧
      (sr ≤ 65535 → sittingsSpanned si sr opened ≤ 65536)

/-! ## The accounting journal -/

/-- JNL_READ answers the oldest entry, the occupancy and the sequence counter, and changes nothing. JNL_ACK removes the
oldest entry where the number given is its own, and otherwise refuses. -/
def Obligations.JournalReadAndAcknowledge : Prop :=
  ∀ s : State, s.receives .console = true →
    (s.journal.entries = [] →
      exec .jnlRead s = .next (s.post .console ⟨Code.jnlRead, .empty, [f2 0, f4 s.journal.next]⟩) ∧
      ∀ n, exec (.jnlAck n) s = .next (s.post .console ⟨Code.jnlAck, .empty, []⟩)) ∧
    ∀ e rest, s.journal.entries = e :: rest →
      exec .jnlRead s = .next (s.post .console ⟨Code.jnlRead, .done,
        (e.bytes.map fun b => ⟨1, some b.toNat⟩) ++ [f2 (rest.length + 1), f4 s.journal.next]⟩) ∧
      (∃ t, exec (.jnlAck e.seq) s = .next (t.post .console ⟨Code.jnlAck, .done,
          [⟨4, rest.head?.map Entry.seq⟩, f2 rest.length]⟩) ∧
        s.onlyChanges t [.journal] ∧ t.journal = ⟨rest, s.journal.next⟩) ∧
      ∀ n, n ≠ e.seq → exec (.jnlAck n) s = .next (s.post .console ⟨Code.jnlAck, .sequenceMismatch,
        [f4 e.seq, f2 (rest.length + 1)]⟩)

/-- A write adds one entry at the tail under the next number; the write that brings the ring to 896 entries raises
JOURNAL_HIGH, the one that leaves 32 free JOURNAL_FULL on both links, and no other write either flag. A TURN or SITTING
entry handed over is written while one entry is free, and otherwise dropped, with TURN_FOLDED raised. A closed turn is
counted, written or folded into the totals, and leaves its booth's place. -/
def Obligations.JournalWritesAndFolds : Prop :=
  ∀ (s : State) (body : EntryBody),
    (∃ t, t = s.writeEntry body ∧ s.onlyChanges t [.journal, .links] ∧
      t.journal.entries = s.journal.entries ++ [⟨s.journal.next, s.meter.time, body⟩] ∧
      t.journal.next = (if s.journal.next = 4294967295 then 1 else s.journal.next + 1) ∧
      t.links = (if t.journal.entries.length = 896 then (s.raise .journalHigh 1).links
        else if t.journal.entries.length = 992 then ((s.raise .journalFull 1).raiseCounter .journalFull 1).links
        else s.links)) ∧
    (s.journal.entries.length < 1024 → s.handOver body = s.writeEntry body) ∧
    (1024 ≤ s.journal.entries.length → s.onlyChanges (s.handOver body) [.links] ∧
      (s.handOver body).links = (s.raise .turnFolded 1).links) ∧
    ∀ b reason, s.turnEnded (s.closeTurn b reason) b reason ∧ (s.closeTurn b reason).turn b = none ∧
      s.turnsBut (s.closeTurn b reason) b ∧ s.onlyChanges (s.closeTurn b reason) [.meter, .journal, .links] ∧
      ((s.turn b).isSome = true → 1024 ≤ s.journal.entries.length →
        (s.closeTurn b reason).links = (s.raise .turnFolded 1).links)

/-! ## Flags and link events -/

/-- FLAGS_READ answers the states, the mask and every assigned count of the flag set of its link, and changes nothing.
MASK_SET stores the mask. FLAGS_CLEAR clears the selected flags and answers the counts they held, and leaves the others.
A raise sets a flag and adds to its count, saturating. An attention line is high exactly while a set flag is enabled. -/
def Obligations.FlagRequests : Prop :=
  (∀ (s : State) (l : MasterLink),
    (s.accepts (.flagsRead l) → exec (.flagsRead l) s = .next (s.post (Link.ofMaster l) ⟨Code.flagsRead, .done,
      [f2 (s.flags l).states.toNat, f2 (s.flags l).mask.toNat] ++
        (List.range l.flagCount).map fun i => f2 ((s.flags l).count i)⟩)) ∧
    (∀ mask, s.accepts (.maskSet l mask) →
      ∃ t, exec (.maskSet l mask) s = .next (t.post (Link.ofMaster l) ⟨Code.maskSet, .done,
          [f2 mask, f2 (s.flags l).states.toNat]⟩) ∧
        s.onlyChanges t [.links] ∧ s.sameLinks t ∧ (∀ m, m ≠ l → t.flags m = s.flags m) ∧
        (t.flags l).mask.toNat = mask ∧ (t.flags l).states = (s.flags l).states ∧
        (t.flags l).counts = (s.flags l).counts) ∧
    (s.receives (Link.ofMaster l) = true → ∀ n, (if l = .console then 0x07FF else 0x000F) < n →
      exec (.maskSet l n) s = .next (s.post (Link.ofMaster l) ⟨Code.maskSet, .badParameter, [f1 1]⟩) ∧
      exec (.flagsClear l n) s = .next (s.post (Link.ofMaster l) ⟨Code.flagsClear, .badParameter, [f1 1]⟩)) ∧
    ∀ selection, s.accepts (.flagsClear l selection) →
      ∃ t, exec (.flagsClear l selection) s = .next (t.post (Link.ofMaster l) ⟨Code.flagsClear, .done,
          f2 (t.flags l).states.toNat ::
            (((List.range l.flagCount).filter fun i => selection.testBit i).map fun i => f2 ((s.flags l).count i))⟩) ∧
        s.onlyChanges t [.links] ∧ s.sameLinks t ∧ (∀ m, m ≠ l → t.flags m = s.flags m) ∧
        (t.flags l).mask = (s.flags l).mask ∧
        ∀ i, i < 16 →
          (t.flags l).states.getLsbD i = ((s.flags l).states.getLsbD i && !selection.testBit i) ∧
          (t.flags l).count i = if selection.testBit i then 0 else (s.flags l).count i) ∧
  (∀ (f : FlagSet) (i n : Nat), i < 16 → 0 < n →
    (f.raise i n).mask = f.mask ∧
    (∀ j, (f.raise i n).states.getLsbD j = (f.states.getLsbD j || decide (j = i))) ∧
    ∀ j, (f.raise i n).count j = if j = i then min 65535 (f.count i + n) else f.count j) ∧
  ∀ (s : State) (l : MasterLink),
    s.attentionLine l = true ↔ ∃ i, i < 16 ∧ (s.flags l).states.getLsbD i = true ∧ (s.flags l).mask.getLsbD i = true

/-- The receivers and the link events. A hunting receiver takes 0xC5 as a start byte, while a UART's FIFO has room; a
length byte, the body and the CRC follow, and a complete frame's bytes lead to the command that the frame stands for. A
frame with a bad CRC, of length zero, broken off by a gap or with a framing error is discarded without an answer, and the
receiver hunts again, the byte that ends a gap being examined as a start byte. After its frame the console hears nothing
until the select period ends, and that end loses a partial frame and the rest of an answer; an answer sent leaves its
link. The console's data output shifts out a byte for each byte clocked in: 0x00 until the answer is ready and for the
0, 1 or 2 bytes before it, then the answer frame, then 0x00 again; when select is deasserted it shifts out nothing. While
the pin is held no byte is received; that none is shifted out then is the model's choice (log entry 8). -/
def Obligations.LinkEventsDiscard : Prop :=
  ∀ s : State,
    (s.resetHeld = true → (∀ l, exec (.badCrcFrame l) s = .next s) ∧
      (∀ l : UartLink, exec (.zeroLengthFrame l) s = .next s ∧ exec (.uartFramingError l) s = .next s ∧
        ∀ byte, exec (.uartGapTimeout l byte) s = .next s) ∧
      ∀ l byte, s.takeByte l byte = .next s) ∧
    (s.resetHeld = false →
      (s.links.console.period = true → exec (.badCrcFrame .console) s = .next s ∧
        (∀ byte, s.takeByte .console byte = .next (s.shiftOut .console)) ∧
        ∀ (a : Answer) (ins : List Byte) (last : Byte), s.links.console.answer = some a → s.links.console.sent = 0 →
          ∃ t, s.takeBytes .console (ins ++ [last]) = .next t ∧ s.onlyChanges t [.links] ∧
            t.links = { s.links with console := t.links.console } ∧ t.links.console.period = true ∧
            t.links.console.receive = s.links.console.receive ∧
            t.links.console.out = some ((List.replicate s.links.console.filler 0 ++ a.bytes).getD ins.length 0) ∧
            t.links.console.answer =
              if ins.length + 1 < s.links.console.filler + a.bytes.length then some a else none) ∧
      (s.links.console.period = false → ∃ t, exec (.badCrcFrame .console) s = .next t ∧ s.onlyChanges t [.links] ∧
        t.links = { s.links with console := ⟨true, none, 0, .hunting, 0, some 0⟩ }) ∧
      ∀ l : UartLink, ∀ i, i = .badCrcFrame (Link.ofUart l) ∨ i = .zeroLengthFrame l ∨ i = .uartFramingError l ∨
          (∃ byte, i = .uartGapTimeout l byte ∧ (byte ≠ 0xC5 ∨ 4 ≤ (s.uart l).fifo.length)) →
        ∃ t, exec i s = .next t ∧ s.onlyChanges t [.links] ∧ t.uart l = { s.uart l with receive := .hunting } ∧
          t.links.console = s.links.console ∧ (∀ m, m ≠ l → t.uart m = s.uart m) ∧
          ∀ m, t.flags m = s.flags m) ∧
    (s.resetHeld = false → ∀ l : UartLink, (s.uart l).fifo.length < 4 →
      ∃ t, exec (.uartGapTimeout l 0xC5) s = .next t ∧ s.onlyChanges t [.links] ∧
        t.uart l = { s.uart l with receive := .begun } ∧ t.links.console = s.links.console ∧
        (∀ m, m ≠ l → t.uart m = s.uart m) ∧ ∀ m, t.flags m = s.flags m) ∧
    (∀ l byte, s.hears l = true →
      (s.receiverOf l = .hunting → s.takeByte l byte =
        .next ((s.shiftOut l).setReceiver l (if byte = 0xC5 ∧ s.receives l = true then .begun else .hunting))) ∧
      (s.receiverOf l = .begun → s.takeByte l byte =
        .next ((s.shiftOut l).setReceiver l (if byte = 0 then .hunting else .body byte []))) ∧
      (∀ size taken, s.receiverOf l = .body size taken → taken.length + 1 < size.toNat + 2 →
        s.takeByte l byte = .next ((s.shiftOut l).setReceiver l (.body size (taken ++ [byte])))) ∧
      ∀ size taken i, s.receiverOf l = .body size taken → taken.length + 1 = size.toNat + 2 →
        readCounted l (size :: (taken ++ [byte])) = some i →
        s.takeByte l byte = exec i ((s.shiftOut l).setReceiver l .hunting)) ∧
    (∀ l : UartLink, s.shiftOut (Link.ofUart l) = s) ∧
    s.onlyChanges (s.shiftOut .console) [.links] ∧
    (∃ console, (s.shiftOut .console).links = { s.links with console := console } ∧
      (s.links.console.answer = none →
        console = ⟨s.links.console.period, none, 0, s.links.console.receive, 0, some 0⟩) ∧
      ∀ a bytes, s.links.console.answer = some a → bytes = List.replicate s.links.console.filler 0 ++ a.bytes →
        console = if s.links.console.sent + 1 < bytes.length then
            { s.links.console with sent := s.links.console.sent + 1, out := bytes[s.links.console.sent]? }
          else ⟨s.links.console.period, none, 0, s.links.console.receive, 0,
            some (bytes.getD s.links.console.sent 0)⟩) ∧
    (∀ a : Answer, a.body.length ≤ 255 →
      a.bytes = [0x5C, BitVec.ofNat 8 a.body.length] ++ a.body ++
        crcBytes (BitVec.ofNat 8 a.body.length :: a.body)) ∧
    (∀ l, s.receiverOf l = .hunting → s.receives l = true →
      (∀ (i : Instr) (r : Request), i.request = some r → r.wellFormed = true → r.link = l →
        s.takeBytes l (requestFrame r.body) = exec i s) ∧
      ∀ (code : Nat) (params : List Byte), turnedAway l code params = true →
        s.takeBytes l (requestFrame (bytesOf 1 code ++ params)) = exec (.unknownRequest l code params) s) ∧
    (∀ (l : UartLink) (bytes : List Byte), s.receiverOf (Link.ofUart l) = .hunting →
      s.receives (Link.ofUart l) = false → s.takeBytes (Link.ofUart l) bytes = .next s) ∧
    (∃ t, exec .selectDeassert s = .next t ∧ s.onlyChanges t [.links] ∧
      t.links = { s.links with console := ⟨false, none, 0, .hunting, 0, none⟩ }) ∧
    (∃ t, exec (.answerSent .console) s = .next t ∧ s.onlyChanges t [.links] ∧
      t.links = { s.links with console :=
        ⟨s.links.console.period, none, 0, s.links.console.receive, 0, t.links.console.out⟩ } ∧
      (s.links.console.answer = none → t.links.console.out = s.links.console.out) ∧
      ∀ a, s.links.console.answer = some a → s.links.console.sent < s.links.console.filler + a.bytes.length →
        a.bytes ≠ [] → t.links.console.out = a.bytes.getLast?) ∧
    ∀ l : UartLink, ∃ t, exec (.answerSent (Link.ofUart l)) s = .next t ∧ s.onlyChanges t [.links] ∧
      t.uart l = { s.uart l with fifo := (s.uart l).fifo.drop 1 } ∧ t.links.console = s.links.console ∧
      (∀ m, m ≠ l → t.uart m = s.uart m) ∧ ∀ m, t.flags m = s.flags m

/-! ## The laws that every step keeps -/

/-- Every step keeps the journal's law: at most 1,024 entries, their numbers in an unbroken run up to the counter. -/
def Obligations.JournalLawKept : Prop :=
  ∀ s t : State, s.journal.Law → step s = .next t → t.journal.Law

/-- Every step keeps the plan's law: one bank on air while the framer is not in STANDBY, an allocation exactly in PENDING
and ON_AIR, the pending bank the framer's, and the framer's counts within their ranges. -/
def Obligations.PlanLawKept : Prop :=
  ∀ s t : State, s.PlanLaw → step s = .next t → t.PlanLaw

/-- Every step keeps the microphones' law: live desks and holders name each other, waits and offers fit them, queues
are short and hold a booth once, and the mixer's and the relay resolver's copies agree. -/
def Obligations.MicLawKept : Prop :=
  ∀ s t : State, s.MicLaw → step s = .next t → t.MicLaw

/-- Every step keeps the relay records' law: a hold timer runs exactly in HOLDING, depth 0 is the floor, AUTO booths
stand at depth 2 at most, and off air every booth has the floor. -/
def Obligations.RelayLawKept : Prop :=
  ∀ s t : State, s.RelayLaw → step s = .next t → t.RelayLaw

/-- Every step keeps the turns' law: a sitting is open only in ON_AIR, and while it is open the open turns are exactly
those of the live desks; the return grace stays within its range. -/
def Obligations.TurnLawKept : Prop :=
  ∀ s t : State, s.TablesLaw → s.MicLaw → s.TurnLaw → step s = .next t → t.TurnLaw

/-- Every step keeps the hires' law: the register, the accounts and the tally count the same receivers on hire, no
account has more out than its limit, and its state follows its balance. -/
def Obligations.HireLawKept : Prop :=
  ∀ s t : State, s.HireLaw → step s = .next t → t.HireLaw

/-- Every step keeps every table of the state in its canonical form. -/
def Obligations.TablesLawKept : Prop :=
  ∀ s t : State, s.TablesLaw → step s = .next t → t.TablesLaw

/-- The state after power-on meets all the laws, whatever the straps are sampled as; so does the model's reset state,
which has both straps low (log entry 5). -/
def Obligations.LawsAtReset : Prop :=
  (∀ (h d : Bool) (s : State), ∃ t, exec (.powerOn h d) s = .next t ∧ t.journal.Law ∧ t.PlanLaw ∧ t.MicLaw ∧
    t.RelayLaw ∧ t.TurnLaw ∧ t.HireLaw ∧ t.TablesLaw ∧ t.OwnLaw) ∧
  State.reset.journal.Law ∧ State.reset.PlanLaw ∧ State.reset.MicLaw ∧ State.reset.RelayLaw ∧
    State.reset.TurnLaw ∧ State.reset.HireLaw ∧ State.reset.TablesLaw ∧ State.reset.OwnLaw
end

