-- ==== Sys2Proof/Laws/Tables.lean ====
section
/-! SUPPORT. What the tables' operations give at each number, and that they keep the canonical form. -/

namespace Sys2Proof

variable {α : Type}

/-! ## Reading after an operation -/

@[simp] theorem Table.fetch?_nil (k : Nat) : Table.fetch? ([] : Table α) k = none := rfl

@[simp] theorem Table.fetch_nil (d : α) (k : Nat) : Table.fetch d [] k = d := rfl

theorem Table.fetch?_cons (e : Nat × α) (t : Table α) (k : Nat) :
    Table.fetch? (e :: t) k = if k = e.1 then some e.2 else Table.fetch? t k := rfl

theorem Table.fetch?_remove (t : Table α) (k j : Nat) :
    Table.fetch? (Table.remove t k) j = if j = k then none else Table.fetch? t j := by
  induction t with
  | nil => simp [Table.remove]
  | cons e t ih =>
    unfold Table.remove at ih ⊢
    by_cases h : e.1 = k
    · simp only [List.filter_cons, h, bne_self_eq_false, Bool.false_eq_true, if_false, ih, Table.fetch?_cons]
      split <;> simp_all
    · have hb : (e.1 != k) = true := by simpa using h
      simp only [List.filter_cons, hb, if_true, Table.fetch?_cons, ih]
      by_cases hj : j = e.1
      · subst hj
        simp [h]
      · simp [hj]

theorem Table.fetch?_place (t : Table α) (k j : Nat) (v : α) (h : Table.fetch? t k = none) :
    Table.fetch? (Table.place t k v) j = if j = k then some v else Table.fetch? t j := by
  induction t with
  | nil => simp [Table.place, Table.fetch?_cons]
  | cons e t ih =>
    rw [Table.fetch?_cons] at h
    have hk : k ≠ e.1 := by
      intro hk
      simp [hk] at h
    rw [if_neg hk] at h
    obtain ⟨a, w⟩ := e
    simp only [Table.place]
    split
    · simp only [Table.fetch?_cons]
    · simp only [Table.fetch?_cons, ih h]
      by_cases hj : j = a
      · subst hj
        have : j ≠ k := fun hh => hk hh.symm
        simp [this]
      · simp [hj]

theorem Table.fetch?_insert (t : Table α) (k j : Nat) (v : α) :
    Table.fetch? (Table.insert t k v) j = if j = k then some v else Table.fetch? t j := by
  have h : Table.fetch? (Table.remove t k) k = none := by simp [Table.fetch?_remove]
  simp only [Table.insert, Table.fetch?_place _ _ _ _ h, Table.fetch?_remove]
  split <;> simp_all

variable [DecidableEq α]

/-- A record stored is read back, and no other record changes. -/
theorem Table.fetch_store (d : α) (t : Table α) (k j : Nat) (v : α) :
    Table.fetch d (Table.store d t k v) j = if j = k then v else Table.fetch d t j := by
  unfold Table.store Table.fetch
  split
  · rw [Table.fetch?_remove]
    split <;> simp_all
  · rw [Table.fetch?_insert]
    split <;> simp_all

/-- A fill writes the records of its numbers and no other. -/
theorem Table.fetch_fill (d : α) (f : Nat → α) (ks : List Nat) (t : Table α) (k : Nat) :
    Table.fetch d (Table.fill d f ks t) k = if k ∈ ks then f k else Table.fetch d t k := by
  induction ks generalizing t with
  | nil => simp [Table.fill]
  | cons a ks ih =>
    simp only [Table.fill, ih, Table.fetch_store, List.mem_cons]
    by_cases h : k ∈ ks
    · simp [h]
    · by_cases ha : k = a
      · simp [ha]
      · simp [h, ha]

/-! ## The canonical form -/

open Sys2Proof.Machine (Rising)

omit [DecidableEq α] in
theorem Table.rising_remove (t : Table α) (k : Nat) (h : Rising t) : Rising (Table.remove t k) :=
  List.Pairwise.filter _ h

omit [DecidableEq α] in
theorem Table.mem_place (t : Table α) (k : Nat) (v : α) (e : Nat × α) :
    e ∈ Table.place t k v ↔ e = (k, v) ∨ e ∈ t := by
  induction t with
  | nil => simp [Table.place]
  | cons x t ih =>
    obtain ⟨a, w⟩ := x
    simp only [Table.place]
    split
    · simp
    · simp only [List.mem_cons, ih]
      tauto

omit [DecidableEq α] in
theorem Table.rising_place (t : Table α) (k : Nat) (v : α) (h : Rising t) (hk : ∀ e ∈ t, e.1 ≠ k) :
    Rising (Table.place t k v) := by
  unfold Rising at h ⊢
  induction t with
  | nil => simp [Table.place]
  | cons x t ih =>
    obtain ⟨a, w⟩ := x
    have ha : a ≠ k := hk (a, w) (by simp)
    rw [List.pairwise_cons] at h
    simp only [Table.place]
    split
    · rename_i hlt
      refine List.pairwise_cons.2 ⟨?_, List.pairwise_cons.2 h⟩
      intro e he
      rcases List.mem_cons.1 he with rfl | he
      · exact hlt
      · exact lt_trans hlt (h.1 e he)
    · refine List.pairwise_cons.2 ⟨?_, ih h.2 fun e he => hk e (by simp [he])⟩
      intro e he
      rcases (Table.mem_place t k v e).1 he with rfl | he
      · show a < k
        omega
      · exact h.1 e he

omit [DecidableEq α] in
theorem Table.rising_insert (t : Table α) (k : Nat) (v : α) (h : Rising t) : Rising (Table.insert t k v) :=
  Table.rising_place _ _ _ (Table.rising_remove t k h) fun e he => by
    simpa [Table.remove] using (List.mem_filter.1 he).2

theorem Table.wf_iff (d : α) (t : Table α) : Table.wf d t = true ↔ Rising t ∧ ∀ e ∈ t, e.2 ≠ d := by
  simp [Table.wf, Rising]

/-- Storing a record keeps the canonical form. -/
theorem Table.wf_store (d : α) (t : Table α) (k : Nat) (v : α) (h : Table.wf d t = true) :
    Table.wf d (Table.store d t k v) = true := by
  rw [Table.wf_iff] at h ⊢
  unfold Table.store
  split
  · refine ⟨Table.rising_remove t k h.1, fun e he => h.2 e ?_⟩
    exact (List.mem_filter.1 he).1
  · rename_i hv
    refine ⟨Table.rising_insert t k v h.1, fun e he => ?_⟩
    rcases (Table.mem_place _ k v e).1 he with rfl | he
    · exact hv
    · exact h.2 e (List.mem_filter.1 he).1

/-- Filling records keeps the canonical form. -/
theorem Table.wf_fill (d : α) (f : Nat → α) (ks : List Nat) (t : Table α) (h : Table.wf d t = true) :
    Table.wf d (Table.fill d f ks t) = true := by
  induction ks generalizing t with
  | nil => exact h
  | cons a ks ih => exact ih _ (Table.wf_store d t a _ h)

end Sys2Proof
end

