-- ==== Sys2Proof/Laws/Check.lean ====
section
/-! SUPPORT. The laws of Safety.lean as finite checks over the records that a state lists, so that a concrete state is
shown to meet them by evaluation. -/

namespace Sys2Proof.Machine

open Sys2Proof

variable {α : Type}

/-- A record fetched is the cleared one, or is listed. -/
theorem Table.fetch_cases (d : α) (t : Table α) (k : Nat) :
    Table.fetch d t k = d ∨ ∃ e ∈ t, e.1 = k ∧ Table.fetch d t k = e.2 := by
  unfold Table.fetch
  induction t with
  | nil => exact .inl rfl
  | cons e t ih =>
    rw [Table.fetch?_cons]
    by_cases h : k = e.1
    · exact .inr ⟨e, by simp, h.symm, by simp [h]⟩
    · rw [if_neg h]
      rcases ih with h' | ⟨x, hx, hk, hv⟩
      · exact .inl h'
      · exact .inr ⟨x, by simp [hx], hk, hv⟩

/-- An entry found is listed. -/
theorem Table.mem_of_fetch? {t : Table α} {k : Nat} {v : α} (h : Table.fetch? t k = some v) : (k, v) ∈ t := by
  induction t with
  | nil => cases h
  | cons e t ih =>
    rw [Table.fetch?_cons] at h
    by_cases hk : k = e.1
    · rw [if_pos hk] at h
      cases h
      subst hk
      simp
    · rw [if_neg hk] at h
      exact List.mem_cons_of_mem _ (ih h)

/-- A number that is not listed has the cleared record. -/
theorem Table.fetch_of_not_mem (d : α) (t : Table α) (k : Nat) (h : k ∉ t.map Prod.fst) : Table.fetch d t k = d := by
  rcases Table.fetch_cases d t k with h' | ⟨e, he, hk, -⟩
  · exact h'
  · exact absurd (List.mem_map.mpr ⟨e, he, hk⟩) h

/-- A number that is not listed has no entry. -/
theorem Table.fetch?_of_not_mem (t : Table α) (k : Nat) (h : k ∉ t.map Prod.fst) : Table.fetch? t k = none := by
  cases hv : Table.fetch? t k with
  | none => rfl
  | some v => exact absurd (List.mem_map.mpr ⟨(k, v), Table.mem_of_fetch? hv, rfl⟩) h

/-- A number that is listed has an entry. -/
theorem Table.fetch?_of_mem (t : Table α) (k : Nat) (h : k ∈ t.map Prod.fst) : (Table.fetch? t k).isSome = true := by
  induction t with
  | nil => cases h
  | cons e t ih =>
    rw [Table.fetch?_cons]
    by_cases hk : k = e.1
    · simp [hk]
    · rw [if_neg hk]
      exact ih ((List.mem_cons.mp h).resolve_left hk)

/-! ## Plan law -/

/-- The framer's counts, as a check. -/
abbrev Framer.Check (f : Framer) : Prop :=
  f.frameNumber < Config.frameModulus ∧ f.planNumber < Config.planModulus ∧ f.fragment < 8 ∧
    (if f.state = .starting then 1 ≤ f.settle ∧ f.settle ≤ Config.settlePeriods else f.settle = 0) ∧
    (f.state ≠ .onAir → f.override = .off ∧ f.pendingSwitch = none)

theorem Framer.law_of_check {f : Framer} (h : f.Check) : f.Law :=
  ⟨h.1, h.2.1, h.2.2.1, h.2.2.2.1, fun x => (h.2.2.2.2 x).1, fun x => (h.2.2.2.2 x).2⟩

/-- The plan law over the banks listed. -/
abbrev State.PlanCheck (s : State) : Prop :=
  s.framer.Check ∧
    (∀ e ∈ s.banks, e.1 ∈ Config.bankNumbers ∧
      (e.2.alloc.isSome = true ↔ e.2.status = .pending ∨ e.2.status = .onAir) ∧
      (e.2.status = .pending → s.framer.pendingSwitch = some e.1) ∧
      (e.2.status = .onAir → s.framer.state ≠ .standby)) ∧
    (∀ k ∈ s.framer.pendingSwitch, (s.bank k).status = .pending) ∧
    (s.framer.state ≠ .standby → ∃ k ∈ s.banks.map Prod.fst, (s.bank k).status = .onAir) ∧
    ∀ e ∈ s.banks, ∀ x ∈ s.banks, e.2.status = .onAir → x.2.status = .onAir → e.1 = x.1

theorem State.planLaw_of_check {s : State} (h : s.PlanCheck) : s.PlanLaw := by
  obtain ⟨hf, hb, hp, hl, ho⟩ := h
  have bk : ∀ k, s.bank k = {} ∨ ∃ e ∈ s.banks, e.1 = k ∧ s.bank k = e.2 :=
    fun n => by unfold State.bank; exact Table.fetch_cases _ _ n
  refine ⟨Framer.law_of_check hf, fun k => ?_, fun k hk => ?_, fun hs k hk => ?_, fun hs => ?_, fun j k hj hk => ?_,
    fun k => ⟨fun hk => ?_, fun hk => hp k hk⟩⟩
  · rcases bk k with h | ⟨e, he, -, hv⟩
    · simp [h]
    · rw [hv]
      exact (hb e he).2.1
  · rcases bk k with h | ⟨e, he, rfl, -⟩
    · exact absurd h hk
    · exact (hb e he).1
  · rcases bk k with h | ⟨e, he, -, hv⟩
    · simp [h] at hk
    · exact (hb e he).2.2.2 (hv ▸ hk) hs
  · obtain ⟨k, -, hk⟩ := hl hs
    exact ⟨k, hk⟩
  · rcases bk j with h | ⟨e, he, rfl, hv⟩
    · simp [h] at hj
    · rcases bk k with h | ⟨x, hx, rfl, hw⟩
      · simp [h] at hk
      · exact ho e he x hx (hv ▸ hj) (hw ▸ hk)
  · rcases bk k with h | ⟨e, he, rfl, hv⟩
    · simp [h] at hk
    · exact (hb e he).2.2.1 (hv ▸ hk)

/-! ## Microphone law -/

/-- The microphones' law over the records listed. -/
abbrev State.MicCheck (s : State) : Prop :=
  (∀ k ∈ s.banks, ∀ e ∈ k.2.booths, ∀ x ∈ [Output.a, .b], ∀ c ∈ e.2.channelOn x, c ∈ Config.channelNumbers) ∧
    (∀ e ∈ s.bdc.booths, e.1 ∈ Config.boothNumbers ∧
      (∀ l ∈ e.2.live, l.1 ∈ [1, 2, 3] ∧ (s.chan l.2).holder = some ⟨e.1, l.1⟩) ∧
      (∀ o ∈ e.2.offer, o.1 ∈ [1, 2, 3] ∧ ∃ l ∈ e.2.live, l.1 ≠ o.1) ∧
      (∀ p ∈ e.2.pending, p.1 ∈ [1, 2, 3] ∧ e.2.live = none ∧
        ∃ c ∈ s.bdc.channels.map Prod.fst, (⟨e.1, p.1⟩ : DeskId) ∈ (s.chan c).queue) ∧
      e.2.offerTimer.isSome = e.2.offer.isSome) ∧
    (∀ e ∈ s.bdc.channels, e.1 ∈ Config.channelNumbers ∧
      (∀ w ∈ e.2.holder, (s.booth w.booth).live = some (w.desk, e.1)) ∧
      (∀ w ∈ e.2.queue, (s.booth w.booth).pending.map Prod.fst = some w.desk) ∧
      e.2.queue.length ≤ Config.queueSize ∧ (e.2.queue.map DeskId.booth).Nodup) ∧
    (s.framer.state ≠ .onAir → s.bdc.booths = [] ∧ s.bdc.channels = []) ∧
    ∀ c ∈ s.mixer.carriage.map Prod.fst ++ s.bdc.channels.map Prod.fst ++ s.relay.producers.map Prod.fst,
      (s.carriage c).live = (s.chan c).holder ∧
        (∀ r ∈ (s.carriage c).ramp, (s.carriage c).live = some r.incoming) ∧
        s.producer c = (s.chan c).holder.map DeskId.booth

theorem State.micLaw_of_check {s : State} (h : s.MicCheck) : s.MicLaw := by
  obtain ⟨he, hb, hc, hq, hm⟩ := h
  have bt : ∀ b, s.booth b = {} ∨ ∃ e ∈ s.bdc.booths, e.1 = b ∧ s.booth b = e.2 :=
    fun n => by unfold State.booth; exact Table.fetch_cases _ _ n
  have ct : ∀ c, s.chan c = {} ∨ ∃ e ∈ s.bdc.channels, e.1 = c ∧ s.chan c = e.2 :=
    fun n => by unfold State.chan; exact Table.fetch_cases _ _ n
  have mt : ∀ c, (s.carriage c).live = (s.chan c).holder ∧
      (∀ r ∈ (s.carriage c).ramp, (s.carriage c).live = some r.incoming) ∧
      s.producer c = (s.chan c).holder.map DeskId.booth := fun c => by
    by_cases hk : c ∈ s.mixer.carriage.map Prod.fst ++ s.bdc.channels.map Prod.fst ++ s.relay.producers.map Prod.fst
    · exact hm c hk
    · simp only [List.mem_append, not_or] at hk
      have h1 : s.carriage c = {} := Table.fetch_of_not_mem _ _ _ hk.1.1
      have h2 : s.chan c = {} := Table.fetch_of_not_mem _ _ _ hk.1.2
      have h3 : s.producer c = none := Table.fetch?_of_not_mem _ _ hk.2
      simp [h1, h2, h3]
  refine
    { entries := fun k b x c hx => ?_
      booths := fun b h => ?_
      channels := fun c h => ?_
      live := fun b d c h => ?_
      offering := fun b d x h => ?_
      waiting := fun b d x h => ?_
      named := fun b d c => ⟨fun h => ?_, fun h => ?_⟩
      offer := fun b e y h => ?_
      pending := fun b h => ?_
      timer := fun b => ?_
      waits := fun c w h => ?_
      queued := fun b d x h => ?_
      size := fun c => ?_
      once := fun c => ?_
      quiet := fun h => ⟨fun b => ?_, fun c => ?_⟩
      carriage := fun c => (mt c).1
      ramp := fun c r h => (mt c).2.1 r h
      producer := fun c => (mt c).2.2 }
  · rcases Table.fetch_cases {} s.banks k with h | ⟨e, hk, -, hv⟩
    · unfold State.bank at hx
      rw [h] at hx
      cases x <;> cases hx
    · unfold State.bank State.boothEntry at hx
      rw [hv] at hx
      rcases Table.fetch_cases (BoothEntry.cleared s.desksPerBooth) e.2.booths b with h | ⟨y, hy, -, hw⟩
      · rw [h] at hx
        cases x <;> cases hx
      · rw [hw] at hx
        exact he e hk y hy x (by cases x <;> simp) c hx
  · rcases bt b with h' | ⟨e, hm, rfl, -⟩
    · exact absurd h' h
    · exact (hb e hm).1
  · rcases ct c with h' | ⟨e, hm, rfl, -⟩
    · exact absurd h' h
    · exact (hc e hm).1
  · rcases bt b with h' | ⟨e, hm, rfl, hv⟩
    · simp [h'] at h
    · exact ((hb e hm).2.1 (d, c) (hv ▸ h)).1
  · rcases bt b with h' | ⟨e, hm, rfl, hv⟩
    · simp [h'] at h
    · exact ((hb e hm).2.2.1 (d, x) (hv ▸ h)).1
  · rcases bt b with h' | ⟨e, hm, rfl, hv⟩
    · simp [h'] at h
    · exact ((hb e hm).2.2.2.1 (d, x) (hv ▸ h)).1
  · rcases bt b with h' | ⟨e, hm, rfl, hv⟩
    · simp [h'] at h
    · exact ((hb e hm).2.1 (d, c) (hv ▸ h)).2
  · rcases ct c with h' | ⟨e, hm, rfl, hv⟩
    · simp [h'] at h
    · exact (hc e hm).2.1 ⟨b, d⟩ (hv ▸ h)
  · rcases bt b with h' | ⟨x, hm, rfl, hv⟩
    · simp [h'] at h
    · obtain ⟨l, hl, hne⟩ := ((hb x hm).2.2.1 (e, y) (hv ▸ h)).2
      exact ⟨l.1, l.2, hv ▸ hl, hne⟩
  · rcases bt b with h' | ⟨e, hm, rfl, hv⟩
    · simp [h'] at h
    · obtain ⟨p, hp⟩ := Option.isSome_iff_exists.mp h
      rw [hv]
      exact ((hb e hm).2.2.2.1 p (hv ▸ hp)).2.1
  · rcases bt b with h' | ⟨e, hm, rfl, hv⟩
    · simp [h']
    · rw [hv]
      exact (hb e hm).2.2.2.2
  · rcases ct c with h' | ⟨e, hm, rfl, hv⟩
    · simp [h'] at h
    · exact (hc e hm).2.2.1 w (hv ▸ h)
  · rcases bt b with h' | ⟨e, hm, rfl, hv⟩
    · simp [h'] at h
    · obtain ⟨c, -, hq⟩ := ((hb e hm).2.2.2.1 (d, x) (hv ▸ h)).2.2
      exact ⟨c, hq⟩
  · rcases ct c with h' | ⟨e, hm, rfl, hv⟩
    · simp [h']
    · rw [hv]
      exact (hc e hm).2.2.2.1
  · rcases ct c with h' | ⟨e, hm, rfl, hv⟩
    · simp [h']
    · rw [hv]
      exact (hc e hm).2.2.2.2
  · unfold State.booth
    rw [(hq h).1]
    rfl
  · unfold State.chan
    rw [(hq h).2]
    rfl

/-! ## Relay law -/

/-- The relay records' law over the records listed. -/
abbrev State.RelayCheck (s : State) : Prop :=
  (∀ e ∈ s.relay.booths, e.1 ∈ Config.boothNumbers ∧ (e.2.timer.isSome = true ↔ e.2.status = .holding) ∧
      (e.2.status = .holding → e.2.mode = .auto ∧ e.2.source ≠ .floor) ∧
      (e.2.status = .noRelay → e.2.source = .floor) ∧ (e.2.source = .floor ↔ e.2.depth = 0) ∧ e.2.depth ≤ 3 ∧
      (e.2.mode = .auto ∨ e.2.mode = .floor → e.2.depth ≤ 2) ∧
      (s.framer.state ≠ .onAir → e.2 = e.2.standby)) ∧
    ∀ b ∈ s.relay.booths.map Prod.fst ++ s.mixer.feedSource.map Prod.fst, s.feedSource b = (s.relayRec b).source

theorem State.relayLaw_of_check {s : State} (h : s.RelayCheck) : s.RelayLaw := by
  obtain ⟨hr, hf⟩ := h
  have rt : ∀ b, s.relayRec b = {} ∨ ∃ e ∈ s.relay.booths, e.1 = b ∧ s.relayRec b = e.2 :=
    fun n => by unfold State.relayRec; exact Table.fetch_cases _ _ n
  refine
    { booths := fun b h => ?_
      timer := fun b => ?_
      held := fun b h => ?_
      lost := fun b h => ?_
      floor := fun b => ?_
      depth := fun b => ?_
      layered := fun b h => ?_
      quiet := fun h b => ?_
      feed := fun b => ?_ }
  · rcases rt b with h' | ⟨e, hm, rfl, -⟩
    · exact absurd h' h
    · exact (hr e hm).1
  · rcases rt b with h' | ⟨e, hm, -, hv⟩
    · simp [h']
    · rw [hv]
      exact (hr e hm).2.1
  · rcases rt b with h' | ⟨e, hm, -, hv⟩
    · simp [h'] at h
    · rw [hv] at h ⊢
      obtain ⟨h1, h2⟩ := (hr e hm).2.2.1 h
      refine ⟨h1, ?_⟩
      cases hs : e.2.source with
      | floor => exact absurd hs h2
      | channel c => exact ⟨c, rfl⟩
  · rcases rt b with h' | ⟨e, hm, -, hv⟩
    · simp [h'] at h
    · rw [hv] at h ⊢
      exact (hr e hm).2.2.2.1 h
  · rcases rt b with h' | ⟨e, hm, -, hv⟩
    · simp [h']
    · rw [hv]
      exact (hr e hm).2.2.2.2.1
  · rcases rt b with h' | ⟨e, hm, -, hv⟩
    · simp [h']
    · rw [hv]
      exact (hr e hm).2.2.2.2.2.1
  · rcases rt b with h' | ⟨e, hm, -, hv⟩
    · simp [h']
    · rw [hv] at h ⊢
      refine (hr e hm).2.2.2.2.2.2.1 ?_
      cases hs : e.2.mode with
      | auto => exact .inl rfl
      | floor => exact .inr rfl
      | fixed c => exact absurd hs (h c)
  · rcases rt b with h' | ⟨e, hm, -, hv⟩
    · rw [h']
      rfl
    · rw [hv]
      exact (hr e hm).2.2.2.2.2.2.2 h
  · by_cases hk : b ∈ s.relay.booths.map Prod.fst ++ s.mixer.feedSource.map Prod.fst
    · exact hf b hk
    · simp only [List.mem_append, not_or] at hk
      have h1 : s.relayRec b = {} := Table.fetch_of_not_mem _ _ _ hk.1
      have h2 : s.feedSource b = .floor := Table.fetch_of_not_mem _ _ _ hk.2
      simp [h1, h2]

/-- No booth listens to its own channel, over the records listed. -/
abbrev State.OwnCheck (s : State) : Prop :=
  ∀ e ∈ s.relay.booths, ∀ x ∈ [Output.a, .b], ∀ c ∈ s.planChannel e.1 x, e.2.source ≠ .channel c

theorem State.ownLaw_of_check {s : State} (h : s.OwnCheck) : s.OwnLaw := by
  intro _ b c hs
  rcases Table.fetch_cases {} s.relay.booths b with h' | ⟨e, hm, rfl, hv⟩
  · unfold State.relayRec at hs
    rw [h'] at hs
    cases hs
  · unfold State.relayRec at hs
    rw [hv] at hs
    exact ⟨fun hc => h e hm .a (by simp) c hc hs, fun hc => h e hm .b (by simp) c hc hs⟩

/-! ## Turn law -/

/-- The turns' law over the records listed. -/
abbrev State.TurnCheck (s : State) : Prop :=
  (s.meter.sitting.isOpen = true → s.framer.state = .onAir) ∧
    (∀ e ∈ s.meter.turns, s.meter.sitting.isOpen = true ∧ (s.booth e.1).live = some (e.2.desk, e.2.channel) ∧
      e.2.interpreter = (s.desk e.1 e.2.desk).interpreter) ∧
    (s.meter.sitting.isOpen = true → ∀ e ∈ s.bdc.booths, e.2.live.isSome = true → (s.turn e.1).isSome = true) ∧
    s.meter.graceSetting ≤ 240 ∧ ∀ n ∈ s.meter.graceTimer, 1 ≤ n ∧ n ≤ 14400

theorem State.turnLaw_of_check {s : State} (h : s.TurnCheck) : s.TurnLaw := by
  obtain ⟨ho, ht, hl, hm, hg⟩ := h
  refine ⟨ho, fun b t hb => ?_, fun b t hb => ?_, fun hs b hb => ?_, hm, hg⟩
  · have := ht (b, t) (Table.mem_of_fetch? hb)
    exact ⟨this.1, this.2.1⟩
  · exact (ht (b, t) (Table.mem_of_fetch? hb)).2.2
  · rcases Table.fetch_cases {} s.bdc.booths b with h' | ⟨e, hm, rfl, hv⟩
    · unfold State.booth at hb
      rw [h'] at hb
      cases hb
    · unfold State.booth at hb
      rw [hv] at hb
      exact hl hs e hm hb

/-! ## Hire law -/

/-- The hires' law over the records listed. -/
abbrev State.HireCheck (s : State) : Prop :=
  (s.register.slots.map fun e => e.2.serial).Nodup ∧ (s.register.slots.map Prod.fst).Nodup ∧
    (∀ e ∈ s.register.slots, e.2.hire.isSome = e.2.onHire ∧ (e.2.orphaned = true → e.2.onHire = true)) ∧
    (∀ r ∈ s.register.onHire, ∀ h ∈ r.hire, (s.account h.account).isSome = true) ∧
    (∀ e ∈ s.hire.accounts,
      e.2.outCount = (s.register.onHire.filter fun r => r.names e.1).length ∧ e.2.outCount ≤ e.2.limit ∧
      e.2.blocked = (match e.2.kind with
        | .personal => decide (0 < e.2.balance)
        | .delegation => decide (e.2.credit < e.2.balance)) ∧
      e.2.deposits =
        ((s.register.onHire.filter fun r => r.names e.1).map fun r => (r.hire.map HireFields.deposit).getD 0).sum) ∧
    (∀ e ∈ s.hire.tally.langs, e.2 = (s.register.onHire.filter fun r => r.presets e.1).length) ∧
    s.hire.tally.other = (s.register.onHire.filter fun r => !s.hire.tally.lists r).length ∧
    s.hire.tally.langs.length ≤ Config.tallyPlaces

theorem State.hireLaw_of_check {s : State} (h : s.HireCheck) : s.HireLaw := by
  obtain ⟨h1, h2, h3, h4, h5, h6, h7, h8⟩ := h
  exact
    { serials := h1
      slots := h2
      hire := fun e he => (h3 e he).1
      orphaned := fun e he => (h3 e he).2
      accounts := fun r hr x hx => h4 r hr x hx
      out := fun a x hx => (h5 (a, x) (Table.mem_of_fetch? hx)).1
      limit := fun a x hx => (h5 (a, x) (Table.mem_of_fetch? hx)).2.1
      blocked := fun a x hx => (h5 (a, x) (Table.mem_of_fetch? hx)).2.2.1
      deposits := fun a x hx => (h5 (a, x) (Table.mem_of_fetch? hx)).2.2.2
      tally := fun l n hl => h6 (l, n) (Table.mem_of_fetch? hl)
      other := h7
      entries := h8 }

/-! ## Tables and journal -/

/-- The tables' canonical forms together. -/
abbrev State.TablesCheck (s : State) : Prop :=
  (Table.wf {} s.banks && Table.wf {} s.mixer.carriage && Table.wf .floor s.mixer.feedSource &&
    Table.wf .floor s.mixer.feeds && Table.wf {} s.bdc.desks && Table.wf {} s.bdc.booths &&
    Table.wf {} s.bdc.channels && Table.wf {} s.relay.booths && Table.wf {} s.meter.totals &&
    Table.wf 0 s.hire.tally.langs && Table.wf 0 s.links.consoleFlags.counts &&
    Table.wf 0 s.links.counterFlags.counts) = true ∧
    (s.relay.producers.Pairwise fun x y => x.1 < y.1) ∧ (s.meter.turns.Pairwise fun x y => x.1 < y.1) ∧
    (s.register.slots.Pairwise fun x y => x.1 < y.1) ∧ s.hire.accounts.Pairwise fun x y => x.1 < y.1

theorem State.tablesLaw_of_check {s : State} (h : s.TablesCheck) : s.TablesLaw := by
  obtain ⟨hw, h1, h2, h3, h4⟩ := h
  simp only [Bool.and_eq_true] at hw
  obtain ⟨⟨⟨⟨⟨⟨⟨⟨⟨⟨⟨a, b⟩, c⟩, d⟩, e⟩, f⟩, g⟩, i⟩, j⟩, k⟩, l⟩, m⟩ := hw
  exact ⟨a, b, c, d, e, f, g, i, j, k, l, m, h1, h2, h3, h4⟩

/-- The journal's law as a check. -/
theorem Journal.law_of_check {j : Journal}
    (h : j.entries.length ≤ Config.journalSize ∧ (∀ n ∈ j.numbers, 1 ≤ n ∧ n ≤ Config.max32) ∧
      j.numbers.IsChain fun m n => n = nextSequence m) : j.Law := ⟨h.1, h.2.1, h.2.2⟩

/-! ## Validation and requests -/

/-- A channel or booth breaks a condition, as a check. -/
abbrev State.BreaksCheck (s : State) (p : Bank) (n k : Nat) : Prop :=
  (k = 2 ∧ (p.channel n).enabled = true ∧ ¬ (1 ≤ (p.channel n).lang ∧ (p.channel n).lang ≤ 999)) ∨
    (k = 3 ∧ (p.channel n).enabled = true ∧
      ∃ e ∈ Config.channelNumbers, e < n ∧ (p.channel e).enabled = true ∧ (p.channel e).lang = (p.channel n).lang) ∨
    (k = 4 ∧ (s.boothEntry p n).present = true ∧
      ((∀ c ∈ (s.boothEntry p n).a, (p.channel c).enabled = false) ∨
        ∃ c ∈ (s.boothEntry p n).b, (p.channel c).enabled = false)) ∨
    (k = 5 ∧ (s.boothEntry p n).present = true ∧ ∃ c ∈ (s.boothEntry p n).a, (s.boothEntry p n).b = some c) ∨
    (k = 6 ∧ ∃ x ∈ Config.boothNumbers, ((s.boothEntry p x).present = true ∧ (s.boothEntry p x).a = some n) ∧
      ∃ y ∈ Config.boothNumbers, x ≠ y ∧ (s.boothEntry p y).present = true ∧ (s.boothEntry p y).a = some n) ∨
    (k = 7 ∧ 3 < (Config.boothNumbers.filter fun x =>
      (s.boothEntry p x).present && decide ((s.boothEntry p x).b = some n)).length) ∨
    (k = 8 ∧ (s.boothEntry p n).present = true ∧
      ∃ x ∈ [Output.a, .b], ∃ c ∈ (s.boothEntry p n).channelOn x, (p.channel c).lang ∈ (s.boothEntry p n).prefs)

theorem State.breaks_iff_check (s : State) (p : Bank) (n k : Nat) : s.breaks p n k ↔ s.BreaksCheck p n k := by
  match k with
  | 0 | 1 => simp [State.breaks, State.BreaksCheck]
  | 2 | 3 | 4 | 5 | 7 => simp [State.breaks, State.BreaksCheck, Option.mem_def]
  | 6 =>
    simp only [State.breaks, State.BreaksCheck]
    constructor
    · rintro ⟨x, hx, y, hy, hne, px, py, ax, ay⟩
      exact .inr (.inr (.inr (.inr (.inl ⟨trivial, x, hx, ⟨px, ax⟩, y, hy, hne, py, ay⟩))))
    · intro h
      simp only [show (6 : Nat) ≠ 2 by decide, show (6 : Nat) ≠ 3 by decide, show (6 : Nat) ≠ 4 by decide,
        show (6 : Nat) ≠ 5 by decide, show (6 : Nat) ≠ 7 by decide, show (6 : Nat) ≠ 8 by decide, false_and,
        false_or, or_false, true_and] at h
      obtain ⟨x, hx, ⟨px, ax⟩, y, hy, hne, py, ay⟩ := h
      exact ⟨x, hx, y, hy, hne, px, py, ax, ay⟩
  | 8 =>
    simp only [State.breaks, State.BreaksCheck, Option.mem_def]
    constructor
    · rintro ⟨h, x, c, hc, hl⟩
      exact .inr (.inr (.inr (.inr (.inr (.inr ⟨trivial, h, x, by cases x <;> simp, c, hc, hl⟩)))))
    · intro h
      simp only [show (8 : Nat) ≠ 2 by decide, show (8 : Nat) ≠ 3 by decide, show (8 : Nat) ≠ 4 by decide,
        show (8 : Nat) ≠ 5 by decide, show (8 : Nat) ≠ 6 by decide, show (8 : Nat) ≠ 7 by decide, false_and,
        false_or, true_and] at h
      obtain ⟨h, x, -, c, hc, hl⟩ := h
      exact ⟨h, x, c, hc, hl⟩
  | k + 9 => simp [State.breaks, State.BreaksCheck]

/-- A condition holds, as a check. -/
def State.meetsCheck (s : State) (p : Bank) (k : Nat) : Bool :=
  if k = 1 then decide (∃ c ∈ Config.channelNumbers, (p.channel c).enabled = true)
  else decide (∀ n ∈ Config.channelNumbers, ¬ s.BreaksCheck p n k)

theorem State.meets_iff_check (s : State) (p : Bank) (k : Nat) : s.meets p k ↔ s.meetsCheck p k = true := by
  unfold State.meets State.meetsCheck
  simp only [State.breaks_iff_check]
  split <;> exact decide_eq_true_iff.symm

/-- A bank meets the conditions below `n` where the checks do. -/
theorem State.meets_below {s : State} {p : Bank} {n : Nat} (h : ∀ k ∈ List.range n, 1 ≤ k → s.meetsCheck p k = true)
    (m : Nat) (h1 : 1 ≤ m) (h2 : m < n) : s.meets p m :=
  (s.meets_iff_check p m).mpr (h m (List.mem_range.mpr h2) h1)

/-- A request is accepted where its link receives and its parameters are in range. -/
theorem State.accepts_of {s : State} {i : Instr} (h : ∀ r ∈ i.request, s.receives r.link = true)
    (hp : ∀ q ∈ Instr.paramsInRange s i, q) : s.accepts i := ⟨h, hp⟩

end Sys2Proof.Machine
end

