-- ==== Sys2Proof/Laws/State.lean ====
section
/-! SUPPORT. What each update of the state leaves in each field: one lemma per field per update, true by unfolding, so
that no proof unfolds a record update. -/

namespace Sys2Proof.Machine

/-! ## Updates of one block -/

@[simp] theorem State.setStraps_straps (s : State) (x : Straps) : (s.setStraps x).straps = x := rfl
@[simp] theorem State.setStraps_banks (s : State) (x : Straps) : (s.setStraps x).banks = s.banks := rfl
@[simp] theorem State.setStraps_framer (s : State) (x : Straps) : (s.setStraps x).framer = s.framer := rfl
@[simp] theorem State.setStraps_mixer (s : State) (x : Straps) : (s.setStraps x).mixer = s.mixer := rfl
@[simp] theorem State.setStraps_bdc (s : State) (x : Straps) : (s.setStraps x).bdc = s.bdc := rfl
@[simp] theorem State.setStraps_relay (s : State) (x : Straps) : (s.setStraps x).relay = s.relay := rfl
@[simp] theorem State.setStraps_meter (s : State) (x : Straps) : (s.setStraps x).meter = s.meter := rfl
@[simp] theorem State.setStraps_register (s : State) (x : Straps) : (s.setStraps x).register = s.register := rfl
@[simp] theorem State.setStraps_hire (s : State) (x : Straps) : (s.setStraps x).hire = s.hire := rfl
@[simp] theorem State.setStraps_journal (s : State) (x : Straps) : (s.setStraps x).journal = s.journal := rfl
@[simp] theorem State.setStraps_links (s : State) (x : Straps) : (s.setStraps x).links = s.links := rfl
@[simp] theorem State.setStraps_resetHeld (s : State) (x : Straps) : (s.setStraps x).resetHeld = s.resetHeld := rfl
@[simp] theorem State.setStraps_freeIndex (s : State) (x : Straps) : (s.setStraps x).freeIndex = s.freeIndex := rfl
@[simp] theorem State.setStraps_pending (s : State) (x : Straps) : (s.setStraps x).pending = s.pending := rfl
@[simp] theorem State.setStraps_arriving (s : State) (x : Straps) : (s.setStraps x).arriving = s.arriving := rfl

@[simp] theorem State.setBanks_straps (s : State) (x : Table Bank) : (s.setBanks x).straps = s.straps := rfl
@[simp] theorem State.setBanks_banks (s : State) (x : Table Bank) : (s.setBanks x).banks = x := rfl
@[simp] theorem State.setBanks_framer (s : State) (x : Table Bank) : (s.setBanks x).framer = s.framer := rfl
@[simp] theorem State.setBanks_mixer (s : State) (x : Table Bank) : (s.setBanks x).mixer = s.mixer := rfl
@[simp] theorem State.setBanks_bdc (s : State) (x : Table Bank) : (s.setBanks x).bdc = s.bdc := rfl
@[simp] theorem State.setBanks_relay (s : State) (x : Table Bank) : (s.setBanks x).relay = s.relay := rfl
@[simp] theorem State.setBanks_meter (s : State) (x : Table Bank) : (s.setBanks x).meter = s.meter := rfl
@[simp] theorem State.setBanks_register (s : State) (x : Table Bank) : (s.setBanks x).register = s.register := rfl
@[simp] theorem State.setBanks_hire (s : State) (x : Table Bank) : (s.setBanks x).hire = s.hire := rfl
@[simp] theorem State.setBanks_journal (s : State) (x : Table Bank) : (s.setBanks x).journal = s.journal := rfl
@[simp] theorem State.setBanks_links (s : State) (x : Table Bank) : (s.setBanks x).links = s.links := rfl
@[simp] theorem State.setBanks_resetHeld (s : State) (x : Table Bank) : (s.setBanks x).resetHeld = s.resetHeld := rfl
@[simp] theorem State.setBanks_freeIndex (s : State) (x : Table Bank) : (s.setBanks x).freeIndex = s.freeIndex := rfl
@[simp] theorem State.setBanks_pending (s : State) (x : Table Bank) : (s.setBanks x).pending = s.pending := rfl
@[simp] theorem State.setBanks_arriving (s : State) (x : Table Bank) : (s.setBanks x).arriving = s.arriving := rfl

@[simp] theorem State.setFramer_straps (s : State) (x : Framer) : (s.setFramer x).straps = s.straps := rfl
@[simp] theorem State.setFramer_banks (s : State) (x : Framer) : (s.setFramer x).banks = s.banks := rfl
@[simp] theorem State.setFramer_framer (s : State) (x : Framer) : (s.setFramer x).framer = x := rfl
@[simp] theorem State.setFramer_mixer (s : State) (x : Framer) : (s.setFramer x).mixer = s.mixer := rfl
@[simp] theorem State.setFramer_bdc (s : State) (x : Framer) : (s.setFramer x).bdc = s.bdc := rfl
@[simp] theorem State.setFramer_relay (s : State) (x : Framer) : (s.setFramer x).relay = s.relay := rfl
@[simp] theorem State.setFramer_meter (s : State) (x : Framer) : (s.setFramer x).meter = s.meter := rfl
@[simp] theorem State.setFramer_register (s : State) (x : Framer) : (s.setFramer x).register = s.register := rfl
@[simp] theorem State.setFramer_hire (s : State) (x : Framer) : (s.setFramer x).hire = s.hire := rfl
@[simp] theorem State.setFramer_journal (s : State) (x : Framer) : (s.setFramer x).journal = s.journal := rfl
@[simp] theorem State.setFramer_links (s : State) (x : Framer) : (s.setFramer x).links = s.links := rfl
@[simp] theorem State.setFramer_resetHeld (s : State) (x : Framer) : (s.setFramer x).resetHeld = s.resetHeld := rfl
@[simp] theorem State.setFramer_freeIndex (s : State) (x : Framer) : (s.setFramer x).freeIndex = s.freeIndex := rfl
@[simp] theorem State.setFramer_pending (s : State) (x : Framer) : (s.setFramer x).pending = s.pending := rfl
@[simp] theorem State.setFramer_arriving (s : State) (x : Framer) : (s.setFramer x).arriving = s.arriving := rfl

@[simp] theorem State.setMixer_straps (s : State) (x : Mixer) : (s.setMixer x).straps = s.straps := rfl
@[simp] theorem State.setMixer_banks (s : State) (x : Mixer) : (s.setMixer x).banks = s.banks := rfl
@[simp] theorem State.setMixer_framer (s : State) (x : Mixer) : (s.setMixer x).framer = s.framer := rfl
@[simp] theorem State.setMixer_mixer (s : State) (x : Mixer) : (s.setMixer x).mixer = x := rfl
@[simp] theorem State.setMixer_bdc (s : State) (x : Mixer) : (s.setMixer x).bdc = s.bdc := rfl
@[simp] theorem State.setMixer_relay (s : State) (x : Mixer) : (s.setMixer x).relay = s.relay := rfl
@[simp] theorem State.setMixer_meter (s : State) (x : Mixer) : (s.setMixer x).meter = s.meter := rfl
@[simp] theorem State.setMixer_register (s : State) (x : Mixer) : (s.setMixer x).register = s.register := rfl
@[simp] theorem State.setMixer_hire (s : State) (x : Mixer) : (s.setMixer x).hire = s.hire := rfl
@[simp] theorem State.setMixer_journal (s : State) (x : Mixer) : (s.setMixer x).journal = s.journal := rfl
@[simp] theorem State.setMixer_links (s : State) (x : Mixer) : (s.setMixer x).links = s.links := rfl
@[simp] theorem State.setMixer_resetHeld (s : State) (x : Mixer) : (s.setMixer x).resetHeld = s.resetHeld := rfl
@[simp] theorem State.setMixer_freeIndex (s : State) (x : Mixer) : (s.setMixer x).freeIndex = s.freeIndex := rfl
@[simp] theorem State.setMixer_pending (s : State) (x : Mixer) : (s.setMixer x).pending = s.pending := rfl
@[simp] theorem State.setMixer_arriving (s : State) (x : Mixer) : (s.setMixer x).arriving = s.arriving := rfl

@[simp] theorem State.setBdc_straps (s : State) (x : Bdc) : (s.setBdc x).straps = s.straps := rfl
@[simp] theorem State.setBdc_banks (s : State) (x : Bdc) : (s.setBdc x).banks = s.banks := rfl
@[simp] theorem State.setBdc_framer (s : State) (x : Bdc) : (s.setBdc x).framer = s.framer := rfl
@[simp] theorem State.setBdc_mixer (s : State) (x : Bdc) : (s.setBdc x).mixer = s.mixer := rfl
@[simp] theorem State.setBdc_bdc (s : State) (x : Bdc) : (s.setBdc x).bdc = x := rfl
@[simp] theorem State.setBdc_relay (s : State) (x : Bdc) : (s.setBdc x).relay = s.relay := rfl
@[simp] theorem State.setBdc_meter (s : State) (x : Bdc) : (s.setBdc x).meter = s.meter := rfl
@[simp] theorem State.setBdc_register (s : State) (x : Bdc) : (s.setBdc x).register = s.register := rfl
@[simp] theorem State.setBdc_hire (s : State) (x : Bdc) : (s.setBdc x).hire = s.hire := rfl
@[simp] theorem State.setBdc_journal (s : State) (x : Bdc) : (s.setBdc x).journal = s.journal := rfl
@[simp] theorem State.setBdc_links (s : State) (x : Bdc) : (s.setBdc x).links = s.links := rfl
@[simp] theorem State.setBdc_resetHeld (s : State) (x : Bdc) : (s.setBdc x).resetHeld = s.resetHeld := rfl
@[simp] theorem State.setBdc_freeIndex (s : State) (x : Bdc) : (s.setBdc x).freeIndex = s.freeIndex := rfl
@[simp] theorem State.setBdc_pending (s : State) (x : Bdc) : (s.setBdc x).pending = s.pending := rfl
@[simp] theorem State.setBdc_arriving (s : State) (x : Bdc) : (s.setBdc x).arriving = s.arriving := rfl

@[simp] theorem State.setRelay_straps (s : State) (x : Relay) : (s.setRelay x).straps = s.straps := rfl
@[simp] theorem State.setRelay_banks (s : State) (x : Relay) : (s.setRelay x).banks = s.banks := rfl
@[simp] theorem State.setRelay_framer (s : State) (x : Relay) : (s.setRelay x).framer = s.framer := rfl
@[simp] theorem State.setRelay_mixer (s : State) (x : Relay) : (s.setRelay x).mixer = s.mixer := rfl
@[simp] theorem State.setRelay_bdc (s : State) (x : Relay) : (s.setRelay x).bdc = s.bdc := rfl
@[simp] theorem State.setRelay_relay (s : State) (x : Relay) : (s.setRelay x).relay = x := rfl
@[simp] theorem State.setRelay_meter (s : State) (x : Relay) : (s.setRelay x).meter = s.meter := rfl
@[simp] theorem State.setRelay_register (s : State) (x : Relay) : (s.setRelay x).register = s.register := rfl
@[simp] theorem State.setRelay_hire (s : State) (x : Relay) : (s.setRelay x).hire = s.hire := rfl
@[simp] theorem State.setRelay_journal (s : State) (x : Relay) : (s.setRelay x).journal = s.journal := rfl
@[simp] theorem State.setRelay_links (s : State) (x : Relay) : (s.setRelay x).links = s.links := rfl
@[simp] theorem State.setRelay_resetHeld (s : State) (x : Relay) : (s.setRelay x).resetHeld = s.resetHeld := rfl
@[simp] theorem State.setRelay_freeIndex (s : State) (x : Relay) : (s.setRelay x).freeIndex = s.freeIndex := rfl
@[simp] theorem State.setRelay_pending (s : State) (x : Relay) : (s.setRelay x).pending = s.pending := rfl
@[simp] theorem State.setRelay_arriving (s : State) (x : Relay) : (s.setRelay x).arriving = s.arriving := rfl

@[simp] theorem State.setMeter_straps (s : State) (x : Meter) : (s.setMeter x).straps = s.straps := rfl
@[simp] theorem State.setMeter_banks (s : State) (x : Meter) : (s.setMeter x).banks = s.banks := rfl
@[simp] theorem State.setMeter_framer (s : State) (x : Meter) : (s.setMeter x).framer = s.framer := rfl
@[simp] theorem State.setMeter_mixer (s : State) (x : Meter) : (s.setMeter x).mixer = s.mixer := rfl
@[simp] theorem State.setMeter_bdc (s : State) (x : Meter) : (s.setMeter x).bdc = s.bdc := rfl
@[simp] theorem State.setMeter_relay (s : State) (x : Meter) : (s.setMeter x).relay = s.relay := rfl
@[simp] theorem State.setMeter_meter (s : State) (x : Meter) : (s.setMeter x).meter = x := rfl
@[simp] theorem State.setMeter_register (s : State) (x : Meter) : (s.setMeter x).register = s.register := rfl
@[simp] theorem State.setMeter_hire (s : State) (x : Meter) : (s.setMeter x).hire = s.hire := rfl
@[simp] theorem State.setMeter_journal (s : State) (x : Meter) : (s.setMeter x).journal = s.journal := rfl
@[simp] theorem State.setMeter_links (s : State) (x : Meter) : (s.setMeter x).links = s.links := rfl
@[simp] theorem State.setMeter_resetHeld (s : State) (x : Meter) : (s.setMeter x).resetHeld = s.resetHeld := rfl
@[simp] theorem State.setMeter_freeIndex (s : State) (x : Meter) : (s.setMeter x).freeIndex = s.freeIndex := rfl
@[simp] theorem State.setMeter_pending (s : State) (x : Meter) : (s.setMeter x).pending = s.pending := rfl
@[simp] theorem State.setMeter_arriving (s : State) (x : Meter) : (s.setMeter x).arriving = s.arriving := rfl

@[simp] theorem State.setRegister_straps (s : State) (x : Register) : (s.setRegister x).straps = s.straps := rfl
@[simp] theorem State.setRegister_banks (s : State) (x : Register) : (s.setRegister x).banks = s.banks := rfl
@[simp] theorem State.setRegister_framer (s : State) (x : Register) : (s.setRegister x).framer = s.framer := rfl
@[simp] theorem State.setRegister_mixer (s : State) (x : Register) : (s.setRegister x).mixer = s.mixer := rfl
@[simp] theorem State.setRegister_bdc (s : State) (x : Register) : (s.setRegister x).bdc = s.bdc := rfl
@[simp] theorem State.setRegister_relay (s : State) (x : Register) : (s.setRegister x).relay = s.relay := rfl
@[simp] theorem State.setRegister_meter (s : State) (x : Register) : (s.setRegister x).meter = s.meter := rfl
@[simp] theorem State.setRegister_register (s : State) (x : Register) : (s.setRegister x).register = x := rfl
@[simp] theorem State.setRegister_hire (s : State) (x : Register) : (s.setRegister x).hire = s.hire := rfl
@[simp] theorem State.setRegister_journal (s : State) (x : Register) : (s.setRegister x).journal = s.journal := rfl
@[simp] theorem State.setRegister_links (s : State) (x : Register) : (s.setRegister x).links = s.links := rfl
@[simp] theorem State.setRegister_resetHeld (s : State) (x : Register) : (s.setRegister x).resetHeld = s.resetHeld := rfl
@[simp] theorem State.setRegister_freeIndex (s : State) (x : Register) : (s.setRegister x).freeIndex = s.freeIndex := rfl
@[simp] theorem State.setRegister_pending (s : State) (x : Register) : (s.setRegister x).pending = s.pending := rfl
@[simp] theorem State.setRegister_arriving (s : State) (x : Register) : (s.setRegister x).arriving = s.arriving := rfl

@[simp] theorem State.setHire_straps (s : State) (x : Hire) : (s.setHire x).straps = s.straps := rfl
@[simp] theorem State.setHire_banks (s : State) (x : Hire) : (s.setHire x).banks = s.banks := rfl
@[simp] theorem State.setHire_framer (s : State) (x : Hire) : (s.setHire x).framer = s.framer := rfl
@[simp] theorem State.setHire_mixer (s : State) (x : Hire) : (s.setHire x).mixer = s.mixer := rfl
@[simp] theorem State.setHire_bdc (s : State) (x : Hire) : (s.setHire x).bdc = s.bdc := rfl
@[simp] theorem State.setHire_relay (s : State) (x : Hire) : (s.setHire x).relay = s.relay := rfl
@[simp] theorem State.setHire_meter (s : State) (x : Hire) : (s.setHire x).meter = s.meter := rfl
@[simp] theorem State.setHire_register (s : State) (x : Hire) : (s.setHire x).register = s.register := rfl
@[simp] theorem State.setHire_hire (s : State) (x : Hire) : (s.setHire x).hire = x := rfl
@[simp] theorem State.setHire_journal (s : State) (x : Hire) : (s.setHire x).journal = s.journal := rfl
@[simp] theorem State.setHire_links (s : State) (x : Hire) : (s.setHire x).links = s.links := rfl
@[simp] theorem State.setHire_resetHeld (s : State) (x : Hire) : (s.setHire x).resetHeld = s.resetHeld := rfl
@[simp] theorem State.setHire_freeIndex (s : State) (x : Hire) : (s.setHire x).freeIndex = s.freeIndex := rfl
@[simp] theorem State.setHire_pending (s : State) (x : Hire) : (s.setHire x).pending = s.pending := rfl
@[simp] theorem State.setHire_arriving (s : State) (x : Hire) : (s.setHire x).arriving = s.arriving := rfl

@[simp] theorem State.setJournal_straps (s : State) (x : Journal) : (s.setJournal x).straps = s.straps := rfl
@[simp] theorem State.setJournal_banks (s : State) (x : Journal) : (s.setJournal x).banks = s.banks := rfl
@[simp] theorem State.setJournal_framer (s : State) (x : Journal) : (s.setJournal x).framer = s.framer := rfl
@[simp] theorem State.setJournal_mixer (s : State) (x : Journal) : (s.setJournal x).mixer = s.mixer := rfl
@[simp] theorem State.setJournal_bdc (s : State) (x : Journal) : (s.setJournal x).bdc = s.bdc := rfl
@[simp] theorem State.setJournal_relay (s : State) (x : Journal) : (s.setJournal x).relay = s.relay := rfl
@[simp] theorem State.setJournal_meter (s : State) (x : Journal) : (s.setJournal x).meter = s.meter := rfl
@[simp] theorem State.setJournal_register (s : State) (x : Journal) : (s.setJournal x).register = s.register := rfl
@[simp] theorem State.setJournal_hire (s : State) (x : Journal) : (s.setJournal x).hire = s.hire := rfl
@[simp] theorem State.setJournal_journal (s : State) (x : Journal) : (s.setJournal x).journal = x := rfl
@[simp] theorem State.setJournal_links (s : State) (x : Journal) : (s.setJournal x).links = s.links := rfl
@[simp] theorem State.setJournal_resetHeld (s : State) (x : Journal) : (s.setJournal x).resetHeld = s.resetHeld := rfl
@[simp] theorem State.setJournal_freeIndex (s : State) (x : Journal) : (s.setJournal x).freeIndex = s.freeIndex := rfl
@[simp] theorem State.setJournal_pending (s : State) (x : Journal) : (s.setJournal x).pending = s.pending := rfl
@[simp] theorem State.setJournal_arriving (s : State) (x : Journal) : (s.setJournal x).arriving = s.arriving := rfl

@[simp] theorem State.setLinks_straps (s : State) (x : Links) : (s.setLinks x).straps = s.straps := rfl
@[simp] theorem State.setLinks_banks (s : State) (x : Links) : (s.setLinks x).banks = s.banks := rfl
@[simp] theorem State.setLinks_framer (s : State) (x : Links) : (s.setLinks x).framer = s.framer := rfl
@[simp] theorem State.setLinks_mixer (s : State) (x : Links) : (s.setLinks x).mixer = s.mixer := rfl
@[simp] theorem State.setLinks_bdc (s : State) (x : Links) : (s.setLinks x).bdc = s.bdc := rfl
@[simp] theorem State.setLinks_relay (s : State) (x : Links) : (s.setLinks x).relay = s.relay := rfl
@[simp] theorem State.setLinks_meter (s : State) (x : Links) : (s.setLinks x).meter = s.meter := rfl
@[simp] theorem State.setLinks_register (s : State) (x : Links) : (s.setLinks x).register = s.register := rfl
@[simp] theorem State.setLinks_hire (s : State) (x : Links) : (s.setLinks x).hire = s.hire := rfl
@[simp] theorem State.setLinks_journal (s : State) (x : Links) : (s.setLinks x).journal = s.journal := rfl
@[simp] theorem State.setLinks_links (s : State) (x : Links) : (s.setLinks x).links = x := rfl
@[simp] theorem State.setLinks_resetHeld (s : State) (x : Links) : (s.setLinks x).resetHeld = s.resetHeld := rfl
@[simp] theorem State.setLinks_freeIndex (s : State) (x : Links) : (s.setLinks x).freeIndex = s.freeIndex := rfl
@[simp] theorem State.setLinks_pending (s : State) (x : Links) : (s.setLinks x).pending = s.pending := rfl
@[simp] theorem State.setLinks_arriving (s : State) (x : Links) : (s.setLinks x).arriving = s.arriving := rfl

@[simp] theorem State.setHeld_straps (s : State) (x : Bool) : (s.setHeld x).straps = s.straps := rfl
@[simp] theorem State.setHeld_banks (s : State) (x : Bool) : (s.setHeld x).banks = s.banks := rfl
@[simp] theorem State.setHeld_framer (s : State) (x : Bool) : (s.setHeld x).framer = s.framer := rfl
@[simp] theorem State.setHeld_mixer (s : State) (x : Bool) : (s.setHeld x).mixer = s.mixer := rfl
@[simp] theorem State.setHeld_bdc (s : State) (x : Bool) : (s.setHeld x).bdc = s.bdc := rfl
@[simp] theorem State.setHeld_relay (s : State) (x : Bool) : (s.setHeld x).relay = s.relay := rfl
@[simp] theorem State.setHeld_meter (s : State) (x : Bool) : (s.setHeld x).meter = s.meter := rfl
@[simp] theorem State.setHeld_register (s : State) (x : Bool) : (s.setHeld x).register = s.register := rfl
@[simp] theorem State.setHeld_hire (s : State) (x : Bool) : (s.setHeld x).hire = s.hire := rfl
@[simp] theorem State.setHeld_journal (s : State) (x : Bool) : (s.setHeld x).journal = s.journal := rfl
@[simp] theorem State.setHeld_links (s : State) (x : Bool) : (s.setHeld x).links = s.links := rfl
@[simp] theorem State.setHeld_resetHeld (s : State) (x : Bool) : (s.setHeld x).resetHeld = x := rfl
@[simp] theorem State.setHeld_freeIndex (s : State) (x : Bool) : (s.setHeld x).freeIndex = s.freeIndex := rfl
@[simp] theorem State.setHeld_pending (s : State) (x : Bool) : (s.setHeld x).pending = s.pending := rfl
@[simp] theorem State.setHeld_arriving (s : State) (x : Bool) : (s.setHeld x).arriving = s.arriving := rfl

@[simp] theorem State.setFree_straps (s : State) (x : Nat) : (s.setFree x).straps = s.straps := rfl
@[simp] theorem State.setFree_banks (s : State) (x : Nat) : (s.setFree x).banks = s.banks := rfl
@[simp] theorem State.setFree_framer (s : State) (x : Nat) : (s.setFree x).framer = s.framer := rfl
@[simp] theorem State.setFree_mixer (s : State) (x : Nat) : (s.setFree x).mixer = s.mixer := rfl
@[simp] theorem State.setFree_bdc (s : State) (x : Nat) : (s.setFree x).bdc = s.bdc := rfl
@[simp] theorem State.setFree_relay (s : State) (x : Nat) : (s.setFree x).relay = s.relay := rfl
@[simp] theorem State.setFree_meter (s : State) (x : Nat) : (s.setFree x).meter = s.meter := rfl
@[simp] theorem State.setFree_register (s : State) (x : Nat) : (s.setFree x).register = s.register := rfl
@[simp] theorem State.setFree_hire (s : State) (x : Nat) : (s.setFree x).hire = s.hire := rfl
@[simp] theorem State.setFree_journal (s : State) (x : Nat) : (s.setFree x).journal = s.journal := rfl
@[simp] theorem State.setFree_links (s : State) (x : Nat) : (s.setFree x).links = s.links := rfl
@[simp] theorem State.setFree_resetHeld (s : State) (x : Nat) : (s.setFree x).resetHeld = s.resetHeld := rfl
@[simp] theorem State.setFree_freeIndex (s : State) (x : Nat) : (s.setFree x).freeIndex = x := rfl
@[simp] theorem State.setFree_pending (s : State) (x : Nat) : (s.setFree x).pending = s.pending := rfl
@[simp] theorem State.setFree_arriving (s : State) (x : Nat) : (s.setFree x).arriving = s.arriving := rfl

@[simp] theorem State.setPending_straps (s : State) (x : List Instr) : (s.setPending x).straps = s.straps := rfl
@[simp] theorem State.setPending_banks (s : State) (x : List Instr) : (s.setPending x).banks = s.banks := rfl
@[simp] theorem State.setPending_framer (s : State) (x : List Instr) : (s.setPending x).framer = s.framer := rfl
@[simp] theorem State.setPending_mixer (s : State) (x : List Instr) : (s.setPending x).mixer = s.mixer := rfl
@[simp] theorem State.setPending_bdc (s : State) (x : List Instr) : (s.setPending x).bdc = s.bdc := rfl
@[simp] theorem State.setPending_relay (s : State) (x : List Instr) : (s.setPending x).relay = s.relay := rfl
@[simp] theorem State.setPending_meter (s : State) (x : List Instr) : (s.setPending x).meter = s.meter := rfl
@[simp] theorem State.setPending_register (s : State) (x : List Instr) : (s.setPending x).register = s.register := rfl
@[simp] theorem State.setPending_hire (s : State) (x : List Instr) : (s.setPending x).hire = s.hire := rfl
@[simp] theorem State.setPending_journal (s : State) (x : List Instr) : (s.setPending x).journal = s.journal := rfl
@[simp] theorem State.setPending_links (s : State) (x : List Instr) : (s.setPending x).links = s.links := rfl
@[simp] theorem State.setPending_resetHeld (s : State) (x : List Instr) : (s.setPending x).resetHeld = s.resetHeld := rfl
@[simp] theorem State.setPending_freeIndex (s : State) (x : List Instr) : (s.setPending x).freeIndex = s.freeIndex := rfl
@[simp] theorem State.setPending_pending (s : State) (x : List Instr) : (s.setPending x).pending = x := rfl
@[simp] theorem State.setPending_arriving (s : State) (x : List Instr) : (s.setPending x).arriving = s.arriving := rfl

@[simp] theorem State.setArriving_straps (s : State) (x : List Arrival) : (s.setArriving x).straps = s.straps := rfl
@[simp] theorem State.setArriving_banks (s : State) (x : List Arrival) : (s.setArriving x).banks = s.banks := rfl
@[simp] theorem State.setArriving_framer (s : State) (x : List Arrival) : (s.setArriving x).framer = s.framer := rfl
@[simp] theorem State.setArriving_mixer (s : State) (x : List Arrival) : (s.setArriving x).mixer = s.mixer := rfl
@[simp] theorem State.setArriving_bdc (s : State) (x : List Arrival) : (s.setArriving x).bdc = s.bdc := rfl
@[simp] theorem State.setArriving_relay (s : State) (x : List Arrival) : (s.setArriving x).relay = s.relay := rfl
@[simp] theorem State.setArriving_meter (s : State) (x : List Arrival) : (s.setArriving x).meter = s.meter := rfl
@[simp] theorem State.setArriving_register (s : State) (x : List Arrival) : (s.setArriving x).register = s.register := rfl
@[simp] theorem State.setArriving_hire (s : State) (x : List Arrival) : (s.setArriving x).hire = s.hire := rfl
@[simp] theorem State.setArriving_journal (s : State) (x : List Arrival) : (s.setArriving x).journal = s.journal := rfl
@[simp] theorem State.setArriving_links (s : State) (x : List Arrival) : (s.setArriving x).links = s.links := rfl
@[simp] theorem State.setArriving_resetHeld (s : State) (x : List Arrival) : (s.setArriving x).resetHeld = s.resetHeld := rfl
@[simp] theorem State.setArriving_freeIndex (s : State) (x : List Arrival) : (s.setArriving x).freeIndex = s.freeIndex := rfl
@[simp] theorem State.setArriving_pending (s : State) (x : List Arrival) : (s.setArriving x).pending = s.pending := rfl
@[simp] theorem State.setArriving_arriving (s : State) (x : List Arrival) : (s.setArriving x).arriving = x := rfl

/-! ## Updates of one record -/

@[simp] theorem State.setBank_straps (s : State) (k : Nat) (x : Bank) : (s.setBank k x).straps = s.straps := rfl
@[simp] theorem State.setBank_framer (s : State) (k : Nat) (x : Bank) : (s.setBank k x).framer = s.framer := rfl
@[simp] theorem State.setBank_mixer (s : State) (k : Nat) (x : Bank) : (s.setBank k x).mixer = s.mixer := rfl
@[simp] theorem State.setBank_bdc (s : State) (k : Nat) (x : Bank) : (s.setBank k x).bdc = s.bdc := rfl
@[simp] theorem State.setBank_relay (s : State) (k : Nat) (x : Bank) : (s.setBank k x).relay = s.relay := rfl
@[simp] theorem State.setBank_meter (s : State) (k : Nat) (x : Bank) : (s.setBank k x).meter = s.meter := rfl
@[simp] theorem State.setBank_register (s : State) (k : Nat) (x : Bank) : (s.setBank k x).register = s.register := rfl
@[simp] theorem State.setBank_hire (s : State) (k : Nat) (x : Bank) : (s.setBank k x).hire = s.hire := rfl
@[simp] theorem State.setBank_journal (s : State) (k : Nat) (x : Bank) : (s.setBank k x).journal = s.journal := rfl
@[simp] theorem State.setBank_links (s : State) (k : Nat) (x : Bank) : (s.setBank k x).links = s.links := rfl
@[simp] theorem State.setBank_resetHeld (s : State) (k : Nat) (x : Bank) : (s.setBank k x).resetHeld = s.resetHeld := rfl
@[simp] theorem State.setBank_freeIndex (s : State) (k : Nat) (x : Bank) : (s.setBank k x).freeIndex = s.freeIndex := rfl
@[simp] theorem State.setBank_pending (s : State) (k : Nat) (x : Bank) : (s.setBank k x).pending = s.pending := rfl
@[simp] theorem State.setBank_arriving (s : State) (k : Nat) (x : Bank) : (s.setBank k x).arriving = s.arriving := rfl

@[simp] theorem State.setDesk_straps (s : State) (b d : Nat) (x : Desk) : (s.setDesk b d x).straps = s.straps := rfl
@[simp] theorem State.setDesk_banks (s : State) (b d : Nat) (x : Desk) : (s.setDesk b d x).banks = s.banks := rfl
@[simp] theorem State.setDesk_framer (s : State) (b d : Nat) (x : Desk) : (s.setDesk b d x).framer = s.framer := rfl
@[simp] theorem State.setDesk_mixer (s : State) (b d : Nat) (x : Desk) : (s.setDesk b d x).mixer = s.mixer := rfl
@[simp] theorem State.setDesk_relay (s : State) (b d : Nat) (x : Desk) : (s.setDesk b d x).relay = s.relay := rfl
@[simp] theorem State.setDesk_meter (s : State) (b d : Nat) (x : Desk) : (s.setDesk b d x).meter = s.meter := rfl
@[simp] theorem State.setDesk_register (s : State) (b d : Nat) (x : Desk) : (s.setDesk b d x).register = s.register := rfl
@[simp] theorem State.setDesk_hire (s : State) (b d : Nat) (x : Desk) : (s.setDesk b d x).hire = s.hire := rfl
@[simp] theorem State.setDesk_journal (s : State) (b d : Nat) (x : Desk) : (s.setDesk b d x).journal = s.journal := rfl
@[simp] theorem State.setDesk_links (s : State) (b d : Nat) (x : Desk) : (s.setDesk b d x).links = s.links := rfl
@[simp] theorem State.setDesk_resetHeld (s : State) (b d : Nat) (x : Desk) : (s.setDesk b d x).resetHeld = s.resetHeld := rfl
@[simp] theorem State.setDesk_freeIndex (s : State) (b d : Nat) (x : Desk) : (s.setDesk b d x).freeIndex = s.freeIndex := rfl
@[simp] theorem State.setDesk_pending (s : State) (b d : Nat) (x : Desk) : (s.setDesk b d x).pending = s.pending := rfl
@[simp] theorem State.setDesk_arriving (s : State) (b d : Nat) (x : Desk) : (s.setDesk b d x).arriving = s.arriving := rfl

@[simp] theorem State.setBooth_straps (s : State) (b : Nat) (x : BoothRun) : (s.setBooth b x).straps = s.straps := rfl
@[simp] theorem State.setBooth_banks (s : State) (b : Nat) (x : BoothRun) : (s.setBooth b x).banks = s.banks := rfl
@[simp] theorem State.setBooth_framer (s : State) (b : Nat) (x : BoothRun) : (s.setBooth b x).framer = s.framer := rfl
@[simp] theorem State.setBooth_mixer (s : State) (b : Nat) (x : BoothRun) : (s.setBooth b x).mixer = s.mixer := rfl
@[simp] theorem State.setBooth_relay (s : State) (b : Nat) (x : BoothRun) : (s.setBooth b x).relay = s.relay := rfl
@[simp] theorem State.setBooth_meter (s : State) (b : Nat) (x : BoothRun) : (s.setBooth b x).meter = s.meter := rfl
@[simp] theorem State.setBooth_register (s : State) (b : Nat) (x : BoothRun) : (s.setBooth b x).register = s.register := rfl
@[simp] theorem State.setBooth_hire (s : State) (b : Nat) (x : BoothRun) : (s.setBooth b x).hire = s.hire := rfl
@[simp] theorem State.setBooth_journal (s : State) (b : Nat) (x : BoothRun) : (s.setBooth b x).journal = s.journal := rfl
@[simp] theorem State.setBooth_links (s : State) (b : Nat) (x : BoothRun) : (s.setBooth b x).links = s.links := rfl
@[simp] theorem State.setBooth_resetHeld (s : State) (b : Nat) (x : BoothRun) : (s.setBooth b x).resetHeld = s.resetHeld := rfl
@[simp] theorem State.setBooth_freeIndex (s : State) (b : Nat) (x : BoothRun) : (s.setBooth b x).freeIndex = s.freeIndex := rfl
@[simp] theorem State.setBooth_pending (s : State) (b : Nat) (x : BoothRun) : (s.setBooth b x).pending = s.pending := rfl
@[simp] theorem State.setBooth_arriving (s : State) (b : Nat) (x : BoothRun) : (s.setBooth b x).arriving = s.arriving := rfl

@[simp] theorem State.setChan_straps (s : State) (c : Nat) (x : ChannelRun) : (s.setChan c x).straps = s.straps := rfl
@[simp] theorem State.setChan_banks (s : State) (c : Nat) (x : ChannelRun) : (s.setChan c x).banks = s.banks := rfl
@[simp] theorem State.setChan_framer (s : State) (c : Nat) (x : ChannelRun) : (s.setChan c x).framer = s.framer := rfl
@[simp] theorem State.setChan_mixer (s : State) (c : Nat) (x : ChannelRun) : (s.setChan c x).mixer = s.mixer := rfl
@[simp] theorem State.setChan_relay (s : State) (c : Nat) (x : ChannelRun) : (s.setChan c x).relay = s.relay := rfl
@[simp] theorem State.setChan_meter (s : State) (c : Nat) (x : ChannelRun) : (s.setChan c x).meter = s.meter := rfl
@[simp] theorem State.setChan_register (s : State) (c : Nat) (x : ChannelRun) : (s.setChan c x).register = s.register := rfl
@[simp] theorem State.setChan_hire (s : State) (c : Nat) (x : ChannelRun) : (s.setChan c x).hire = s.hire := rfl
@[simp] theorem State.setChan_journal (s : State) (c : Nat) (x : ChannelRun) : (s.setChan c x).journal = s.journal := rfl
@[simp] theorem State.setChan_links (s : State) (c : Nat) (x : ChannelRun) : (s.setChan c x).links = s.links := rfl
@[simp] theorem State.setChan_resetHeld (s : State) (c : Nat) (x : ChannelRun) : (s.setChan c x).resetHeld = s.resetHeld := rfl
@[simp] theorem State.setChan_freeIndex (s : State) (c : Nat) (x : ChannelRun) : (s.setChan c x).freeIndex = s.freeIndex := rfl
@[simp] theorem State.setChan_pending (s : State) (c : Nat) (x : ChannelRun) : (s.setChan c x).pending = s.pending := rfl
@[simp] theorem State.setChan_arriving (s : State) (c : Nat) (x : ChannelRun) : (s.setChan c x).arriving = s.arriving := rfl

@[simp] theorem State.setCarriage_straps (s : State) (c : Nat) (x : Carriage) : (s.setCarriage c x).straps = s.straps := rfl
@[simp] theorem State.setCarriage_banks (s : State) (c : Nat) (x : Carriage) : (s.setCarriage c x).banks = s.banks := rfl
@[simp] theorem State.setCarriage_framer (s : State) (c : Nat) (x : Carriage) : (s.setCarriage c x).framer = s.framer := rfl
@[simp] theorem State.setCarriage_bdc (s : State) (c : Nat) (x : Carriage) : (s.setCarriage c x).bdc = s.bdc := rfl
@[simp] theorem State.setCarriage_relay (s : State) (c : Nat) (x : Carriage) : (s.setCarriage c x).relay = s.relay := rfl
@[simp] theorem State.setCarriage_meter (s : State) (c : Nat) (x : Carriage) : (s.setCarriage c x).meter = s.meter := rfl
@[simp] theorem State.setCarriage_register (s : State) (c : Nat) (x : Carriage) : (s.setCarriage c x).register = s.register := rfl
@[simp] theorem State.setCarriage_hire (s : State) (c : Nat) (x : Carriage) : (s.setCarriage c x).hire = s.hire := rfl
@[simp] theorem State.setCarriage_journal (s : State) (c : Nat) (x : Carriage) : (s.setCarriage c x).journal = s.journal := rfl
@[simp] theorem State.setCarriage_links (s : State) (c : Nat) (x : Carriage) : (s.setCarriage c x).links = s.links := rfl
@[simp] theorem State.setCarriage_resetHeld (s : State) (c : Nat) (x : Carriage) : (s.setCarriage c x).resetHeld = s.resetHeld := rfl
@[simp] theorem State.setCarriage_freeIndex (s : State) (c : Nat) (x : Carriage) : (s.setCarriage c x).freeIndex = s.freeIndex := rfl
@[simp] theorem State.setCarriage_pending (s : State) (c : Nat) (x : Carriage) : (s.setCarriage c x).pending = s.pending := rfl
@[simp] theorem State.setCarriage_arriving (s : State) (c : Nat) (x : Carriage) : (s.setCarriage c x).arriving = s.arriving := rfl

@[simp] theorem State.setRelayRec_straps (s : State) (b : Nat) (x : RelayRec) : (s.setRelayRec b x).straps = s.straps := rfl
@[simp] theorem State.setRelayRec_banks (s : State) (b : Nat) (x : RelayRec) : (s.setRelayRec b x).banks = s.banks := rfl
@[simp] theorem State.setRelayRec_framer (s : State) (b : Nat) (x : RelayRec) : (s.setRelayRec b x).framer = s.framer := rfl
@[simp] theorem State.setRelayRec_mixer (s : State) (b : Nat) (x : RelayRec) : (s.setRelayRec b x).mixer = s.mixer := rfl
@[simp] theorem State.setRelayRec_bdc (s : State) (b : Nat) (x : RelayRec) : (s.setRelayRec b x).bdc = s.bdc := rfl
@[simp] theorem State.setRelayRec_meter (s : State) (b : Nat) (x : RelayRec) : (s.setRelayRec b x).meter = s.meter := rfl
@[simp] theorem State.setRelayRec_register (s : State) (b : Nat) (x : RelayRec) : (s.setRelayRec b x).register = s.register := rfl
@[simp] theorem State.setRelayRec_hire (s : State) (b : Nat) (x : RelayRec) : (s.setRelayRec b x).hire = s.hire := rfl
@[simp] theorem State.setRelayRec_journal (s : State) (b : Nat) (x : RelayRec) : (s.setRelayRec b x).journal = s.journal := rfl
@[simp] theorem State.setRelayRec_links (s : State) (b : Nat) (x : RelayRec) : (s.setRelayRec b x).links = s.links := rfl
@[simp] theorem State.setRelayRec_resetHeld (s : State) (b : Nat) (x : RelayRec) : (s.setRelayRec b x).resetHeld = s.resetHeld := rfl
@[simp] theorem State.setRelayRec_freeIndex (s : State) (b : Nat) (x : RelayRec) : (s.setRelayRec b x).freeIndex = s.freeIndex := rfl
@[simp] theorem State.setRelayRec_pending (s : State) (b : Nat) (x : RelayRec) : (s.setRelayRec b x).pending = s.pending := rfl
@[simp] theorem State.setRelayRec_arriving (s : State) (b : Nat) (x : RelayRec) : (s.setRelayRec b x).arriving = s.arriving := rfl

@[simp] theorem State.setAccount_straps (s : State) (a : Nat) (x : Account) : (s.setAccount a x).straps = s.straps := rfl
@[simp] theorem State.setAccount_banks (s : State) (a : Nat) (x : Account) : (s.setAccount a x).banks = s.banks := rfl
@[simp] theorem State.setAccount_framer (s : State) (a : Nat) (x : Account) : (s.setAccount a x).framer = s.framer := rfl
@[simp] theorem State.setAccount_mixer (s : State) (a : Nat) (x : Account) : (s.setAccount a x).mixer = s.mixer := rfl
@[simp] theorem State.setAccount_bdc (s : State) (a : Nat) (x : Account) : (s.setAccount a x).bdc = s.bdc := rfl
@[simp] theorem State.setAccount_relay (s : State) (a : Nat) (x : Account) : (s.setAccount a x).relay = s.relay := rfl
@[simp] theorem State.setAccount_meter (s : State) (a : Nat) (x : Account) : (s.setAccount a x).meter = s.meter := rfl
@[simp] theorem State.setAccount_register (s : State) (a : Nat) (x : Account) : (s.setAccount a x).register = s.register := rfl
@[simp] theorem State.setAccount_journal (s : State) (a : Nat) (x : Account) : (s.setAccount a x).journal = s.journal := rfl
@[simp] theorem State.setAccount_links (s : State) (a : Nat) (x : Account) : (s.setAccount a x).links = s.links := rfl
@[simp] theorem State.setAccount_resetHeld (s : State) (a : Nat) (x : Account) : (s.setAccount a x).resetHeld = s.resetHeld := rfl
@[simp] theorem State.setAccount_freeIndex (s : State) (a : Nat) (x : Account) : (s.setAccount a x).freeIndex = s.freeIndex := rfl
@[simp] theorem State.setAccount_pending (s : State) (a : Nat) (x : Account) : (s.setAccount a x).pending = s.pending := rfl
@[simp] theorem State.setAccount_arriving (s : State) (a : Nat) (x : Account) : (s.setAccount a x).arriving = s.arriving := rfl

@[simp] theorem State.removeAccount_straps (s : State) (a : Nat) : (s.removeAccount a).straps = s.straps := rfl
@[simp] theorem State.removeAccount_banks (s : State) (a : Nat) : (s.removeAccount a).banks = s.banks := rfl
@[simp] theorem State.removeAccount_framer (s : State) (a : Nat) : (s.removeAccount a).framer = s.framer := rfl
@[simp] theorem State.removeAccount_mixer (s : State) (a : Nat) : (s.removeAccount a).mixer = s.mixer := rfl
@[simp] theorem State.removeAccount_bdc (s : State) (a : Nat) : (s.removeAccount a).bdc = s.bdc := rfl
@[simp] theorem State.removeAccount_relay (s : State) (a : Nat) : (s.removeAccount a).relay = s.relay := rfl
@[simp] theorem State.removeAccount_meter (s : State) (a : Nat) : (s.removeAccount a).meter = s.meter := rfl
@[simp] theorem State.removeAccount_register (s : State) (a : Nat) : (s.removeAccount a).register = s.register := rfl
@[simp] theorem State.removeAccount_journal (s : State) (a : Nat) : (s.removeAccount a).journal = s.journal := rfl
@[simp] theorem State.removeAccount_links (s : State) (a : Nat) : (s.removeAccount a).links = s.links := rfl
@[simp] theorem State.removeAccount_resetHeld (s : State) (a : Nat) : (s.removeAccount a).resetHeld = s.resetHeld := rfl
@[simp] theorem State.removeAccount_freeIndex (s : State) (a : Nat) : (s.removeAccount a).freeIndex = s.freeIndex := rfl
@[simp] theorem State.removeAccount_pending (s : State) (a : Nat) : (s.removeAccount a).pending = s.pending := rfl
@[simp] theorem State.removeAccount_arriving (s : State) (a : Nat) : (s.removeAccount a).arriving = s.arriving := rfl

@[simp] theorem State.setTally_straps (s : State) (x : Tally) : (s.setTally x).straps = s.straps := rfl
@[simp] theorem State.setTally_banks (s : State) (x : Tally) : (s.setTally x).banks = s.banks := rfl
@[simp] theorem State.setTally_framer (s : State) (x : Tally) : (s.setTally x).framer = s.framer := rfl
@[simp] theorem State.setTally_mixer (s : State) (x : Tally) : (s.setTally x).mixer = s.mixer := rfl
@[simp] theorem State.setTally_bdc (s : State) (x : Tally) : (s.setTally x).bdc = s.bdc := rfl
@[simp] theorem State.setTally_relay (s : State) (x : Tally) : (s.setTally x).relay = s.relay := rfl
@[simp] theorem State.setTally_meter (s : State) (x : Tally) : (s.setTally x).meter = s.meter := rfl
@[simp] theorem State.setTally_register (s : State) (x : Tally) : (s.setTally x).register = s.register := rfl
@[simp] theorem State.setTally_journal (s : State) (x : Tally) : (s.setTally x).journal = s.journal := rfl
@[simp] theorem State.setTally_links (s : State) (x : Tally) : (s.setTally x).links = s.links := rfl
@[simp] theorem State.setTally_resetHeld (s : State) (x : Tally) : (s.setTally x).resetHeld = s.resetHeld := rfl
@[simp] theorem State.setTally_freeIndex (s : State) (x : Tally) : (s.setTally x).freeIndex = s.freeIndex := rfl
@[simp] theorem State.setTally_pending (s : State) (x : Tally) : (s.setTally x).pending = s.pending := rfl
@[simp] theorem State.setTally_arriving (s : State) (x : Tally) : (s.setTally x).arriving = s.arriving := rfl

@[simp] theorem State.setSlot_straps (s : State) (k : Nat) (x : Receiver) : (s.setSlot k x).straps = s.straps := rfl
@[simp] theorem State.setSlot_banks (s : State) (k : Nat) (x : Receiver) : (s.setSlot k x).banks = s.banks := rfl
@[simp] theorem State.setSlot_framer (s : State) (k : Nat) (x : Receiver) : (s.setSlot k x).framer = s.framer := rfl
@[simp] theorem State.setSlot_mixer (s : State) (k : Nat) (x : Receiver) : (s.setSlot k x).mixer = s.mixer := rfl
@[simp] theorem State.setSlot_bdc (s : State) (k : Nat) (x : Receiver) : (s.setSlot k x).bdc = s.bdc := rfl
@[simp] theorem State.setSlot_relay (s : State) (k : Nat) (x : Receiver) : (s.setSlot k x).relay = s.relay := rfl
@[simp] theorem State.setSlot_meter (s : State) (k : Nat) (x : Receiver) : (s.setSlot k x).meter = s.meter := rfl
@[simp] theorem State.setSlot_hire (s : State) (k : Nat) (x : Receiver) : (s.setSlot k x).hire = s.hire := rfl
@[simp] theorem State.setSlot_journal (s : State) (k : Nat) (x : Receiver) : (s.setSlot k x).journal = s.journal := rfl
@[simp] theorem State.setSlot_links (s : State) (k : Nat) (x : Receiver) : (s.setSlot k x).links = s.links := rfl
@[simp] theorem State.setSlot_resetHeld (s : State) (k : Nat) (x : Receiver) : (s.setSlot k x).resetHeld = s.resetHeld := rfl
@[simp] theorem State.setSlot_freeIndex (s : State) (k : Nat) (x : Receiver) : (s.setSlot k x).freeIndex = s.freeIndex := rfl
@[simp] theorem State.setSlot_pending (s : State) (k : Nat) (x : Receiver) : (s.setSlot k x).pending = s.pending := rfl
@[simp] theorem State.setSlot_arriving (s : State) (k : Nat) (x : Receiver) : (s.setSlot k x).arriving = s.arriving := rfl

@[simp] theorem State.freeSlot_straps (s : State) (k : Nat) : (s.freeSlot k).straps = s.straps := rfl
@[simp] theorem State.freeSlot_banks (s : State) (k : Nat) : (s.freeSlot k).banks = s.banks := rfl
@[simp] theorem State.freeSlot_framer (s : State) (k : Nat) : (s.freeSlot k).framer = s.framer := rfl
@[simp] theorem State.freeSlot_mixer (s : State) (k : Nat) : (s.freeSlot k).mixer = s.mixer := rfl
@[simp] theorem State.freeSlot_bdc (s : State) (k : Nat) : (s.freeSlot k).bdc = s.bdc := rfl
@[simp] theorem State.freeSlot_relay (s : State) (k : Nat) : (s.freeSlot k).relay = s.relay := rfl
@[simp] theorem State.freeSlot_meter (s : State) (k : Nat) : (s.freeSlot k).meter = s.meter := rfl
@[simp] theorem State.freeSlot_hire (s : State) (k : Nat) : (s.freeSlot k).hire = s.hire := rfl
@[simp] theorem State.freeSlot_journal (s : State) (k : Nat) : (s.freeSlot k).journal = s.journal := rfl
@[simp] theorem State.freeSlot_links (s : State) (k : Nat) : (s.freeSlot k).links = s.links := rfl
@[simp] theorem State.freeSlot_resetHeld (s : State) (k : Nat) : (s.freeSlot k).resetHeld = s.resetHeld := rfl
@[simp] theorem State.freeSlot_freeIndex (s : State) (k : Nat) : (s.freeSlot k).freeIndex = s.freeIndex := rfl
@[simp] theorem State.freeSlot_pending (s : State) (k : Nat) : (s.freeSlot k).pending = s.pending := rfl
@[simp] theorem State.freeSlot_arriving (s : State) (k : Nat) : (s.freeSlot k).arriving = s.arriving := rfl

@[simp] theorem State.setWindow_straps (s : State) (x : Window) : (s.setWindow x).straps = s.straps := rfl
@[simp] theorem State.setWindow_banks (s : State) (x : Window) : (s.setWindow x).banks = s.banks := rfl
@[simp] theorem State.setWindow_framer (s : State) (x : Window) : (s.setWindow x).framer = s.framer := rfl
@[simp] theorem State.setWindow_mixer (s : State) (x : Window) : (s.setWindow x).mixer = s.mixer := rfl
@[simp] theorem State.setWindow_bdc (s : State) (x : Window) : (s.setWindow x).bdc = s.bdc := rfl
@[simp] theorem State.setWindow_relay (s : State) (x : Window) : (s.setWindow x).relay = s.relay := rfl
@[simp] theorem State.setWindow_meter (s : State) (x : Window) : (s.setWindow x).meter = s.meter := rfl
@[simp] theorem State.setWindow_hire (s : State) (x : Window) : (s.setWindow x).hire = s.hire := rfl
@[simp] theorem State.setWindow_journal (s : State) (x : Window) : (s.setWindow x).journal = s.journal := rfl
@[simp] theorem State.setWindow_links (s : State) (x : Window) : (s.setWindow x).links = s.links := rfl
@[simp] theorem State.setWindow_resetHeld (s : State) (x : Window) : (s.setWindow x).resetHeld = s.resetHeld := rfl
@[simp] theorem State.setWindow_freeIndex (s : State) (x : Window) : (s.setWindow x).freeIndex = s.freeIndex := rfl
@[simp] theorem State.setWindow_pending (s : State) (x : Window) : (s.setWindow x).pending = s.pending := rfl
@[simp] theorem State.setWindow_arriving (s : State) (x : Window) : (s.setWindow x).arriving = s.arriving := rfl

@[simp] theorem State.setSitting_straps (s : State) (x : Sitting) : (s.setSitting x).straps = s.straps := rfl
@[simp] theorem State.setSitting_banks (s : State) (x : Sitting) : (s.setSitting x).banks = s.banks := rfl
@[simp] theorem State.setSitting_framer (s : State) (x : Sitting) : (s.setSitting x).framer = s.framer := rfl
@[simp] theorem State.setSitting_mixer (s : State) (x : Sitting) : (s.setSitting x).mixer = s.mixer := rfl
@[simp] theorem State.setSitting_bdc (s : State) (x : Sitting) : (s.setSitting x).bdc = s.bdc := rfl
@[simp] theorem State.setSitting_relay (s : State) (x : Sitting) : (s.setSitting x).relay = s.relay := rfl
@[simp] theorem State.setSitting_register (s : State) (x : Sitting) : (s.setSitting x).register = s.register := rfl
@[simp] theorem State.setSitting_hire (s : State) (x : Sitting) : (s.setSitting x).hire = s.hire := rfl
@[simp] theorem State.setSitting_journal (s : State) (x : Sitting) : (s.setSitting x).journal = s.journal := rfl
@[simp] theorem State.setSitting_links (s : State) (x : Sitting) : (s.setSitting x).links = s.links := rfl
@[simp] theorem State.setSitting_resetHeld (s : State) (x : Sitting) : (s.setSitting x).resetHeld = s.resetHeld := rfl
@[simp] theorem State.setSitting_freeIndex (s : State) (x : Sitting) : (s.setSitting x).freeIndex = s.freeIndex := rfl
@[simp] theorem State.setSitting_pending (s : State) (x : Sitting) : (s.setSitting x).pending = s.pending := rfl
@[simp] theorem State.setSitting_arriving (s : State) (x : Sitting) : (s.setSitting x).arriving = s.arriving := rfl

@[simp] theorem State.setTotals_straps (s : State) (b : Nat) (x : Totals) : (s.setTotals b x).straps = s.straps := rfl
@[simp] theorem State.setTotals_banks (s : State) (b : Nat) (x : Totals) : (s.setTotals b x).banks = s.banks := rfl
@[simp] theorem State.setTotals_framer (s : State) (b : Nat) (x : Totals) : (s.setTotals b x).framer = s.framer := rfl
@[simp] theorem State.setTotals_mixer (s : State) (b : Nat) (x : Totals) : (s.setTotals b x).mixer = s.mixer := rfl
@[simp] theorem State.setTotals_bdc (s : State) (b : Nat) (x : Totals) : (s.setTotals b x).bdc = s.bdc := rfl
@[simp] theorem State.setTotals_relay (s : State) (b : Nat) (x : Totals) : (s.setTotals b x).relay = s.relay := rfl
@[simp] theorem State.setTotals_register (s : State) (b : Nat) (x : Totals) : (s.setTotals b x).register = s.register := rfl
@[simp] theorem State.setTotals_hire (s : State) (b : Nat) (x : Totals) : (s.setTotals b x).hire = s.hire := rfl
@[simp] theorem State.setTotals_journal (s : State) (b : Nat) (x : Totals) : (s.setTotals b x).journal = s.journal := rfl
@[simp] theorem State.setTotals_links (s : State) (b : Nat) (x : Totals) : (s.setTotals b x).links = s.links := rfl
@[simp] theorem State.setTotals_resetHeld (s : State) (b : Nat) (x : Totals) : (s.setTotals b x).resetHeld = s.resetHeld := rfl
@[simp] theorem State.setTotals_freeIndex (s : State) (b : Nat) (x : Totals) : (s.setTotals b x).freeIndex = s.freeIndex := rfl
@[simp] theorem State.setTotals_pending (s : State) (b : Nat) (x : Totals) : (s.setTotals b x).pending = s.pending := rfl
@[simp] theorem State.setTotals_arriving (s : State) (b : Nat) (x : Totals) : (s.setTotals b x).arriving = s.arriving := rfl

@[simp] theorem State.setTurn_straps (s : State) (b : Nat) (x : Turn) : (s.setTurn b x).straps = s.straps := rfl
@[simp] theorem State.setTurn_banks (s : State) (b : Nat) (x : Turn) : (s.setTurn b x).banks = s.banks := rfl
@[simp] theorem State.setTurn_framer (s : State) (b : Nat) (x : Turn) : (s.setTurn b x).framer = s.framer := rfl
@[simp] theorem State.setTurn_mixer (s : State) (b : Nat) (x : Turn) : (s.setTurn b x).mixer = s.mixer := rfl
@[simp] theorem State.setTurn_bdc (s : State) (b : Nat) (x : Turn) : (s.setTurn b x).bdc = s.bdc := rfl
@[simp] theorem State.setTurn_relay (s : State) (b : Nat) (x : Turn) : (s.setTurn b x).relay = s.relay := rfl
@[simp] theorem State.setTurn_register (s : State) (b : Nat) (x : Turn) : (s.setTurn b x).register = s.register := rfl
@[simp] theorem State.setTurn_hire (s : State) (b : Nat) (x : Turn) : (s.setTurn b x).hire = s.hire := rfl
@[simp] theorem State.setTurn_journal (s : State) (b : Nat) (x : Turn) : (s.setTurn b x).journal = s.journal := rfl
@[simp] theorem State.setTurn_links (s : State) (b : Nat) (x : Turn) : (s.setTurn b x).links = s.links := rfl
@[simp] theorem State.setTurn_resetHeld (s : State) (b : Nat) (x : Turn) : (s.setTurn b x).resetHeld = s.resetHeld := rfl
@[simp] theorem State.setTurn_freeIndex (s : State) (b : Nat) (x : Turn) : (s.setTurn b x).freeIndex = s.freeIndex := rfl
@[simp] theorem State.setTurn_pending (s : State) (b : Nat) (x : Turn) : (s.setTurn b x).pending = s.pending := rfl
@[simp] theorem State.setTurn_arriving (s : State) (b : Nat) (x : Turn) : (s.setTurn b x).arriving = s.arriving := rfl

@[simp] theorem State.clearTurn_straps (s : State) (b : Nat) : (s.clearTurn b).straps = s.straps := rfl
@[simp] theorem State.clearTurn_banks (s : State) (b : Nat) : (s.clearTurn b).banks = s.banks := rfl
@[simp] theorem State.clearTurn_framer (s : State) (b : Nat) : (s.clearTurn b).framer = s.framer := rfl
@[simp] theorem State.clearTurn_mixer (s : State) (b : Nat) : (s.clearTurn b).mixer = s.mixer := rfl
@[simp] theorem State.clearTurn_bdc (s : State) (b : Nat) : (s.clearTurn b).bdc = s.bdc := rfl
@[simp] theorem State.clearTurn_relay (s : State) (b : Nat) : (s.clearTurn b).relay = s.relay := rfl
@[simp] theorem State.clearTurn_register (s : State) (b : Nat) : (s.clearTurn b).register = s.register := rfl
@[simp] theorem State.clearTurn_hire (s : State) (b : Nat) : (s.clearTurn b).hire = s.hire := rfl
@[simp] theorem State.clearTurn_journal (s : State) (b : Nat) : (s.clearTurn b).journal = s.journal := rfl
@[simp] theorem State.clearTurn_links (s : State) (b : Nat) : (s.clearTurn b).links = s.links := rfl
@[simp] theorem State.clearTurn_resetHeld (s : State) (b : Nat) : (s.clearTurn b).resetHeld = s.resetHeld := rfl
@[simp] theorem State.clearTurn_freeIndex (s : State) (b : Nat) : (s.clearTurn b).freeIndex = s.freeIndex := rfl
@[simp] theorem State.clearTurn_pending (s : State) (b : Nat) : (s.clearTurn b).pending = s.pending := rfl
@[simp] theorem State.clearTurn_arriving (s : State) (b : Nat) : (s.clearTurn b).arriving = s.arriving := rfl

@[simp] theorem State.setProducer_straps (s : State) (c p : Nat) : (s.setProducer c p).straps = s.straps := rfl
@[simp] theorem State.setProducer_banks (s : State) (c p : Nat) : (s.setProducer c p).banks = s.banks := rfl
@[simp] theorem State.setProducer_framer (s : State) (c p : Nat) : (s.setProducer c p).framer = s.framer := rfl
@[simp] theorem State.setProducer_mixer (s : State) (c p : Nat) : (s.setProducer c p).mixer = s.mixer := rfl
@[simp] theorem State.setProducer_bdc (s : State) (c p : Nat) : (s.setProducer c p).bdc = s.bdc := rfl
@[simp] theorem State.setProducer_meter (s : State) (c p : Nat) : (s.setProducer c p).meter = s.meter := rfl
@[simp] theorem State.setProducer_register (s : State) (c p : Nat) : (s.setProducer c p).register = s.register := rfl
@[simp] theorem State.setProducer_hire (s : State) (c p : Nat) : (s.setProducer c p).hire = s.hire := rfl
@[simp] theorem State.setProducer_journal (s : State) (c p : Nat) : (s.setProducer c p).journal = s.journal := rfl
@[simp] theorem State.setProducer_links (s : State) (c p : Nat) : (s.setProducer c p).links = s.links := rfl
@[simp] theorem State.setProducer_resetHeld (s : State) (c p : Nat) : (s.setProducer c p).resetHeld = s.resetHeld := rfl
@[simp] theorem State.setProducer_freeIndex (s : State) (c p : Nat) : (s.setProducer c p).freeIndex = s.freeIndex := rfl
@[simp] theorem State.setProducer_pending (s : State) (c p : Nat) : (s.setProducer c p).pending = s.pending := rfl
@[simp] theorem State.setProducer_arriving (s : State) (c p : Nat) : (s.setProducer c p).arriving = s.arriving := rfl

@[simp] theorem State.clearProducer_straps (s : State) (c : Nat) : (s.clearProducer c).straps = s.straps := rfl
@[simp] theorem State.clearProducer_banks (s : State) (c : Nat) : (s.clearProducer c).banks = s.banks := rfl
@[simp] theorem State.clearProducer_framer (s : State) (c : Nat) : (s.clearProducer c).framer = s.framer := rfl
@[simp] theorem State.clearProducer_mixer (s : State) (c : Nat) : (s.clearProducer c).mixer = s.mixer := rfl
@[simp] theorem State.clearProducer_bdc (s : State) (c : Nat) : (s.clearProducer c).bdc = s.bdc := rfl
@[simp] theorem State.clearProducer_meter (s : State) (c : Nat) : (s.clearProducer c).meter = s.meter := rfl
@[simp] theorem State.clearProducer_register (s : State) (c : Nat) : (s.clearProducer c).register = s.register := rfl
@[simp] theorem State.clearProducer_hire (s : State) (c : Nat) : (s.clearProducer c).hire = s.hire := rfl
@[simp] theorem State.clearProducer_journal (s : State) (c : Nat) : (s.clearProducer c).journal = s.journal := rfl
@[simp] theorem State.clearProducer_links (s : State) (c : Nat) : (s.clearProducer c).links = s.links := rfl
@[simp] theorem State.clearProducer_resetHeld (s : State) (c : Nat) : (s.clearProducer c).resetHeld = s.resetHeld := rfl
@[simp] theorem State.clearProducer_freeIndex (s : State) (c : Nat) : (s.clearProducer c).freeIndex = s.freeIndex := rfl
@[simp] theorem State.clearProducer_pending (s : State) (c : Nat) : (s.clearProducer c).pending = s.pending := rfl
@[simp] theorem State.clearProducer_arriving (s : State) (c : Nat) : (s.clearProducer c).arriving = s.arriving := rfl

end Sys2Proof.Machine
end

