-- ==== Sys2Proof/Laws/Frames.lean ====
section
/-! SUPPORT. What each shared operation leaves alone: one lemma per operation for each block that it does not touch. -/

namespace Sys2Proof.Machine

/-! ### setFlags: links -/

@[simp] theorem State.setFlags_straps (s : State) (l : MasterLink) (f : FlagSet) : (s.setFlags l f).straps = s.straps := by
  cases l <;> rfl
@[simp] theorem State.setFlags_banks (s : State) (l : MasterLink) (f : FlagSet) : (s.setFlags l f).banks = s.banks := by
  cases l <;> rfl
@[simp] theorem State.setFlags_framer (s : State) (l : MasterLink) (f : FlagSet) : (s.setFlags l f).framer = s.framer := by
  cases l <;> rfl
@[simp] theorem State.setFlags_mixer (s : State) (l : MasterLink) (f : FlagSet) : (s.setFlags l f).mixer = s.mixer := by
  cases l <;> rfl
@[simp] theorem State.setFlags_bdc (s : State) (l : MasterLink) (f : FlagSet) : (s.setFlags l f).bdc = s.bdc := by
  cases l <;> rfl
@[simp] theorem State.setFlags_relay (s : State) (l : MasterLink) (f : FlagSet) : (s.setFlags l f).relay = s.relay := by
  cases l <;> rfl
@[simp] theorem State.setFlags_meter (s : State) (l : MasterLink) (f : FlagSet) : (s.setFlags l f).meter = s.meter := by
  cases l <;> rfl
@[simp] theorem State.setFlags_register (s : State) (l : MasterLink) (f : FlagSet) : (s.setFlags l f).register = s.register := by
  cases l <;> rfl
@[simp] theorem State.setFlags_hire (s : State) (l : MasterLink) (f : FlagSet) : (s.setFlags l f).hire = s.hire := by
  cases l <;> rfl
@[simp] theorem State.setFlags_journal (s : State) (l : MasterLink) (f : FlagSet) : (s.setFlags l f).journal = s.journal := by
  cases l <;> rfl
@[simp] theorem State.setFlags_resetHeld (s : State) (l : MasterLink) (f : FlagSet) : (s.setFlags l f).resetHeld = s.resetHeld := by
  cases l <;> rfl
@[simp] theorem State.setFlags_freeIndex (s : State) (l : MasterLink) (f : FlagSet) : (s.setFlags l f).freeIndex = s.freeIndex := by
  cases l <;> rfl
@[simp] theorem State.setFlags_pending (s : State) (l : MasterLink) (f : FlagSet) : (s.setFlags l f).pending = s.pending := by
  cases l <;> rfl
@[simp] theorem State.setFlags_arriving (s : State) (l : MasterLink) (f : FlagSet) : (s.setFlags l f).arriving = s.arriving := by
  cases l <;> rfl

/-! ### raise: links -/

@[simp] theorem State.raise_straps (s : State) (f : ConsoleFlag) (n : Nat) : (s.raise f n).straps = s.straps := by
  unfold State.raise; simp
@[simp] theorem State.raise_banks (s : State) (f : ConsoleFlag) (n : Nat) : (s.raise f n).banks = s.banks := by
  unfold State.raise; simp
@[simp] theorem State.raise_framer (s : State) (f : ConsoleFlag) (n : Nat) : (s.raise f n).framer = s.framer := by
  unfold State.raise; simp
@[simp] theorem State.raise_mixer (s : State) (f : ConsoleFlag) (n : Nat) : (s.raise f n).mixer = s.mixer := by
  unfold State.raise; simp
@[simp] theorem State.raise_bdc (s : State) (f : ConsoleFlag) (n : Nat) : (s.raise f n).bdc = s.bdc := by
  unfold State.raise; simp
@[simp] theorem State.raise_relay (s : State) (f : ConsoleFlag) (n : Nat) : (s.raise f n).relay = s.relay := by
  unfold State.raise; simp
@[simp] theorem State.raise_meter (s : State) (f : ConsoleFlag) (n : Nat) : (s.raise f n).meter = s.meter := by
  unfold State.raise; simp
@[simp] theorem State.raise_register (s : State) (f : ConsoleFlag) (n : Nat) : (s.raise f n).register = s.register := by
  unfold State.raise; simp
@[simp] theorem State.raise_hire (s : State) (f : ConsoleFlag) (n : Nat) : (s.raise f n).hire = s.hire := by
  unfold State.raise; simp
@[simp] theorem State.raise_journal (s : State) (f : ConsoleFlag) (n : Nat) : (s.raise f n).journal = s.journal := by
  unfold State.raise; simp
@[simp] theorem State.raise_resetHeld (s : State) (f : ConsoleFlag) (n : Nat) : (s.raise f n).resetHeld = s.resetHeld := by
  unfold State.raise; simp
@[simp] theorem State.raise_freeIndex (s : State) (f : ConsoleFlag) (n : Nat) : (s.raise f n).freeIndex = s.freeIndex := by
  unfold State.raise; simp
@[simp] theorem State.raise_pending (s : State) (f : ConsoleFlag) (n : Nat) : (s.raise f n).pending = s.pending := by
  unfold State.raise; simp
@[simp] theorem State.raise_arriving (s : State) (f : ConsoleFlag) (n : Nat) : (s.raise f n).arriving = s.arriving := by
  unfold State.raise; simp

/-! ### raiseCounter: links -/

@[simp] theorem State.raiseCounter_straps (s : State) (f : CounterFlag) (n : Nat) : (s.raiseCounter f n).straps = s.straps := by
  unfold State.raiseCounter; simp
@[simp] theorem State.raiseCounter_banks (s : State) (f : CounterFlag) (n : Nat) : (s.raiseCounter f n).banks = s.banks := by
  unfold State.raiseCounter; simp
@[simp] theorem State.raiseCounter_framer (s : State) (f : CounterFlag) (n : Nat) : (s.raiseCounter f n).framer = s.framer := by
  unfold State.raiseCounter; simp
@[simp] theorem State.raiseCounter_mixer (s : State) (f : CounterFlag) (n : Nat) : (s.raiseCounter f n).mixer = s.mixer := by
  unfold State.raiseCounter; simp
@[simp] theorem State.raiseCounter_bdc (s : State) (f : CounterFlag) (n : Nat) : (s.raiseCounter f n).bdc = s.bdc := by
  unfold State.raiseCounter; simp
@[simp] theorem State.raiseCounter_relay (s : State) (f : CounterFlag) (n : Nat) : (s.raiseCounter f n).relay = s.relay := by
  unfold State.raiseCounter; simp
@[simp] theorem State.raiseCounter_meter (s : State) (f : CounterFlag) (n : Nat) : (s.raiseCounter f n).meter = s.meter := by
  unfold State.raiseCounter; simp
@[simp] theorem State.raiseCounter_register (s : State) (f : CounterFlag) (n : Nat) : (s.raiseCounter f n).register = s.register := by
  unfold State.raiseCounter; simp
@[simp] theorem State.raiseCounter_hire (s : State) (f : CounterFlag) (n : Nat) : (s.raiseCounter f n).hire = s.hire := by
  unfold State.raiseCounter; simp
@[simp] theorem State.raiseCounter_journal (s : State) (f : CounterFlag) (n : Nat) : (s.raiseCounter f n).journal = s.journal := by
  unfold State.raiseCounter; simp
@[simp] theorem State.raiseCounter_resetHeld (s : State) (f : CounterFlag) (n : Nat) : (s.raiseCounter f n).resetHeld = s.resetHeld := by
  unfold State.raiseCounter; simp
@[simp] theorem State.raiseCounter_freeIndex (s : State) (f : CounterFlag) (n : Nat) : (s.raiseCounter f n).freeIndex = s.freeIndex := by
  unfold State.raiseCounter; simp
@[simp] theorem State.raiseCounter_pending (s : State) (f : CounterFlag) (n : Nat) : (s.raiseCounter f n).pending = s.pending := by
  unfold State.raiseCounter; simp
@[simp] theorem State.raiseCounter_arriving (s : State) (f : CounterFlag) (n : Nat) : (s.raiseCounter f n).arriving = s.arriving := by
  unfold State.raiseCounter; simp

/-! ### raiseLevel: links -/

@[simp] theorem State.raiseLevel_straps (s : State) : (s.raiseLevel).straps = s.straps := by
  unfold State.raiseLevel; (repeat' split) <;> simp
@[simp] theorem State.raiseLevel_banks (s : State) : (s.raiseLevel).banks = s.banks := by
  unfold State.raiseLevel; (repeat' split) <;> simp
@[simp] theorem State.raiseLevel_framer (s : State) : (s.raiseLevel).framer = s.framer := by
  unfold State.raiseLevel; (repeat' split) <;> simp
@[simp] theorem State.raiseLevel_mixer (s : State) : (s.raiseLevel).mixer = s.mixer := by
  unfold State.raiseLevel; (repeat' split) <;> simp
@[simp] theorem State.raiseLevel_bdc (s : State) : (s.raiseLevel).bdc = s.bdc := by
  unfold State.raiseLevel; (repeat' split) <;> simp
@[simp] theorem State.raiseLevel_relay (s : State) : (s.raiseLevel).relay = s.relay := by
  unfold State.raiseLevel; (repeat' split) <;> simp
@[simp] theorem State.raiseLevel_meter (s : State) : (s.raiseLevel).meter = s.meter := by
  unfold State.raiseLevel; (repeat' split) <;> simp
@[simp] theorem State.raiseLevel_register (s : State) : (s.raiseLevel).register = s.register := by
  unfold State.raiseLevel; (repeat' split) <;> simp
@[simp] theorem State.raiseLevel_hire (s : State) : (s.raiseLevel).hire = s.hire := by
  unfold State.raiseLevel; (repeat' split) <;> simp
@[simp] theorem State.raiseLevel_journal (s : State) : (s.raiseLevel).journal = s.journal := by
  unfold State.raiseLevel; (repeat' split) <;> simp
@[simp] theorem State.raiseLevel_resetHeld (s : State) : (s.raiseLevel).resetHeld = s.resetHeld := by
  unfold State.raiseLevel; (repeat' split) <;> simp
@[simp] theorem State.raiseLevel_freeIndex (s : State) : (s.raiseLevel).freeIndex = s.freeIndex := by
  unfold State.raiseLevel; (repeat' split) <;> simp
@[simp] theorem State.raiseLevel_pending (s : State) : (s.raiseLevel).pending = s.pending := by
  unfold State.raiseLevel; (repeat' split) <;> simp
@[simp] theorem State.raiseLevel_arriving (s : State) : (s.raiseLevel).arriving = s.arriving := by
  unfold State.raiseLevel; (repeat' split) <;> simp

/-! ### writeEntry: journal, links -/

@[simp] theorem State.writeEntry_straps (s : State) (b : EntryBody) : (s.writeEntry b).straps = s.straps := by
  unfold State.writeEntry; simp
@[simp] theorem State.writeEntry_banks (s : State) (b : EntryBody) : (s.writeEntry b).banks = s.banks := by
  unfold State.writeEntry; simp
@[simp] theorem State.writeEntry_framer (s : State) (b : EntryBody) : (s.writeEntry b).framer = s.framer := by
  unfold State.writeEntry; simp
@[simp] theorem State.writeEntry_mixer (s : State) (b : EntryBody) : (s.writeEntry b).mixer = s.mixer := by
  unfold State.writeEntry; simp
@[simp] theorem State.writeEntry_bdc (s : State) (b : EntryBody) : (s.writeEntry b).bdc = s.bdc := by
  unfold State.writeEntry; simp
@[simp] theorem State.writeEntry_relay (s : State) (b : EntryBody) : (s.writeEntry b).relay = s.relay := by
  unfold State.writeEntry; simp
@[simp] theorem State.writeEntry_meter (s : State) (b : EntryBody) : (s.writeEntry b).meter = s.meter := by
  unfold State.writeEntry; simp
@[simp] theorem State.writeEntry_register (s : State) (b : EntryBody) : (s.writeEntry b).register = s.register := by
  unfold State.writeEntry; simp
@[simp] theorem State.writeEntry_hire (s : State) (b : EntryBody) : (s.writeEntry b).hire = s.hire := by
  unfold State.writeEntry; simp
@[simp] theorem State.writeEntry_resetHeld (s : State) (b : EntryBody) : (s.writeEntry b).resetHeld = s.resetHeld := by
  unfold State.writeEntry; simp
@[simp] theorem State.writeEntry_freeIndex (s : State) (b : EntryBody) : (s.writeEntry b).freeIndex = s.freeIndex := by
  unfold State.writeEntry; simp
@[simp] theorem State.writeEntry_pending (s : State) (b : EntryBody) : (s.writeEntry b).pending = s.pending := by
  unfold State.writeEntry; simp
@[simp] theorem State.writeEntry_arriving (s : State) (b : EntryBody) : (s.writeEntry b).arriving = s.arriving := by
  unfold State.writeEntry; simp

/-! ### handOver: journal, links -/

@[simp] theorem State.handOver_straps (s : State) (b : EntryBody) : (s.handOver b).straps = s.straps := by
  unfold State.handOver; (repeat' split) <;> simp
@[simp] theorem State.handOver_banks (s : State) (b : EntryBody) : (s.handOver b).banks = s.banks := by
  unfold State.handOver; (repeat' split) <;> simp
@[simp] theorem State.handOver_framer (s : State) (b : EntryBody) : (s.handOver b).framer = s.framer := by
  unfold State.handOver; (repeat' split) <;> simp
@[simp] theorem State.handOver_mixer (s : State) (b : EntryBody) : (s.handOver b).mixer = s.mixer := by
  unfold State.handOver; (repeat' split) <;> simp
@[simp] theorem State.handOver_bdc (s : State) (b : EntryBody) : (s.handOver b).bdc = s.bdc := by
  unfold State.handOver; (repeat' split) <;> simp
@[simp] theorem State.handOver_relay (s : State) (b : EntryBody) : (s.handOver b).relay = s.relay := by
  unfold State.handOver; (repeat' split) <;> simp
@[simp] theorem State.handOver_meter (s : State) (b : EntryBody) : (s.handOver b).meter = s.meter := by
  unfold State.handOver; (repeat' split) <;> simp
@[simp] theorem State.handOver_register (s : State) (b : EntryBody) : (s.handOver b).register = s.register := by
  unfold State.handOver; (repeat' split) <;> simp
@[simp] theorem State.handOver_hire (s : State) (b : EntryBody) : (s.handOver b).hire = s.hire := by
  unfold State.handOver; (repeat' split) <;> simp
@[simp] theorem State.handOver_resetHeld (s : State) (b : EntryBody) : (s.handOver b).resetHeld = s.resetHeld := by
  unfold State.handOver; (repeat' split) <;> simp
@[simp] theorem State.handOver_freeIndex (s : State) (b : EntryBody) : (s.handOver b).freeIndex = s.freeIndex := by
  unfold State.handOver; (repeat' split) <;> simp
@[simp] theorem State.handOver_pending (s : State) (b : EntryBody) : (s.handOver b).pending = s.pending := by
  unfold State.handOver; (repeat' split) <;> simp
@[simp] theorem State.handOver_arriving (s : State) (b : EntryBody) : (s.handOver b).arriving = s.arriving := by
  unfold State.handOver; (repeat' split) <;> simp

/-! ### openTurn: meter -/

@[simp] theorem State.openTurn_straps (s : State) (b d c : Nat) : (s.openTurn b d c).straps = s.straps := by
  unfold State.openTurn; (repeat' split) <;> simp
@[simp] theorem State.openTurn_banks (s : State) (b d c : Nat) : (s.openTurn b d c).banks = s.banks := by
  unfold State.openTurn; (repeat' split) <;> simp
@[simp] theorem State.openTurn_framer (s : State) (b d c : Nat) : (s.openTurn b d c).framer = s.framer := by
  unfold State.openTurn; (repeat' split) <;> simp
@[simp] theorem State.openTurn_mixer (s : State) (b d c : Nat) : (s.openTurn b d c).mixer = s.mixer := by
  unfold State.openTurn; (repeat' split) <;> simp
@[simp] theorem State.openTurn_bdc (s : State) (b d c : Nat) : (s.openTurn b d c).bdc = s.bdc := by
  unfold State.openTurn; (repeat' split) <;> simp
@[simp] theorem State.openTurn_relay (s : State) (b d c : Nat) : (s.openTurn b d c).relay = s.relay := by
  unfold State.openTurn; (repeat' split) <;> simp
@[simp] theorem State.openTurn_register (s : State) (b d c : Nat) : (s.openTurn b d c).register = s.register := by
  unfold State.openTurn; (repeat' split) <;> simp
@[simp] theorem State.openTurn_hire (s : State) (b d c : Nat) : (s.openTurn b d c).hire = s.hire := by
  unfold State.openTurn; (repeat' split) <;> simp
@[simp] theorem State.openTurn_journal (s : State) (b d c : Nat) : (s.openTurn b d c).journal = s.journal := by
  unfold State.openTurn; (repeat' split) <;> simp
@[simp] theorem State.openTurn_links (s : State) (b d c : Nat) : (s.openTurn b d c).links = s.links := by
  unfold State.openTurn; (repeat' split) <;> simp
@[simp] theorem State.openTurn_resetHeld (s : State) (b d c : Nat) : (s.openTurn b d c).resetHeld = s.resetHeld := by
  unfold State.openTurn; (repeat' split) <;> simp
@[simp] theorem State.openTurn_freeIndex (s : State) (b d c : Nat) : (s.openTurn b d c).freeIndex = s.freeIndex := by
  unfold State.openTurn; (repeat' split) <;> simp
@[simp] theorem State.openTurn_pending (s : State) (b d c : Nat) : (s.openTurn b d c).pending = s.pending := by
  unfold State.openTurn; (repeat' split) <;> simp
@[simp] theorem State.openTurn_arriving (s : State) (b d c : Nat) : (s.openTurn b d c).arriving = s.arriving := by
  unfold State.openTurn; (repeat' split) <;> simp

/-! ### retireTurn: meter -/

@[simp] theorem State.retireTurn_straps (s : State) (b : Nat) : (s.retireTurn b).straps = s.straps := by
  unfold State.retireTurn; simp
@[simp] theorem State.retireTurn_banks (s : State) (b : Nat) : (s.retireTurn b).banks = s.banks := by
  unfold State.retireTurn; simp
@[simp] theorem State.retireTurn_framer (s : State) (b : Nat) : (s.retireTurn b).framer = s.framer := by
  unfold State.retireTurn; simp
@[simp] theorem State.retireTurn_mixer (s : State) (b : Nat) : (s.retireTurn b).mixer = s.mixer := by
  unfold State.retireTurn; simp
@[simp] theorem State.retireTurn_bdc (s : State) (b : Nat) : (s.retireTurn b).bdc = s.bdc := by
  unfold State.retireTurn; simp
@[simp] theorem State.retireTurn_relay (s : State) (b : Nat) : (s.retireTurn b).relay = s.relay := by
  unfold State.retireTurn; simp
@[simp] theorem State.retireTurn_register (s : State) (b : Nat) : (s.retireTurn b).register = s.register := by
  unfold State.retireTurn; simp
@[simp] theorem State.retireTurn_hire (s : State) (b : Nat) : (s.retireTurn b).hire = s.hire := by
  unfold State.retireTurn; simp
@[simp] theorem State.retireTurn_journal (s : State) (b : Nat) : (s.retireTurn b).journal = s.journal := by
  unfold State.retireTurn; simp
@[simp] theorem State.retireTurn_links (s : State) (b : Nat) : (s.retireTurn b).links = s.links := by
  unfold State.retireTurn; simp
@[simp] theorem State.retireTurn_resetHeld (s : State) (b : Nat) : (s.retireTurn b).resetHeld = s.resetHeld := by
  unfold State.retireTurn; simp
@[simp] theorem State.retireTurn_freeIndex (s : State) (b : Nat) : (s.retireTurn b).freeIndex = s.freeIndex := by
  unfold State.retireTurn; simp
@[simp] theorem State.retireTurn_pending (s : State) (b : Nat) : (s.retireTurn b).pending = s.pending := by
  unfold State.retireTurn; simp
@[simp] theorem State.retireTurn_arriving (s : State) (b : Nat) : (s.retireTurn b).arriving = s.arriving := by
  unfold State.retireTurn; simp

/-! ### foldTurn: meter -/

@[simp] theorem State.foldTurn_straps (s : State) (b : Nat) (t : Turn) : (s.foldTurn b t).straps = s.straps := by
  unfold State.foldTurn; simp
@[simp] theorem State.foldTurn_banks (s : State) (b : Nat) (t : Turn) : (s.foldTurn b t).banks = s.banks := by
  unfold State.foldTurn; simp
@[simp] theorem State.foldTurn_framer (s : State) (b : Nat) (t : Turn) : (s.foldTurn b t).framer = s.framer := by
  unfold State.foldTurn; simp
@[simp] theorem State.foldTurn_mixer (s : State) (b : Nat) (t : Turn) : (s.foldTurn b t).mixer = s.mixer := by
  unfold State.foldTurn; simp
@[simp] theorem State.foldTurn_bdc (s : State) (b : Nat) (t : Turn) : (s.foldTurn b t).bdc = s.bdc := by
  unfold State.foldTurn; simp
@[simp] theorem State.foldTurn_relay (s : State) (b : Nat) (t : Turn) : (s.foldTurn b t).relay = s.relay := by
  unfold State.foldTurn; simp
@[simp] theorem State.foldTurn_register (s : State) (b : Nat) (t : Turn) : (s.foldTurn b t).register = s.register := by
  unfold State.foldTurn; simp
@[simp] theorem State.foldTurn_hire (s : State) (b : Nat) (t : Turn) : (s.foldTurn b t).hire = s.hire := by
  unfold State.foldTurn; simp
@[simp] theorem State.foldTurn_journal (s : State) (b : Nat) (t : Turn) : (s.foldTurn b t).journal = s.journal := by
  unfold State.foldTurn; simp
@[simp] theorem State.foldTurn_links (s : State) (b : Nat) (t : Turn) : (s.foldTurn b t).links = s.links := by
  unfold State.foldTurn; simp
@[simp] theorem State.foldTurn_resetHeld (s : State) (b : Nat) (t : Turn) : (s.foldTurn b t).resetHeld = s.resetHeld := by
  unfold State.foldTurn; simp
@[simp] theorem State.foldTurn_freeIndex (s : State) (b : Nat) (t : Turn) : (s.foldTurn b t).freeIndex = s.freeIndex := by
  unfold State.foldTurn; simp
@[simp] theorem State.foldTurn_pending (s : State) (b : Nat) (t : Turn) : (s.foldTurn b t).pending = s.pending := by
  unfold State.foldTurn; simp
@[simp] theorem State.foldTurn_arriving (s : State) (b : Nat) (t : Turn) : (s.foldTurn b t).arriving = s.arriving := by
  unfold State.foldTurn; simp

/-! ### endTurn: meter, journal, links -/

@[simp] theorem State.endTurn_straps (s : State) (b : Nat) (t : Turn) (r : Reason) : (s.endTurn b t r).straps = s.straps := by
  unfold State.endTurn; (repeat' split) <;> simp
@[simp] theorem State.endTurn_banks (s : State) (b : Nat) (t : Turn) (r : Reason) : (s.endTurn b t r).banks = s.banks := by
  unfold State.endTurn; (repeat' split) <;> simp
@[simp] theorem State.endTurn_framer (s : State) (b : Nat) (t : Turn) (r : Reason) : (s.endTurn b t r).framer = s.framer := by
  unfold State.endTurn; (repeat' split) <;> simp
@[simp] theorem State.endTurn_mixer (s : State) (b : Nat) (t : Turn) (r : Reason) : (s.endTurn b t r).mixer = s.mixer := by
  unfold State.endTurn; (repeat' split) <;> simp
@[simp] theorem State.endTurn_bdc (s : State) (b : Nat) (t : Turn) (r : Reason) : (s.endTurn b t r).bdc = s.bdc := by
  unfold State.endTurn; (repeat' split) <;> simp
@[simp] theorem State.endTurn_relay (s : State) (b : Nat) (t : Turn) (r : Reason) : (s.endTurn b t r).relay = s.relay := by
  unfold State.endTurn; (repeat' split) <;> simp
@[simp] theorem State.endTurn_register (s : State) (b : Nat) (t : Turn) (r : Reason) : (s.endTurn b t r).register = s.register := by
  unfold State.endTurn; (repeat' split) <;> simp
@[simp] theorem State.endTurn_hire (s : State) (b : Nat) (t : Turn) (r : Reason) : (s.endTurn b t r).hire = s.hire := by
  unfold State.endTurn; (repeat' split) <;> simp
@[simp] theorem State.endTurn_resetHeld (s : State) (b : Nat) (t : Turn) (r : Reason) : (s.endTurn b t r).resetHeld = s.resetHeld := by
  unfold State.endTurn; (repeat' split) <;> simp
@[simp] theorem State.endTurn_freeIndex (s : State) (b : Nat) (t : Turn) (r : Reason) : (s.endTurn b t r).freeIndex = s.freeIndex := by
  unfold State.endTurn; (repeat' split) <;> simp
@[simp] theorem State.endTurn_pending (s : State) (b : Nat) (t : Turn) (r : Reason) : (s.endTurn b t r).pending = s.pending := by
  unfold State.endTurn; (repeat' split) <;> simp
@[simp] theorem State.endTurn_arriving (s : State) (b : Nat) (t : Turn) (r : Reason) : (s.endTurn b t r).arriving = s.arriving := by
  unfold State.endTurn; (repeat' split) <;> simp

/-! ### closeTurn: meter, journal, links -/

@[simp] theorem State.closeTurn_straps (s : State) (b : Nat) (r : Reason) : (s.closeTurn b r).straps = s.straps := by
  unfold State.closeTurn; (repeat' split) <;> simp
@[simp] theorem State.closeTurn_banks (s : State) (b : Nat) (r : Reason) : (s.closeTurn b r).banks = s.banks := by
  unfold State.closeTurn; (repeat' split) <;> simp
@[simp] theorem State.closeTurn_framer (s : State) (b : Nat) (r : Reason) : (s.closeTurn b r).framer = s.framer := by
  unfold State.closeTurn; (repeat' split) <;> simp
@[simp] theorem State.closeTurn_mixer (s : State) (b : Nat) (r : Reason) : (s.closeTurn b r).mixer = s.mixer := by
  unfold State.closeTurn; (repeat' split) <;> simp
@[simp] theorem State.closeTurn_bdc (s : State) (b : Nat) (r : Reason) : (s.closeTurn b r).bdc = s.bdc := by
  unfold State.closeTurn; (repeat' split) <;> simp
@[simp] theorem State.closeTurn_relay (s : State) (b : Nat) (r : Reason) : (s.closeTurn b r).relay = s.relay := by
  unfold State.closeTurn; (repeat' split) <;> simp
@[simp] theorem State.closeTurn_register (s : State) (b : Nat) (r : Reason) : (s.closeTurn b r).register = s.register := by
  unfold State.closeTurn; (repeat' split) <;> simp
@[simp] theorem State.closeTurn_hire (s : State) (b : Nat) (r : Reason) : (s.closeTurn b r).hire = s.hire := by
  unfold State.closeTurn; (repeat' split) <;> simp
@[simp] theorem State.closeTurn_resetHeld (s : State) (b : Nat) (r : Reason) : (s.closeTurn b r).resetHeld = s.resetHeld := by
  unfold State.closeTurn; (repeat' split) <;> simp
@[simp] theorem State.closeTurn_freeIndex (s : State) (b : Nat) (r : Reason) : (s.closeTurn b r).freeIndex = s.freeIndex := by
  unfold State.closeTurn; (repeat' split) <;> simp
@[simp] theorem State.closeTurn_pending (s : State) (b : Nat) (r : Reason) : (s.closeTurn b r).pending = s.pending := by
  unfold State.closeTurn; (repeat' split) <;> simp
@[simp] theorem State.closeTurn_arriving (s : State) (b : Nat) (r : Reason) : (s.closeTurn b r).arriving = s.arriving := by
  unfold State.closeTurn; (repeat' split) <;> simp

/-! ### sweep: register, links -/

@[simp] theorem State.sweep_straps (s : State) : (s.sweep).straps = s.straps := by
  unfold State.sweep; simp
@[simp] theorem State.sweep_banks (s : State) : (s.sweep).banks = s.banks := by
  unfold State.sweep; simp
@[simp] theorem State.sweep_framer (s : State) : (s.sweep).framer = s.framer := by
  unfold State.sweep; simp
@[simp] theorem State.sweep_mixer (s : State) : (s.sweep).mixer = s.mixer := by
  unfold State.sweep; simp
@[simp] theorem State.sweep_bdc (s : State) : (s.sweep).bdc = s.bdc := by
  unfold State.sweep; simp
@[simp] theorem State.sweep_relay (s : State) : (s.sweep).relay = s.relay := by
  unfold State.sweep; simp
@[simp] theorem State.sweep_meter (s : State) : (s.sweep).meter = s.meter := by
  unfold State.sweep; simp
@[simp] theorem State.sweep_hire (s : State) : (s.sweep).hire = s.hire := by
  unfold State.sweep; simp
@[simp] theorem State.sweep_journal (s : State) : (s.sweep).journal = s.journal := by
  unfold State.sweep; simp
@[simp] theorem State.sweep_resetHeld (s : State) : (s.sweep).resetHeld = s.resetHeld := by
  unfold State.sweep; simp
@[simp] theorem State.sweep_freeIndex (s : State) : (s.sweep).freeIndex = s.freeIndex := by
  unfold State.sweep; simp
@[simp] theorem State.sweep_pending (s : State) : (s.sweep).pending = s.pending := by
  unfold State.sweep; simp
@[simp] theorem State.sweep_arriving (s : State) : (s.sweep).arriving = s.arriving := by
  unfold State.sweep; simp

/-! ### startGrace: register, links, meter -/

@[simp] theorem State.startGrace_straps (s : State) : (s.startGrace).straps = s.straps := by
  unfold State.startGrace; (repeat' split) <;> simp
@[simp] theorem State.startGrace_banks (s : State) : (s.startGrace).banks = s.banks := by
  unfold State.startGrace; (repeat' split) <;> simp
@[simp] theorem State.startGrace_framer (s : State) : (s.startGrace).framer = s.framer := by
  unfold State.startGrace; (repeat' split) <;> simp
@[simp] theorem State.startGrace_mixer (s : State) : (s.startGrace).mixer = s.mixer := by
  unfold State.startGrace; (repeat' split) <;> simp
@[simp] theorem State.startGrace_bdc (s : State) : (s.startGrace).bdc = s.bdc := by
  unfold State.startGrace; (repeat' split) <;> simp
@[simp] theorem State.startGrace_relay (s : State) : (s.startGrace).relay = s.relay := by
  unfold State.startGrace; (repeat' split) <;> simp
@[simp] theorem State.startGrace_hire (s : State) : (s.startGrace).hire = s.hire := by
  unfold State.startGrace; (repeat' split) <;> simp
@[simp] theorem State.startGrace_journal (s : State) : (s.startGrace).journal = s.journal := by
  unfold State.startGrace; (repeat' split) <;> simp
@[simp] theorem State.startGrace_resetHeld (s : State) : (s.startGrace).resetHeld = s.resetHeld := by
  unfold State.startGrace; (repeat' split) <;> simp
@[simp] theorem State.startGrace_freeIndex (s : State) : (s.startGrace).freeIndex = s.freeIndex := by
  unfold State.startGrace; (repeat' split) <;> simp
@[simp] theorem State.startGrace_pending (s : State) : (s.startGrace).pending = s.pending := by
  unfold State.startGrace; (repeat' split) <;> simp
@[simp] theorem State.startGrace_arriving (s : State) : (s.startGrace).arriving = s.arriving := by
  unfold State.startGrace; (repeat' split) <;> simp

/-! ### closeRecord: meter -/

@[simp] theorem State.closeRecord_straps (s : State) : (s.closeRecord).straps = s.straps := by
  unfold State.closeRecord; simp
@[simp] theorem State.closeRecord_banks (s : State) : (s.closeRecord).banks = s.banks := by
  unfold State.closeRecord; simp
@[simp] theorem State.closeRecord_framer (s : State) : (s.closeRecord).framer = s.framer := by
  unfold State.closeRecord; simp
@[simp] theorem State.closeRecord_mixer (s : State) : (s.closeRecord).mixer = s.mixer := by
  unfold State.closeRecord; simp
@[simp] theorem State.closeRecord_bdc (s : State) : (s.closeRecord).bdc = s.bdc := by
  unfold State.closeRecord; simp
@[simp] theorem State.closeRecord_relay (s : State) : (s.closeRecord).relay = s.relay := by
  unfold State.closeRecord; simp
@[simp] theorem State.closeRecord_register (s : State) : (s.closeRecord).register = s.register := by
  unfold State.closeRecord; simp
@[simp] theorem State.closeRecord_hire (s : State) : (s.closeRecord).hire = s.hire := by
  unfold State.closeRecord; simp
@[simp] theorem State.closeRecord_journal (s : State) : (s.closeRecord).journal = s.journal := by
  unfold State.closeRecord; simp
@[simp] theorem State.closeRecord_links (s : State) : (s.closeRecord).links = s.links := by
  unfold State.closeRecord; simp
@[simp] theorem State.closeRecord_resetHeld (s : State) : (s.closeRecord).resetHeld = s.resetHeld := by
  unfold State.closeRecord; simp
@[simp] theorem State.closeRecord_freeIndex (s : State) : (s.closeRecord).freeIndex = s.freeIndex := by
  unfold State.closeRecord; simp
@[simp] theorem State.closeRecord_pending (s : State) : (s.closeRecord).pending = s.pending := by
  unfold State.closeRecord; simp
@[simp] theorem State.closeRecord_arriving (s : State) : (s.closeRecord).arriving = s.arriving := by
  unfold State.closeRecord; simp

/-! ### handSitting: journal, links -/

@[simp] theorem State.handSitting_straps (s : State) : (s.handSitting).straps = s.straps := by
  unfold State.handSitting; simp
@[simp] theorem State.handSitting_banks (s : State) : (s.handSitting).banks = s.banks := by
  unfold State.handSitting; simp
@[simp] theorem State.handSitting_framer (s : State) : (s.handSitting).framer = s.framer := by
  unfold State.handSitting; simp
@[simp] theorem State.handSitting_mixer (s : State) : (s.handSitting).mixer = s.mixer := by
  unfold State.handSitting; simp
@[simp] theorem State.handSitting_bdc (s : State) : (s.handSitting).bdc = s.bdc := by
  unfold State.handSitting; simp
@[simp] theorem State.handSitting_relay (s : State) : (s.handSitting).relay = s.relay := by
  unfold State.handSitting; simp
@[simp] theorem State.handSitting_meter (s : State) : (s.handSitting).meter = s.meter := by
  unfold State.handSitting; simp
@[simp] theorem State.handSitting_register (s : State) : (s.handSitting).register = s.register := by
  unfold State.handSitting; simp
@[simp] theorem State.handSitting_hire (s : State) : (s.handSitting).hire = s.hire := by
  unfold State.handSitting; simp
@[simp] theorem State.handSitting_resetHeld (s : State) : (s.handSitting).resetHeld = s.resetHeld := by
  unfold State.handSitting; simp
@[simp] theorem State.handSitting_freeIndex (s : State) : (s.handSitting).freeIndex = s.freeIndex := by
  unfold State.handSitting; simp
@[simp] theorem State.handSitting_pending (s : State) : (s.handSitting).pending = s.pending := by
  unfold State.handSitting; simp
@[simp] theorem State.handSitting_arriving (s : State) : (s.handSitting).arriving = s.arriving := by
  unfold State.handSitting; simp

/-! ### advanceRamps: mixer -/

@[simp] theorem State.advanceRamps_straps (s : State) : (s.advanceRamps).straps = s.straps := by
  unfold State.advanceRamps; simp
@[simp] theorem State.advanceRamps_banks (s : State) : (s.advanceRamps).banks = s.banks := by
  unfold State.advanceRamps; simp
@[simp] theorem State.advanceRamps_framer (s : State) : (s.advanceRamps).framer = s.framer := by
  unfold State.advanceRamps; simp
@[simp] theorem State.advanceRamps_bdc (s : State) : (s.advanceRamps).bdc = s.bdc := by
  unfold State.advanceRamps; simp
@[simp] theorem State.advanceRamps_relay (s : State) : (s.advanceRamps).relay = s.relay := by
  unfold State.advanceRamps; simp
@[simp] theorem State.advanceRamps_meter (s : State) : (s.advanceRamps).meter = s.meter := by
  unfold State.advanceRamps; simp
@[simp] theorem State.advanceRamps_register (s : State) : (s.advanceRamps).register = s.register := by
  unfold State.advanceRamps; simp
@[simp] theorem State.advanceRamps_hire (s : State) : (s.advanceRamps).hire = s.hire := by
  unfold State.advanceRamps; simp
@[simp] theorem State.advanceRamps_journal (s : State) : (s.advanceRamps).journal = s.journal := by
  unfold State.advanceRamps; simp
@[simp] theorem State.advanceRamps_links (s : State) : (s.advanceRamps).links = s.links := by
  unfold State.advanceRamps; simp
@[simp] theorem State.advanceRamps_resetHeld (s : State) : (s.advanceRamps).resetHeld = s.resetHeld := by
  unfold State.advanceRamps; simp
@[simp] theorem State.advanceRamps_freeIndex (s : State) : (s.advanceRamps).freeIndex = s.freeIndex := by
  unfold State.advanceRamps; simp
@[simp] theorem State.advanceRamps_pending (s : State) : (s.advanceRamps).pending = s.pending := by
  unfold State.advanceRamps; simp
@[simp] theorem State.advanceRamps_arriving (s : State) : (s.advanceRamps).arriving = s.arriving := by
  unfold State.advanceRamps; simp

/-! ### dropRamps: mixer -/

@[simp] theorem State.dropRamps_straps (s : State) : (s.dropRamps).straps = s.straps := by
  unfold State.dropRamps; simp
@[simp] theorem State.dropRamps_banks (s : State) : (s.dropRamps).banks = s.banks := by
  unfold State.dropRamps; simp
@[simp] theorem State.dropRamps_framer (s : State) : (s.dropRamps).framer = s.framer := by
  unfold State.dropRamps; simp
@[simp] theorem State.dropRamps_bdc (s : State) : (s.dropRamps).bdc = s.bdc := by
  unfold State.dropRamps; simp
@[simp] theorem State.dropRamps_relay (s : State) : (s.dropRamps).relay = s.relay := by
  unfold State.dropRamps; simp
@[simp] theorem State.dropRamps_meter (s : State) : (s.dropRamps).meter = s.meter := by
  unfold State.dropRamps; simp
@[simp] theorem State.dropRamps_register (s : State) : (s.dropRamps).register = s.register := by
  unfold State.dropRamps; simp
@[simp] theorem State.dropRamps_hire (s : State) : (s.dropRamps).hire = s.hire := by
  unfold State.dropRamps; simp
@[simp] theorem State.dropRamps_journal (s : State) : (s.dropRamps).journal = s.journal := by
  unfold State.dropRamps; simp
@[simp] theorem State.dropRamps_links (s : State) : (s.dropRamps).links = s.links := by
  unfold State.dropRamps; simp
@[simp] theorem State.dropRamps_resetHeld (s : State) : (s.dropRamps).resetHeld = s.resetHeld := by
  unfold State.dropRamps; simp
@[simp] theorem State.dropRamps_freeIndex (s : State) : (s.dropRamps).freeIndex = s.freeIndex := by
  unfold State.dropRamps; simp
@[simp] theorem State.dropRamps_pending (s : State) : (s.dropRamps).pending = s.pending := by
  unfold State.dropRamps; simp
@[simp] theorem State.dropRamps_arriving (s : State) : (s.dropRamps).arriving = s.arriving := by
  unfold State.dropRamps; simp

/-! ### mixGrant: mixer -/

@[simp] theorem State.mixGrant_straps (s : State) (c : Nat) (w : DeskId) : (s.mixGrant c w).straps = s.straps := by
  unfold State.mixGrant; simp
@[simp] theorem State.mixGrant_banks (s : State) (c : Nat) (w : DeskId) : (s.mixGrant c w).banks = s.banks := by
  unfold State.mixGrant; simp
@[simp] theorem State.mixGrant_framer (s : State) (c : Nat) (w : DeskId) : (s.mixGrant c w).framer = s.framer := by
  unfold State.mixGrant; simp
@[simp] theorem State.mixGrant_bdc (s : State) (c : Nat) (w : DeskId) : (s.mixGrant c w).bdc = s.bdc := by
  unfold State.mixGrant; simp
@[simp] theorem State.mixGrant_relay (s : State) (c : Nat) (w : DeskId) : (s.mixGrant c w).relay = s.relay := by
  unfold State.mixGrant; simp
@[simp] theorem State.mixGrant_meter (s : State) (c : Nat) (w : DeskId) : (s.mixGrant c w).meter = s.meter := by
  unfold State.mixGrant; simp
@[simp] theorem State.mixGrant_register (s : State) (c : Nat) (w : DeskId) : (s.mixGrant c w).register = s.register := by
  unfold State.mixGrant; simp
@[simp] theorem State.mixGrant_hire (s : State) (c : Nat) (w : DeskId) : (s.mixGrant c w).hire = s.hire := by
  unfold State.mixGrant; simp
@[simp] theorem State.mixGrant_journal (s : State) (c : Nat) (w : DeskId) : (s.mixGrant c w).journal = s.journal := by
  unfold State.mixGrant; simp
@[simp] theorem State.mixGrant_links (s : State) (c : Nat) (w : DeskId) : (s.mixGrant c w).links = s.links := by
  unfold State.mixGrant; simp
@[simp] theorem State.mixGrant_resetHeld (s : State) (c : Nat) (w : DeskId) : (s.mixGrant c w).resetHeld = s.resetHeld := by
  unfold State.mixGrant; simp
@[simp] theorem State.mixGrant_freeIndex (s : State) (c : Nat) (w : DeskId) : (s.mixGrant c w).freeIndex = s.freeIndex := by
  unfold State.mixGrant; simp
@[simp] theorem State.mixGrant_pending (s : State) (c : Nat) (w : DeskId) : (s.mixGrant c w).pending = s.pending := by
  unfold State.mixGrant; simp
@[simp] theorem State.mixGrant_arriving (s : State) (c : Nat) (w : DeskId) : (s.mixGrant c w).arriving = s.arriving := by
  unfold State.mixGrant; simp

/-! ### mixRelease: mixer -/

@[simp] theorem State.mixRelease_straps (s : State) (c : Nat) : (s.mixRelease c).straps = s.straps := by
  unfold State.mixRelease; simp
@[simp] theorem State.mixRelease_banks (s : State) (c : Nat) : (s.mixRelease c).banks = s.banks := by
  unfold State.mixRelease; simp
@[simp] theorem State.mixRelease_framer (s : State) (c : Nat) : (s.mixRelease c).framer = s.framer := by
  unfold State.mixRelease; simp
@[simp] theorem State.mixRelease_bdc (s : State) (c : Nat) : (s.mixRelease c).bdc = s.bdc := by
  unfold State.mixRelease; simp
@[simp] theorem State.mixRelease_relay (s : State) (c : Nat) : (s.mixRelease c).relay = s.relay := by
  unfold State.mixRelease; simp
@[simp] theorem State.mixRelease_meter (s : State) (c : Nat) : (s.mixRelease c).meter = s.meter := by
  unfold State.mixRelease; simp
@[simp] theorem State.mixRelease_register (s : State) (c : Nat) : (s.mixRelease c).register = s.register := by
  unfold State.mixRelease; simp
@[simp] theorem State.mixRelease_hire (s : State) (c : Nat) : (s.mixRelease c).hire = s.hire := by
  unfold State.mixRelease; simp
@[simp] theorem State.mixRelease_journal (s : State) (c : Nat) : (s.mixRelease c).journal = s.journal := by
  unfold State.mixRelease; simp
@[simp] theorem State.mixRelease_links (s : State) (c : Nat) : (s.mixRelease c).links = s.links := by
  unfold State.mixRelease; simp
@[simp] theorem State.mixRelease_resetHeld (s : State) (c : Nat) : (s.mixRelease c).resetHeld = s.resetHeld := by
  unfold State.mixRelease; simp
@[simp] theorem State.mixRelease_freeIndex (s : State) (c : Nat) : (s.mixRelease c).freeIndex = s.freeIndex := by
  unfold State.mixRelease; simp
@[simp] theorem State.mixRelease_pending (s : State) (c : Nat) : (s.mixRelease c).pending = s.pending := by
  unfold State.mixRelease; simp
@[simp] theorem State.mixRelease_arriving (s : State) (c : Nat) : (s.mixRelease c).arriving = s.arriving := by
  unfold State.mixRelease; simp

/-! ### mixHandover: mixer -/

@[simp] theorem State.mixHandover_straps (s : State) (c : Nat) (v w : DeskId) : (s.mixHandover c v w).straps = s.straps := by
  unfold State.mixHandover; simp
@[simp] theorem State.mixHandover_banks (s : State) (c : Nat) (v w : DeskId) : (s.mixHandover c v w).banks = s.banks := by
  unfold State.mixHandover; simp
@[simp] theorem State.mixHandover_framer (s : State) (c : Nat) (v w : DeskId) : (s.mixHandover c v w).framer = s.framer := by
  unfold State.mixHandover; simp
@[simp] theorem State.mixHandover_bdc (s : State) (c : Nat) (v w : DeskId) : (s.mixHandover c v w).bdc = s.bdc := by
  unfold State.mixHandover; simp
@[simp] theorem State.mixHandover_relay (s : State) (c : Nat) (v w : DeskId) : (s.mixHandover c v w).relay = s.relay := by
  unfold State.mixHandover; simp
@[simp] theorem State.mixHandover_meter (s : State) (c : Nat) (v w : DeskId) : (s.mixHandover c v w).meter = s.meter := by
  unfold State.mixHandover; simp
@[simp] theorem State.mixHandover_register (s : State) (c : Nat) (v w : DeskId) : (s.mixHandover c v w).register = s.register := by
  unfold State.mixHandover; simp
@[simp] theorem State.mixHandover_hire (s : State) (c : Nat) (v w : DeskId) : (s.mixHandover c v w).hire = s.hire := by
  unfold State.mixHandover; simp
@[simp] theorem State.mixHandover_journal (s : State) (c : Nat) (v w : DeskId) : (s.mixHandover c v w).journal = s.journal := by
  unfold State.mixHandover; simp
@[simp] theorem State.mixHandover_links (s : State) (c : Nat) (v w : DeskId) : (s.mixHandover c v w).links = s.links := by
  unfold State.mixHandover; simp
@[simp] theorem State.mixHandover_resetHeld (s : State) (c : Nat) (v w : DeskId) : (s.mixHandover c v w).resetHeld = s.resetHeld := by
  unfold State.mixHandover; simp
@[simp] theorem State.mixHandover_freeIndex (s : State) (c : Nat) (v w : DeskId) : (s.mixHandover c v w).freeIndex = s.freeIndex := by
  unfold State.mixHandover; simp
@[simp] theorem State.mixHandover_pending (s : State) (c : Nat) (v w : DeskId) : (s.mixHandover c v w).pending = s.pending := by
  unfold State.mixHandover; simp
@[simp] theorem State.mixHandover_arriving (s : State) (c : Nat) (v w : DeskId) : (s.mixHandover c v w).arriving = s.arriving := by
  unfold State.mixHandover; simp

/-! ### mixStandby: mixer -/

@[simp] theorem State.mixStandby_straps (s : State) : (s.mixStandby).straps = s.straps := by
  unfold State.mixStandby; simp
@[simp] theorem State.mixStandby_banks (s : State) : (s.mixStandby).banks = s.banks := by
  unfold State.mixStandby; simp
@[simp] theorem State.mixStandby_framer (s : State) : (s.mixStandby).framer = s.framer := by
  unfold State.mixStandby; simp
@[simp] theorem State.mixStandby_bdc (s : State) : (s.mixStandby).bdc = s.bdc := by
  unfold State.mixStandby; simp
@[simp] theorem State.mixStandby_relay (s : State) : (s.mixStandby).relay = s.relay := by
  unfold State.mixStandby; simp
@[simp] theorem State.mixStandby_meter (s : State) : (s.mixStandby).meter = s.meter := by
  unfold State.mixStandby; simp
@[simp] theorem State.mixStandby_register (s : State) : (s.mixStandby).register = s.register := by
  unfold State.mixStandby; simp
@[simp] theorem State.mixStandby_hire (s : State) : (s.mixStandby).hire = s.hire := by
  unfold State.mixStandby; simp
@[simp] theorem State.mixStandby_journal (s : State) : (s.mixStandby).journal = s.journal := by
  unfold State.mixStandby; simp
@[simp] theorem State.mixStandby_links (s : State) : (s.mixStandby).links = s.links := by
  unfold State.mixStandby; simp
@[simp] theorem State.mixStandby_resetHeld (s : State) : (s.mixStandby).resetHeld = s.resetHeld := by
  unfold State.mixStandby; simp
@[simp] theorem State.mixStandby_freeIndex (s : State) : (s.mixStandby).freeIndex = s.freeIndex := by
  unfold State.mixStandby; simp
@[simp] theorem State.mixStandby_pending (s : State) : (s.mixStandby).pending = s.pending := by
  unfold State.mixStandby; simp
@[simp] theorem State.mixStandby_arriving (s : State) : (s.mixStandby).arriving = s.arriving := by
  unfold State.mixStandby; simp

/-! ### fixFeeds: mixer -/

@[simp] theorem State.fixFeeds_straps (s : State) : (s.fixFeeds).straps = s.straps := by
  unfold State.fixFeeds; simp
@[simp] theorem State.fixFeeds_banks (s : State) : (s.fixFeeds).banks = s.banks := by
  unfold State.fixFeeds; simp
@[simp] theorem State.fixFeeds_framer (s : State) : (s.fixFeeds).framer = s.framer := by
  unfold State.fixFeeds; simp
@[simp] theorem State.fixFeeds_bdc (s : State) : (s.fixFeeds).bdc = s.bdc := by
  unfold State.fixFeeds; simp
@[simp] theorem State.fixFeeds_relay (s : State) : (s.fixFeeds).relay = s.relay := by
  unfold State.fixFeeds; simp
@[simp] theorem State.fixFeeds_meter (s : State) : (s.fixFeeds).meter = s.meter := by
  unfold State.fixFeeds; simp
@[simp] theorem State.fixFeeds_register (s : State) : (s.fixFeeds).register = s.register := by
  unfold State.fixFeeds; simp
@[simp] theorem State.fixFeeds_hire (s : State) : (s.fixFeeds).hire = s.hire := by
  unfold State.fixFeeds; simp
@[simp] theorem State.fixFeeds_journal (s : State) : (s.fixFeeds).journal = s.journal := by
  unfold State.fixFeeds; simp
@[simp] theorem State.fixFeeds_links (s : State) : (s.fixFeeds).links = s.links := by
  unfold State.fixFeeds; simp
@[simp] theorem State.fixFeeds_resetHeld (s : State) : (s.fixFeeds).resetHeld = s.resetHeld := by
  unfold State.fixFeeds; simp
@[simp] theorem State.fixFeeds_freeIndex (s : State) : (s.fixFeeds).freeIndex = s.freeIndex := by
  unfold State.fixFeeds; simp
@[simp] theorem State.fixFeeds_pending (s : State) : (s.fixFeeds).pending = s.pending := by
  unfold State.fixFeeds; simp
@[simp] theorem State.fixFeeds_arriving (s : State) : (s.fixFeeds).arriving = s.arriving := by
  unfold State.fixFeeds; simp

/-! ### placeBooths: relay, mixer -/

@[simp] theorem State.placeBooths_straps (s : State) : (s.placeBooths).straps = s.straps := by
  unfold State.placeBooths; simp
@[simp] theorem State.placeBooths_banks (s : State) : (s.placeBooths).banks = s.banks := by
  unfold State.placeBooths; simp
@[simp] theorem State.placeBooths_framer (s : State) : (s.placeBooths).framer = s.framer := by
  unfold State.placeBooths; simp
@[simp] theorem State.placeBooths_bdc (s : State) : (s.placeBooths).bdc = s.bdc := by
  unfold State.placeBooths; simp
@[simp] theorem State.placeBooths_meter (s : State) : (s.placeBooths).meter = s.meter := by
  unfold State.placeBooths; simp
@[simp] theorem State.placeBooths_register (s : State) : (s.placeBooths).register = s.register := by
  unfold State.placeBooths; simp
@[simp] theorem State.placeBooths_hire (s : State) : (s.placeBooths).hire = s.hire := by
  unfold State.placeBooths; simp
@[simp] theorem State.placeBooths_journal (s : State) : (s.placeBooths).journal = s.journal := by
  unfold State.placeBooths; simp
@[simp] theorem State.placeBooths_links (s : State) : (s.placeBooths).links = s.links := by
  unfold State.placeBooths; simp
@[simp] theorem State.placeBooths_resetHeld (s : State) : (s.placeBooths).resetHeld = s.resetHeld := by
  unfold State.placeBooths; simp
@[simp] theorem State.placeBooths_freeIndex (s : State) : (s.placeBooths).freeIndex = s.freeIndex := by
  unfold State.placeBooths; simp
@[simp] theorem State.placeBooths_pending (s : State) : (s.placeBooths).pending = s.pending := by
  unfold State.placeBooths; simp
@[simp] theorem State.placeBooths_arriving (s : State) : (s.placeBooths).arriving = s.arriving := by
  unfold State.placeBooths; simp

/-! ### resolve: relay, mixer, links -/

@[simp] theorem State.resolve_straps (s : State) : (s.resolve).straps = s.straps := by
  unfold State.resolve; (repeat' split) <;> simp
@[simp] theorem State.resolve_banks (s : State) : (s.resolve).banks = s.banks := by
  unfold State.resolve; (repeat' split) <;> simp
@[simp] theorem State.resolve_framer (s : State) : (s.resolve).framer = s.framer := by
  unfold State.resolve; (repeat' split) <;> simp
@[simp] theorem State.resolve_bdc (s : State) : (s.resolve).bdc = s.bdc := by
  unfold State.resolve; (repeat' split) <;> simp
@[simp] theorem State.resolve_meter (s : State) : (s.resolve).meter = s.meter := by
  unfold State.resolve; (repeat' split) <;> simp
@[simp] theorem State.resolve_register (s : State) : (s.resolve).register = s.register := by
  unfold State.resolve; (repeat' split) <;> simp
@[simp] theorem State.resolve_hire (s : State) : (s.resolve).hire = s.hire := by
  unfold State.resolve; (repeat' split) <;> simp
@[simp] theorem State.resolve_journal (s : State) : (s.resolve).journal = s.journal := by
  unfold State.resolve; (repeat' split) <;> simp
@[simp] theorem State.resolve_resetHeld (s : State) : (s.resolve).resetHeld = s.resetHeld := by
  unfold State.resolve; (repeat' split) <;> simp
@[simp] theorem State.resolve_freeIndex (s : State) : (s.resolve).freeIndex = s.freeIndex := by
  unfold State.resolve; (repeat' split) <;> simp
@[simp] theorem State.resolve_pending (s : State) : (s.resolve).pending = s.pending := by
  unfold State.resolve; (repeat' split) <;> simp
@[simp] theorem State.resolve_arriving (s : State) : (s.resolve).arriving = s.arriving := by
  unfold State.resolve; (repeat' split) <;> simp

/-! ### endHolds: relay -/

@[simp] theorem State.endHolds_straps (s : State) (f : Nat → Bool) : (s.endHolds f).straps = s.straps := by
  unfold State.endHolds; simp
@[simp] theorem State.endHolds_banks (s : State) (f : Nat → Bool) : (s.endHolds f).banks = s.banks := by
  unfold State.endHolds; simp
@[simp] theorem State.endHolds_framer (s : State) (f : Nat → Bool) : (s.endHolds f).framer = s.framer := by
  unfold State.endHolds; simp
@[simp] theorem State.endHolds_mixer (s : State) (f : Nat → Bool) : (s.endHolds f).mixer = s.mixer := by
  unfold State.endHolds; simp
@[simp] theorem State.endHolds_bdc (s : State) (f : Nat → Bool) : (s.endHolds f).bdc = s.bdc := by
  unfold State.endHolds; simp
@[simp] theorem State.endHolds_meter (s : State) (f : Nat → Bool) : (s.endHolds f).meter = s.meter := by
  unfold State.endHolds; simp
@[simp] theorem State.endHolds_register (s : State) (f : Nat → Bool) : (s.endHolds f).register = s.register := by
  unfold State.endHolds; simp
@[simp] theorem State.endHolds_hire (s : State) (f : Nat → Bool) : (s.endHolds f).hire = s.hire := by
  unfold State.endHolds; simp
@[simp] theorem State.endHolds_journal (s : State) (f : Nat → Bool) : (s.endHolds f).journal = s.journal := by
  unfold State.endHolds; simp
@[simp] theorem State.endHolds_links (s : State) (f : Nat → Bool) : (s.endHolds f).links = s.links := by
  unfold State.endHolds; simp
@[simp] theorem State.endHolds_resetHeld (s : State) (f : Nat → Bool) : (s.endHolds f).resetHeld = s.resetHeld := by
  unfold State.endHolds; simp
@[simp] theorem State.endHolds_freeIndex (s : State) (f : Nat → Bool) : (s.endHolds f).freeIndex = s.freeIndex := by
  unfold State.endHolds; simp
@[simp] theorem State.endHolds_pending (s : State) (f : Nat → Bool) : (s.endHolds f).pending = s.pending := by
  unfold State.endHolds; simp
@[simp] theorem State.endHolds_arriving (s : State) (f : Nat → Bool) : (s.endHolds f).arriving = s.arriving := by
  unfold State.endHolds; simp

/-! ### endAllHolds: relay -/

@[simp] theorem State.endAllHolds_straps (s : State) : (s.endAllHolds).straps = s.straps := by
  unfold State.endAllHolds; simp
@[simp] theorem State.endAllHolds_banks (s : State) : (s.endAllHolds).banks = s.banks := by
  unfold State.endAllHolds; simp
@[simp] theorem State.endAllHolds_framer (s : State) : (s.endAllHolds).framer = s.framer := by
  unfold State.endAllHolds; simp
@[simp] theorem State.endAllHolds_mixer (s : State) : (s.endAllHolds).mixer = s.mixer := by
  unfold State.endAllHolds; simp
@[simp] theorem State.endAllHolds_bdc (s : State) : (s.endAllHolds).bdc = s.bdc := by
  unfold State.endAllHolds; simp
@[simp] theorem State.endAllHolds_meter (s : State) : (s.endAllHolds).meter = s.meter := by
  unfold State.endAllHolds; simp
@[simp] theorem State.endAllHolds_register (s : State) : (s.endAllHolds).register = s.register := by
  unfold State.endAllHolds; simp
@[simp] theorem State.endAllHolds_hire (s : State) : (s.endAllHolds).hire = s.hire := by
  unfold State.endAllHolds; simp
@[simp] theorem State.endAllHolds_journal (s : State) : (s.endAllHolds).journal = s.journal := by
  unfold State.endAllHolds; simp
@[simp] theorem State.endAllHolds_links (s : State) : (s.endAllHolds).links = s.links := by
  unfold State.endAllHolds; simp
@[simp] theorem State.endAllHolds_resetHeld (s : State) : (s.endAllHolds).resetHeld = s.resetHeld := by
  unfold State.endAllHolds; simp
@[simp] theorem State.endAllHolds_freeIndex (s : State) : (s.endAllHolds).freeIndex = s.freeIndex := by
  unfold State.endAllHolds; simp
@[simp] theorem State.endAllHolds_pending (s : State) : (s.endAllHolds).pending = s.pending := by
  unfold State.endAllHolds; simp
@[simp] theorem State.endAllHolds_arriving (s : State) : (s.endAllHolds).arriving = s.arriving := by
  unfold State.endAllHolds; simp

/-! ### beginHolds: relay -/

@[simp] theorem State.beginHolds_straps (s : State) (c : Nat) : (s.beginHolds c).straps = s.straps := by
  unfold State.beginHolds; simp
@[simp] theorem State.beginHolds_banks (s : State) (c : Nat) : (s.beginHolds c).banks = s.banks := by
  unfold State.beginHolds; simp
@[simp] theorem State.beginHolds_framer (s : State) (c : Nat) : (s.beginHolds c).framer = s.framer := by
  unfold State.beginHolds; simp
@[simp] theorem State.beginHolds_mixer (s : State) (c : Nat) : (s.beginHolds c).mixer = s.mixer := by
  unfold State.beginHolds; simp
@[simp] theorem State.beginHolds_bdc (s : State) (c : Nat) : (s.beginHolds c).bdc = s.bdc := by
  unfold State.beginHolds; simp
@[simp] theorem State.beginHolds_meter (s : State) (c : Nat) : (s.beginHolds c).meter = s.meter := by
  unfold State.beginHolds; simp
@[simp] theorem State.beginHolds_register (s : State) (c : Nat) : (s.beginHolds c).register = s.register := by
  unfold State.beginHolds; simp
@[simp] theorem State.beginHolds_hire (s : State) (c : Nat) : (s.beginHolds c).hire = s.hire := by
  unfold State.beginHolds; simp
@[simp] theorem State.beginHolds_journal (s : State) (c : Nat) : (s.beginHolds c).journal = s.journal := by
  unfold State.beginHolds; simp
@[simp] theorem State.beginHolds_links (s : State) (c : Nat) : (s.beginHolds c).links = s.links := by
  unfold State.beginHolds; simp
@[simp] theorem State.beginHolds_resetHeld (s : State) (c : Nat) : (s.beginHolds c).resetHeld = s.resetHeld := by
  unfold State.beginHolds; simp
@[simp] theorem State.beginHolds_freeIndex (s : State) (c : Nat) : (s.beginHolds c).freeIndex = s.freeIndex := by
  unfold State.beginHolds; simp
@[simp] theorem State.beginHolds_pending (s : State) (c : Nat) : (s.beginHolds c).pending = s.pending := by
  unfold State.beginHolds; simp
@[simp] theorem State.beginHolds_arriving (s : State) (c : Nat) : (s.beginHolds c).arriving = s.arriving := by
  unfold State.beginHolds; simp

/-! ### productionStart: relay, mixer, links -/

@[simp] theorem State.productionStart_straps (s : State) (c p : Nat) : (s.productionStart c p).straps = s.straps := by
  unfold State.productionStart; (repeat' split) <;> simp
@[simp] theorem State.productionStart_banks (s : State) (c p : Nat) : (s.productionStart c p).banks = s.banks := by
  unfold State.productionStart; (repeat' split) <;> simp
@[simp] theorem State.productionStart_framer (s : State) (c p : Nat) : (s.productionStart c p).framer = s.framer := by
  unfold State.productionStart; (repeat' split) <;> simp
@[simp] theorem State.productionStart_bdc (s : State) (c p : Nat) : (s.productionStart c p).bdc = s.bdc := by
  unfold State.productionStart; (repeat' split) <;> simp
@[simp] theorem State.productionStart_meter (s : State) (c p : Nat) : (s.productionStart c p).meter = s.meter := by
  unfold State.productionStart; (repeat' split) <;> simp
@[simp] theorem State.productionStart_register (s : State) (c p : Nat) : (s.productionStart c p).register = s.register := by
  unfold State.productionStart; (repeat' split) <;> simp
@[simp] theorem State.productionStart_hire (s : State) (c p : Nat) : (s.productionStart c p).hire = s.hire := by
  unfold State.productionStart; (repeat' split) <;> simp
@[simp] theorem State.productionStart_journal (s : State) (c p : Nat) : (s.productionStart c p).journal = s.journal := by
  unfold State.productionStart; (repeat' split) <;> simp
@[simp] theorem State.productionStart_resetHeld (s : State) (c p : Nat) : (s.productionStart c p).resetHeld = s.resetHeld := by
  unfold State.productionStart; (repeat' split) <;> simp
@[simp] theorem State.productionStart_freeIndex (s : State) (c p : Nat) : (s.productionStart c p).freeIndex = s.freeIndex := by
  unfold State.productionStart; (repeat' split) <;> simp
@[simp] theorem State.productionStart_pending (s : State) (c p : Nat) : (s.productionStart c p).pending = s.pending := by
  unfold State.productionStart; (repeat' split) <;> simp
@[simp] theorem State.productionStart_arriving (s : State) (c p : Nat) : (s.productionStart c p).arriving = s.arriving := by
  unfold State.productionStart; (repeat' split) <;> simp

/-! ### productionStop: relay, mixer, links -/

@[simp] theorem State.productionStop_straps (s : State) (c : Nat) : (s.productionStop c).straps = s.straps := by
  unfold State.productionStop; (repeat' split) <;> simp
@[simp] theorem State.productionStop_banks (s : State) (c : Nat) : (s.productionStop c).banks = s.banks := by
  unfold State.productionStop; (repeat' split) <;> simp
@[simp] theorem State.productionStop_framer (s : State) (c : Nat) : (s.productionStop c).framer = s.framer := by
  unfold State.productionStop; (repeat' split) <;> simp
@[simp] theorem State.productionStop_bdc (s : State) (c : Nat) : (s.productionStop c).bdc = s.bdc := by
  unfold State.productionStop; (repeat' split) <;> simp
@[simp] theorem State.productionStop_meter (s : State) (c : Nat) : (s.productionStop c).meter = s.meter := by
  unfold State.productionStop; (repeat' split) <;> simp
@[simp] theorem State.productionStop_register (s : State) (c : Nat) : (s.productionStop c).register = s.register := by
  unfold State.productionStop; (repeat' split) <;> simp
@[simp] theorem State.productionStop_hire (s : State) (c : Nat) : (s.productionStop c).hire = s.hire := by
  unfold State.productionStop; (repeat' split) <;> simp
@[simp] theorem State.productionStop_journal (s : State) (c : Nat) : (s.productionStop c).journal = s.journal := by
  unfold State.productionStop; (repeat' split) <;> simp
@[simp] theorem State.productionStop_resetHeld (s : State) (c : Nat) : (s.productionStop c).resetHeld = s.resetHeld := by
  unfold State.productionStop; (repeat' split) <;> simp
@[simp] theorem State.productionStop_freeIndex (s : State) (c : Nat) : (s.productionStop c).freeIndex = s.freeIndex := by
  unfold State.productionStop; (repeat' split) <;> simp
@[simp] theorem State.productionStop_pending (s : State) (c : Nat) : (s.productionStop c).pending = s.pending := by
  unfold State.productionStop; (repeat' split) <;> simp
@[simp] theorem State.productionStop_arriving (s : State) (c : Nat) : (s.productionStop c).arriving = s.arriving := by
  unfold State.productionStop; (repeat' split) <;> simp

/-! ### relayStandby: relay, mixer -/

@[simp] theorem State.relayStandby_straps (s : State) : (s.relayStandby).straps = s.straps := by
  unfold State.relayStandby; simp
@[simp] theorem State.relayStandby_banks (s : State) : (s.relayStandby).banks = s.banks := by
  unfold State.relayStandby; simp
@[simp] theorem State.relayStandby_framer (s : State) : (s.relayStandby).framer = s.framer := by
  unfold State.relayStandby; simp
@[simp] theorem State.relayStandby_bdc (s : State) : (s.relayStandby).bdc = s.bdc := by
  unfold State.relayStandby; simp
@[simp] theorem State.relayStandby_meter (s : State) : (s.relayStandby).meter = s.meter := by
  unfold State.relayStandby; simp
@[simp] theorem State.relayStandby_register (s : State) : (s.relayStandby).register = s.register := by
  unfold State.relayStandby; simp
@[simp] theorem State.relayStandby_hire (s : State) : (s.relayStandby).hire = s.hire := by
  unfold State.relayStandby; simp
@[simp] theorem State.relayStandby_journal (s : State) : (s.relayStandby).journal = s.journal := by
  unfold State.relayStandby; simp
@[simp] theorem State.relayStandby_links (s : State) : (s.relayStandby).links = s.links := by
  unfold State.relayStandby; simp
@[simp] theorem State.relayStandby_resetHeld (s : State) : (s.relayStandby).resetHeld = s.resetHeld := by
  unfold State.relayStandby; simp
@[simp] theorem State.relayStandby_freeIndex (s : State) : (s.relayStandby).freeIndex = s.freeIndex := by
  unfold State.relayStandby; simp
@[simp] theorem State.relayStandby_pending (s : State) : (s.relayStandby).pending = s.pending := by
  unfold State.relayStandby; simp
@[simp] theorem State.relayStandby_arriving (s : State) : (s.relayStandby).arriving = s.arriving := by
  unfold State.relayStandby; simp

/-! ### setSource: relay, mixer, links -/

@[simp] theorem State.setSource_straps (s : State) (b : Nat) (m : SourceMode) : (s.setSource b m).straps = s.straps := by
  unfold State.setSource; simp
@[simp] theorem State.setSource_banks (s : State) (b : Nat) (m : SourceMode) : (s.setSource b m).banks = s.banks := by
  unfold State.setSource; simp
@[simp] theorem State.setSource_framer (s : State) (b : Nat) (m : SourceMode) : (s.setSource b m).framer = s.framer := by
  unfold State.setSource; simp
@[simp] theorem State.setSource_bdc (s : State) (b : Nat) (m : SourceMode) : (s.setSource b m).bdc = s.bdc := by
  unfold State.setSource; simp
@[simp] theorem State.setSource_meter (s : State) (b : Nat) (m : SourceMode) : (s.setSource b m).meter = s.meter := by
  unfold State.setSource; simp
@[simp] theorem State.setSource_register (s : State) (b : Nat) (m : SourceMode) : (s.setSource b m).register = s.register := by
  unfold State.setSource; simp
@[simp] theorem State.setSource_hire (s : State) (b : Nat) (m : SourceMode) : (s.setSource b m).hire = s.hire := by
  unfold State.setSource; simp
@[simp] theorem State.setSource_journal (s : State) (b : Nat) (m : SourceMode) : (s.setSource b m).journal = s.journal := by
  unfold State.setSource; simp
@[simp] theorem State.setSource_resetHeld (s : State) (b : Nat) (m : SourceMode) : (s.setSource b m).resetHeld = s.resetHeld := by
  unfold State.setSource; simp
@[simp] theorem State.setSource_freeIndex (s : State) (b : Nat) (m : SourceMode) : (s.setSource b m).freeIndex = s.freeIndex := by
  unfold State.setSource; simp
@[simp] theorem State.setSource_pending (s : State) (b : Nat) (m : SourceMode) : (s.setSource b m).pending = s.pending := by
  unfold State.setSource; simp
@[simp] theorem State.setSource_arriving (s : State) (b : Nat) (m : SourceMode) : (s.setSource b m).arriving = s.arriving := by
  unfold State.setSource; simp

/-! ### holdExpired: relay, mixer, links -/

@[simp] theorem State.holdExpired_straps (s : State) (b : Nat) : (s.holdExpired b).straps = s.straps := by
  unfold State.holdExpired; simp
@[simp] theorem State.holdExpired_banks (s : State) (b : Nat) : (s.holdExpired b).banks = s.banks := by
  unfold State.holdExpired; simp
@[simp] theorem State.holdExpired_framer (s : State) (b : Nat) : (s.holdExpired b).framer = s.framer := by
  unfold State.holdExpired; simp
@[simp] theorem State.holdExpired_bdc (s : State) (b : Nat) : (s.holdExpired b).bdc = s.bdc := by
  unfold State.holdExpired; simp
@[simp] theorem State.holdExpired_meter (s : State) (b : Nat) : (s.holdExpired b).meter = s.meter := by
  unfold State.holdExpired; simp
@[simp] theorem State.holdExpired_register (s : State) (b : Nat) : (s.holdExpired b).register = s.register := by
  unfold State.holdExpired; simp
@[simp] theorem State.holdExpired_hire (s : State) (b : Nat) : (s.holdExpired b).hire = s.hire := by
  unfold State.holdExpired; simp
@[simp] theorem State.holdExpired_journal (s : State) (b : Nat) : (s.holdExpired b).journal = s.journal := by
  unfold State.holdExpired; simp
@[simp] theorem State.holdExpired_resetHeld (s : State) (b : Nat) : (s.holdExpired b).resetHeld = s.resetHeld := by
  unfold State.holdExpired; simp
@[simp] theorem State.holdExpired_freeIndex (s : State) (b : Nat) : (s.holdExpired b).freeIndex = s.freeIndex := by
  unfold State.holdExpired; simp
@[simp] theorem State.holdExpired_pending (s : State) (b : Nat) : (s.holdExpired b).pending = s.pending := by
  unfold State.holdExpired; simp
@[simp] theorem State.holdExpired_arriving (s : State) (b : Nat) : (s.holdExpired b).arriving = s.arriving := by
  unfold State.holdExpired; simp

/-! ### floorLanguage: relay, mixer, links -/

@[simp] theorem State.floorLanguage_straps (s : State) (c : Nat) : (s.floorLanguage c).straps = s.straps := by
  unfold State.floorLanguage; (repeat' split) <;> simp
@[simp] theorem State.floorLanguage_banks (s : State) (c : Nat) : (s.floorLanguage c).banks = s.banks := by
  unfold State.floorLanguage; (repeat' split) <;> simp
@[simp] theorem State.floorLanguage_framer (s : State) (c : Nat) : (s.floorLanguage c).framer = s.framer := by
  unfold State.floorLanguage; (repeat' split) <;> simp
@[simp] theorem State.floorLanguage_bdc (s : State) (c : Nat) : (s.floorLanguage c).bdc = s.bdc := by
  unfold State.floorLanguage; (repeat' split) <;> simp
@[simp] theorem State.floorLanguage_meter (s : State) (c : Nat) : (s.floorLanguage c).meter = s.meter := by
  unfold State.floorLanguage; (repeat' split) <;> simp
@[simp] theorem State.floorLanguage_register (s : State) (c : Nat) : (s.floorLanguage c).register = s.register := by
  unfold State.floorLanguage; (repeat' split) <;> simp
@[simp] theorem State.floorLanguage_hire (s : State) (c : Nat) : (s.floorLanguage c).hire = s.hire := by
  unfold State.floorLanguage; (repeat' split) <;> simp
@[simp] theorem State.floorLanguage_journal (s : State) (c : Nat) : (s.floorLanguage c).journal = s.journal := by
  unfold State.floorLanguage; (repeat' split) <;> simp
@[simp] theorem State.floorLanguage_resetHeld (s : State) (c : Nat) : (s.floorLanguage c).resetHeld = s.resetHeld := by
  unfold State.floorLanguage; (repeat' split) <;> simp
@[simp] theorem State.floorLanguage_freeIndex (s : State) (c : Nat) : (s.floorLanguage c).freeIndex = s.freeIndex := by
  unfold State.floorLanguage; (repeat' split) <;> simp
@[simp] theorem State.floorLanguage_pending (s : State) (c : Nat) : (s.floorLanguage c).pending = s.pending := by
  unfold State.floorLanguage; (repeat' split) <;> simp
@[simp] theorem State.floorLanguage_arriving (s : State) (c : Nat) : (s.floorLanguage c).arriving = s.arriving := by
  unfold State.floorLanguage; (repeat' split) <;> simp

/-! ### setLive: bdc -/

@[simp] theorem State.setLive_straps (s : State) (b d c : Nat) : (s.setLive b d c).straps = s.straps := by
  unfold State.setLive; simp
@[simp] theorem State.setLive_banks (s : State) (b d c : Nat) : (s.setLive b d c).banks = s.banks := by
  unfold State.setLive; simp
@[simp] theorem State.setLive_framer (s : State) (b d c : Nat) : (s.setLive b d c).framer = s.framer := by
  unfold State.setLive; simp
@[simp] theorem State.setLive_mixer (s : State) (b d c : Nat) : (s.setLive b d c).mixer = s.mixer := by
  unfold State.setLive; simp
@[simp] theorem State.setLive_relay (s : State) (b d c : Nat) : (s.setLive b d c).relay = s.relay := by
  unfold State.setLive; simp
@[simp] theorem State.setLive_meter (s : State) (b d c : Nat) : (s.setLive b d c).meter = s.meter := by
  unfold State.setLive; simp
@[simp] theorem State.setLive_register (s : State) (b d c : Nat) : (s.setLive b d c).register = s.register := by
  unfold State.setLive; simp
@[simp] theorem State.setLive_hire (s : State) (b d c : Nat) : (s.setLive b d c).hire = s.hire := by
  unfold State.setLive; simp
@[simp] theorem State.setLive_journal (s : State) (b d c : Nat) : (s.setLive b d c).journal = s.journal := by
  unfold State.setLive; simp
@[simp] theorem State.setLive_links (s : State) (b d c : Nat) : (s.setLive b d c).links = s.links := by
  unfold State.setLive; simp
@[simp] theorem State.setLive_resetHeld (s : State) (b d c : Nat) : (s.setLive b d c).resetHeld = s.resetHeld := by
  unfold State.setLive; simp
@[simp] theorem State.setLive_freeIndex (s : State) (b d c : Nat) : (s.setLive b d c).freeIndex = s.freeIndex := by
  unfold State.setLive; simp
@[simp] theorem State.setLive_pending (s : State) (b d c : Nat) : (s.setLive b d c).pending = s.pending := by
  unfold State.setLive; simp
@[simp] theorem State.setLive_arriving (s : State) (b d c : Nat) : (s.setLive b d c).arriving = s.arriving := by
  unfold State.setLive; simp

/-! ### leaveQueues: bdc -/

@[simp] theorem State.leaveQueues_straps (s : State) (b : Nat) : (s.leaveQueues b).straps = s.straps := by
  unfold State.leaveQueues; simp
@[simp] theorem State.leaveQueues_banks (s : State) (b : Nat) : (s.leaveQueues b).banks = s.banks := by
  unfold State.leaveQueues; simp
@[simp] theorem State.leaveQueues_framer (s : State) (b : Nat) : (s.leaveQueues b).framer = s.framer := by
  unfold State.leaveQueues; simp
@[simp] theorem State.leaveQueues_mixer (s : State) (b : Nat) : (s.leaveQueues b).mixer = s.mixer := by
  unfold State.leaveQueues; simp
@[simp] theorem State.leaveQueues_relay (s : State) (b : Nat) : (s.leaveQueues b).relay = s.relay := by
  unfold State.leaveQueues; simp
@[simp] theorem State.leaveQueues_meter (s : State) (b : Nat) : (s.leaveQueues b).meter = s.meter := by
  unfold State.leaveQueues; simp
@[simp] theorem State.leaveQueues_register (s : State) (b : Nat) : (s.leaveQueues b).register = s.register := by
  unfold State.leaveQueues; simp
@[simp] theorem State.leaveQueues_hire (s : State) (b : Nat) : (s.leaveQueues b).hire = s.hire := by
  unfold State.leaveQueues; simp
@[simp] theorem State.leaveQueues_journal (s : State) (b : Nat) : (s.leaveQueues b).journal = s.journal := by
  unfold State.leaveQueues; simp
@[simp] theorem State.leaveQueues_links (s : State) (b : Nat) : (s.leaveQueues b).links = s.links := by
  unfold State.leaveQueues; simp
@[simp] theorem State.leaveQueues_resetHeld (s : State) (b : Nat) : (s.leaveQueues b).resetHeld = s.resetHeld := by
  unfold State.leaveQueues; simp
@[simp] theorem State.leaveQueues_freeIndex (s : State) (b : Nat) : (s.leaveQueues b).freeIndex = s.freeIndex := by
  unfold State.leaveQueues; simp
@[simp] theorem State.leaveQueues_pending (s : State) (b : Nat) : (s.leaveQueues b).pending = s.pending := by
  unfold State.leaveQueues; simp
@[simp] theorem State.leaveQueues_arriving (s : State) (b : Nat) : (s.leaveQueues b).arriving = s.arriving := by
  unfold State.leaveQueues; simp

/-! ### grantRecords: bdc -/

@[simp] theorem State.grantRecords_straps (s : State) (b d c : Nat) : (s.grantRecords b d c).straps = s.straps := by
  unfold State.grantRecords; simp
@[simp] theorem State.grantRecords_banks (s : State) (b d c : Nat) : (s.grantRecords b d c).banks = s.banks := by
  unfold State.grantRecords; simp
@[simp] theorem State.grantRecords_framer (s : State) (b d c : Nat) : (s.grantRecords b d c).framer = s.framer := by
  unfold State.grantRecords; simp
@[simp] theorem State.grantRecords_mixer (s : State) (b d c : Nat) : (s.grantRecords b d c).mixer = s.mixer := by
  unfold State.grantRecords; simp
@[simp] theorem State.grantRecords_relay (s : State) (b d c : Nat) : (s.grantRecords b d c).relay = s.relay := by
  unfold State.grantRecords; simp
@[simp] theorem State.grantRecords_meter (s : State) (b d c : Nat) : (s.grantRecords b d c).meter = s.meter := by
  unfold State.grantRecords; simp
@[simp] theorem State.grantRecords_register (s : State) (b d c : Nat) : (s.grantRecords b d c).register = s.register := by
  unfold State.grantRecords; simp
@[simp] theorem State.grantRecords_hire (s : State) (b d c : Nat) : (s.grantRecords b d c).hire = s.hire := by
  unfold State.grantRecords; simp
@[simp] theorem State.grantRecords_journal (s : State) (b d c : Nat) : (s.grantRecords b d c).journal = s.journal := by
  unfold State.grantRecords; simp
@[simp] theorem State.grantRecords_links (s : State) (b d c : Nat) : (s.grantRecords b d c).links = s.links := by
  unfold State.grantRecords; simp
@[simp] theorem State.grantRecords_resetHeld (s : State) (b d c : Nat) : (s.grantRecords b d c).resetHeld = s.resetHeld := by
  unfold State.grantRecords; simp
@[simp] theorem State.grantRecords_freeIndex (s : State) (b d c : Nat) : (s.grantRecords b d c).freeIndex = s.freeIndex := by
  unfold State.grantRecords; simp
@[simp] theorem State.grantRecords_pending (s : State) (b d c : Nat) : (s.grantRecords b d c).pending = s.pending := by
  unfold State.grantRecords; simp
@[simp] theorem State.grantRecords_arriving (s : State) (b d c : Nat) : (s.grantRecords b d c).arriving = s.arriving := by
  unfold State.grantRecords; simp

/-! ### clearLive: bdc -/

@[simp] theorem State.clearLive_straps (s : State) (b c : Nat) : (s.clearLive b c).straps = s.straps := by
  unfold State.clearLive; simp
@[simp] theorem State.clearLive_banks (s : State) (b c : Nat) : (s.clearLive b c).banks = s.banks := by
  unfold State.clearLive; simp
@[simp] theorem State.clearLive_framer (s : State) (b c : Nat) : (s.clearLive b c).framer = s.framer := by
  unfold State.clearLive; simp
@[simp] theorem State.clearLive_mixer (s : State) (b c : Nat) : (s.clearLive b c).mixer = s.mixer := by
  unfold State.clearLive; simp
@[simp] theorem State.clearLive_relay (s : State) (b c : Nat) : (s.clearLive b c).relay = s.relay := by
  unfold State.clearLive; simp
@[simp] theorem State.clearLive_meter (s : State) (b c : Nat) : (s.clearLive b c).meter = s.meter := by
  unfold State.clearLive; simp
@[simp] theorem State.clearLive_register (s : State) (b c : Nat) : (s.clearLive b c).register = s.register := by
  unfold State.clearLive; simp
@[simp] theorem State.clearLive_hire (s : State) (b c : Nat) : (s.clearLive b c).hire = s.hire := by
  unfold State.clearLive; simp
@[simp] theorem State.clearLive_journal (s : State) (b c : Nat) : (s.clearLive b c).journal = s.journal := by
  unfold State.clearLive; simp
@[simp] theorem State.clearLive_links (s : State) (b c : Nat) : (s.clearLive b c).links = s.links := by
  unfold State.clearLive; simp
@[simp] theorem State.clearLive_resetHeld (s : State) (b c : Nat) : (s.clearLive b c).resetHeld = s.resetHeld := by
  unfold State.clearLive; simp
@[simp] theorem State.clearLive_freeIndex (s : State) (b c : Nat) : (s.clearLive b c).freeIndex = s.freeIndex := by
  unfold State.clearLive; simp
@[simp] theorem State.clearLive_pending (s : State) (b c : Nat) : (s.clearLive b c).pending = s.pending := by
  unfold State.clearLive; simp
@[simp] theorem State.clearLive_arriving (s : State) (b c : Nat) : (s.clearLive b c).arriving = s.arriving := by
  unfold State.clearLive; simp

/-! ### recordOffer: bdc -/

@[simp] theorem State.recordOffer_straps (s : State) (b d : Nat) (x : Output) : (s.recordOffer b d x).straps = s.straps := by
  unfold State.recordOffer; simp
@[simp] theorem State.recordOffer_banks (s : State) (b d : Nat) (x : Output) : (s.recordOffer b d x).banks = s.banks := by
  unfold State.recordOffer; simp
@[simp] theorem State.recordOffer_framer (s : State) (b d : Nat) (x : Output) : (s.recordOffer b d x).framer = s.framer := by
  unfold State.recordOffer; simp
@[simp] theorem State.recordOffer_mixer (s : State) (b d : Nat) (x : Output) : (s.recordOffer b d x).mixer = s.mixer := by
  unfold State.recordOffer; simp
@[simp] theorem State.recordOffer_relay (s : State) (b d : Nat) (x : Output) : (s.recordOffer b d x).relay = s.relay := by
  unfold State.recordOffer; simp
@[simp] theorem State.recordOffer_meter (s : State) (b d : Nat) (x : Output) : (s.recordOffer b d x).meter = s.meter := by
  unfold State.recordOffer; simp
@[simp] theorem State.recordOffer_register (s : State) (b d : Nat) (x : Output) : (s.recordOffer b d x).register = s.register := by
  unfold State.recordOffer; simp
@[simp] theorem State.recordOffer_hire (s : State) (b d : Nat) (x : Output) : (s.recordOffer b d x).hire = s.hire := by
  unfold State.recordOffer; simp
@[simp] theorem State.recordOffer_journal (s : State) (b d : Nat) (x : Output) : (s.recordOffer b d x).journal = s.journal := by
  unfold State.recordOffer; simp
@[simp] theorem State.recordOffer_links (s : State) (b d : Nat) (x : Output) : (s.recordOffer b d x).links = s.links := by
  unfold State.recordOffer; simp
@[simp] theorem State.recordOffer_resetHeld (s : State) (b d : Nat) (x : Output) : (s.recordOffer b d x).resetHeld = s.resetHeld := by
  unfold State.recordOffer; simp
@[simp] theorem State.recordOffer_freeIndex (s : State) (b d : Nat) (x : Output) : (s.recordOffer b d x).freeIndex = s.freeIndex := by
  unfold State.recordOffer; simp
@[simp] theorem State.recordOffer_pending (s : State) (b d : Nat) (x : Output) : (s.recordOffer b d x).pending = s.pending := by
  unfold State.recordOffer; simp
@[simp] theorem State.recordOffer_arriving (s : State) (b d : Nat) (x : Output) : (s.recordOffer b d x).arriving = s.arriving := by
  unfold State.recordOffer; simp

/-! ### dropOffer: bdc -/

@[simp] theorem State.dropOffer_straps (s : State) (b : Nat) : (s.dropOffer b).straps = s.straps := by
  unfold State.dropOffer; simp
@[simp] theorem State.dropOffer_banks (s : State) (b : Nat) : (s.dropOffer b).banks = s.banks := by
  unfold State.dropOffer; simp
@[simp] theorem State.dropOffer_framer (s : State) (b : Nat) : (s.dropOffer b).framer = s.framer := by
  unfold State.dropOffer; simp
@[simp] theorem State.dropOffer_mixer (s : State) (b : Nat) : (s.dropOffer b).mixer = s.mixer := by
  unfold State.dropOffer; simp
@[simp] theorem State.dropOffer_relay (s : State) (b : Nat) : (s.dropOffer b).relay = s.relay := by
  unfold State.dropOffer; simp
@[simp] theorem State.dropOffer_meter (s : State) (b : Nat) : (s.dropOffer b).meter = s.meter := by
  unfold State.dropOffer; simp
@[simp] theorem State.dropOffer_register (s : State) (b : Nat) : (s.dropOffer b).register = s.register := by
  unfold State.dropOffer; simp
@[simp] theorem State.dropOffer_hire (s : State) (b : Nat) : (s.dropOffer b).hire = s.hire := by
  unfold State.dropOffer; simp
@[simp] theorem State.dropOffer_journal (s : State) (b : Nat) : (s.dropOffer b).journal = s.journal := by
  unfold State.dropOffer; simp
@[simp] theorem State.dropOffer_links (s : State) (b : Nat) : (s.dropOffer b).links = s.links := by
  unfold State.dropOffer; simp
@[simp] theorem State.dropOffer_resetHeld (s : State) (b : Nat) : (s.dropOffer b).resetHeld = s.resetHeld := by
  unfold State.dropOffer; simp
@[simp] theorem State.dropOffer_freeIndex (s : State) (b : Nat) : (s.dropOffer b).freeIndex = s.freeIndex := by
  unfold State.dropOffer; simp
@[simp] theorem State.dropOffer_pending (s : State) (b : Nat) : (s.dropOffer b).pending = s.pending := by
  unfold State.dropOffer; simp
@[simp] theorem State.dropOffer_arriving (s : State) (b : Nat) : (s.dropOffer b).arriving = s.arriving := by
  unfold State.dropOffer; simp

/-! ### setRefused: bdc -/

@[simp] theorem State.setRefused_straps (s : State) (b d : Nat) (r : Bool) : (s.setRefused b d r).straps = s.straps := by
  unfold State.setRefused; simp
@[simp] theorem State.setRefused_banks (s : State) (b d : Nat) (r : Bool) : (s.setRefused b d r).banks = s.banks := by
  unfold State.setRefused; simp
@[simp] theorem State.setRefused_framer (s : State) (b d : Nat) (r : Bool) : (s.setRefused b d r).framer = s.framer := by
  unfold State.setRefused; simp
@[simp] theorem State.setRefused_mixer (s : State) (b d : Nat) (r : Bool) : (s.setRefused b d r).mixer = s.mixer := by
  unfold State.setRefused; simp
@[simp] theorem State.setRefused_relay (s : State) (b d : Nat) (r : Bool) : (s.setRefused b d r).relay = s.relay := by
  unfold State.setRefused; simp
@[simp] theorem State.setRefused_meter (s : State) (b d : Nat) (r : Bool) : (s.setRefused b d r).meter = s.meter := by
  unfold State.setRefused; simp
@[simp] theorem State.setRefused_register (s : State) (b d : Nat) (r : Bool) : (s.setRefused b d r).register = s.register := by
  unfold State.setRefused; simp
@[simp] theorem State.setRefused_hire (s : State) (b d : Nat) (r : Bool) : (s.setRefused b d r).hire = s.hire := by
  unfold State.setRefused; simp
@[simp] theorem State.setRefused_journal (s : State) (b d : Nat) (r : Bool) : (s.setRefused b d r).journal = s.journal := by
  unfold State.setRefused; simp
@[simp] theorem State.setRefused_links (s : State) (b d : Nat) (r : Bool) : (s.setRefused b d r).links = s.links := by
  unfold State.setRefused; simp
@[simp] theorem State.setRefused_resetHeld (s : State) (b d : Nat) (r : Bool) : (s.setRefused b d r).resetHeld = s.resetHeld := by
  unfold State.setRefused; simp
@[simp] theorem State.setRefused_freeIndex (s : State) (b d : Nat) (r : Bool) : (s.setRefused b d r).freeIndex = s.freeIndex := by
  unfold State.setRefused; simp
@[simp] theorem State.setRefused_pending (s : State) (b d : Nat) (r : Bool) : (s.setRefused b d r).pending = s.pending := by
  unfold State.setRefused; simp
@[simp] theorem State.setRefused_arriving (s : State) (b d : Nat) (r : Bool) : (s.setRefused b d r).arriving = s.arriving := by
  unfold State.setRefused; simp

/-! ### cancelOffer: bdc -/

@[simp] theorem State.cancelOffer_straps (s : State) (b : Nat) : (s.cancelOffer b).straps = s.straps := by
  unfold State.cancelOffer; (repeat' split) <;> simp
@[simp] theorem State.cancelOffer_banks (s : State) (b : Nat) : (s.cancelOffer b).banks = s.banks := by
  unfold State.cancelOffer; (repeat' split) <;> simp
@[simp] theorem State.cancelOffer_framer (s : State) (b : Nat) : (s.cancelOffer b).framer = s.framer := by
  unfold State.cancelOffer; (repeat' split) <;> simp
@[simp] theorem State.cancelOffer_mixer (s : State) (b : Nat) : (s.cancelOffer b).mixer = s.mixer := by
  unfold State.cancelOffer; (repeat' split) <;> simp
@[simp] theorem State.cancelOffer_relay (s : State) (b : Nat) : (s.cancelOffer b).relay = s.relay := by
  unfold State.cancelOffer; (repeat' split) <;> simp
@[simp] theorem State.cancelOffer_meter (s : State) (b : Nat) : (s.cancelOffer b).meter = s.meter := by
  unfold State.cancelOffer; (repeat' split) <;> simp
@[simp] theorem State.cancelOffer_register (s : State) (b : Nat) : (s.cancelOffer b).register = s.register := by
  unfold State.cancelOffer; (repeat' split) <;> simp
@[simp] theorem State.cancelOffer_hire (s : State) (b : Nat) : (s.cancelOffer b).hire = s.hire := by
  unfold State.cancelOffer; (repeat' split) <;> simp
@[simp] theorem State.cancelOffer_journal (s : State) (b : Nat) : (s.cancelOffer b).journal = s.journal := by
  unfold State.cancelOffer; (repeat' split) <;> simp
@[simp] theorem State.cancelOffer_links (s : State) (b : Nat) : (s.cancelOffer b).links = s.links := by
  unfold State.cancelOffer; (repeat' split) <;> simp
@[simp] theorem State.cancelOffer_resetHeld (s : State) (b : Nat) : (s.cancelOffer b).resetHeld = s.resetHeld := by
  unfold State.cancelOffer; (repeat' split) <;> simp
@[simp] theorem State.cancelOffer_freeIndex (s : State) (b : Nat) : (s.cancelOffer b).freeIndex = s.freeIndex := by
  unfold State.cancelOffer; (repeat' split) <;> simp
@[simp] theorem State.cancelOffer_pending (s : State) (b : Nat) : (s.cancelOffer b).pending = s.pending := by
  unfold State.cancelOffer; (repeat' split) <;> simp
@[simp] theorem State.cancelOffer_arriving (s : State) (b : Nat) : (s.cancelOffer b).arriving = s.arriving := by
  unfold State.cancelOffer; (repeat' split) <;> simp

/-! ### joinQueue: bdc -/

@[simp] theorem State.joinQueue_straps (s : State) (b d c : Nat) (x : Output) : (s.joinQueue b d c x).straps = s.straps := by
  unfold State.joinQueue; simp
@[simp] theorem State.joinQueue_banks (s : State) (b d c : Nat) (x : Output) : (s.joinQueue b d c x).banks = s.banks := by
  unfold State.joinQueue; simp
@[simp] theorem State.joinQueue_framer (s : State) (b d c : Nat) (x : Output) : (s.joinQueue b d c x).framer = s.framer := by
  unfold State.joinQueue; simp
@[simp] theorem State.joinQueue_mixer (s : State) (b d c : Nat) (x : Output) : (s.joinQueue b d c x).mixer = s.mixer := by
  unfold State.joinQueue; simp
@[simp] theorem State.joinQueue_relay (s : State) (b d c : Nat) (x : Output) : (s.joinQueue b d c x).relay = s.relay := by
  unfold State.joinQueue; simp
@[simp] theorem State.joinQueue_meter (s : State) (b d c : Nat) (x : Output) : (s.joinQueue b d c x).meter = s.meter := by
  unfold State.joinQueue; simp
@[simp] theorem State.joinQueue_register (s : State) (b d c : Nat) (x : Output) : (s.joinQueue b d c x).register = s.register := by
  unfold State.joinQueue; simp
@[simp] theorem State.joinQueue_hire (s : State) (b d c : Nat) (x : Output) : (s.joinQueue b d c x).hire = s.hire := by
  unfold State.joinQueue; simp
@[simp] theorem State.joinQueue_journal (s : State) (b d c : Nat) (x : Output) : (s.joinQueue b d c x).journal = s.journal := by
  unfold State.joinQueue; simp
@[simp] theorem State.joinQueue_links (s : State) (b d c : Nat) (x : Output) : (s.joinQueue b d c x).links = s.links := by
  unfold State.joinQueue; simp
@[simp] theorem State.joinQueue_resetHeld (s : State) (b d c : Nat) (x : Output) : (s.joinQueue b d c x).resetHeld = s.resetHeld := by
  unfold State.joinQueue; simp
@[simp] theorem State.joinQueue_freeIndex (s : State) (b d c : Nat) (x : Output) : (s.joinQueue b d c x).freeIndex = s.freeIndex := by
  unfold State.joinQueue; simp
@[simp] theorem State.joinQueue_pending (s : State) (b d c : Nat) (x : Output) : (s.joinQueue b d c x).pending = s.pending := by
  unfold State.joinQueue; simp
@[simp] theorem State.joinQueue_arriving (s : State) (b d c : Nat) (x : Output) : (s.joinQueue b d c x).arriving = s.arriving := by
  unfold State.joinQueue; simp

/-! ### withdraw: bdc -/

@[simp] theorem State.withdraw_straps (s : State) (b : Nat) : (s.withdraw b).straps = s.straps := by
  unfold State.withdraw; simp
@[simp] theorem State.withdraw_banks (s : State) (b : Nat) : (s.withdraw b).banks = s.banks := by
  unfold State.withdraw; simp
@[simp] theorem State.withdraw_framer (s : State) (b : Nat) : (s.withdraw b).framer = s.framer := by
  unfold State.withdraw; simp
@[simp] theorem State.withdraw_mixer (s : State) (b : Nat) : (s.withdraw b).mixer = s.mixer := by
  unfold State.withdraw; simp
@[simp] theorem State.withdraw_relay (s : State) (b : Nat) : (s.withdraw b).relay = s.relay := by
  unfold State.withdraw; simp
@[simp] theorem State.withdraw_meter (s : State) (b : Nat) : (s.withdraw b).meter = s.meter := by
  unfold State.withdraw; simp
@[simp] theorem State.withdraw_register (s : State) (b : Nat) : (s.withdraw b).register = s.register := by
  unfold State.withdraw; simp
@[simp] theorem State.withdraw_hire (s : State) (b : Nat) : (s.withdraw b).hire = s.hire := by
  unfold State.withdraw; simp
@[simp] theorem State.withdraw_journal (s : State) (b : Nat) : (s.withdraw b).journal = s.journal := by
  unfold State.withdraw; simp
@[simp] theorem State.withdraw_links (s : State) (b : Nat) : (s.withdraw b).links = s.links := by
  unfold State.withdraw; simp
@[simp] theorem State.withdraw_resetHeld (s : State) (b : Nat) : (s.withdraw b).resetHeld = s.resetHeld := by
  unfold State.withdraw; simp
@[simp] theorem State.withdraw_freeIndex (s : State) (b : Nat) : (s.withdraw b).freeIndex = s.freeIndex := by
  unfold State.withdraw; simp
@[simp] theorem State.withdraw_pending (s : State) (b : Nat) : (s.withdraw b).pending = s.pending := by
  unfold State.withdraw; simp
@[simp] theorem State.withdraw_arriving (s : State) (b : Nat) : (s.withdraw b).arriving = s.arriving := by
  unfold State.withdraw; simp

/-! ### select: bdc -/

@[simp] theorem State.select_straps (s : State) (b d : Nat) (x : Output) : (s.select b d x).straps = s.straps := by
  unfold State.select; simp
@[simp] theorem State.select_banks (s : State) (b d : Nat) (x : Output) : (s.select b d x).banks = s.banks := by
  unfold State.select; simp
@[simp] theorem State.select_framer (s : State) (b d : Nat) (x : Output) : (s.select b d x).framer = s.framer := by
  unfold State.select; simp
@[simp] theorem State.select_mixer (s : State) (b d : Nat) (x : Output) : (s.select b d x).mixer = s.mixer := by
  unfold State.select; simp
@[simp] theorem State.select_relay (s : State) (b d : Nat) (x : Output) : (s.select b d x).relay = s.relay := by
  unfold State.select; simp
@[simp] theorem State.select_meter (s : State) (b d : Nat) (x : Output) : (s.select b d x).meter = s.meter := by
  unfold State.select; simp
@[simp] theorem State.select_register (s : State) (b d : Nat) (x : Output) : (s.select b d x).register = s.register := by
  unfold State.select; simp
@[simp] theorem State.select_hire (s : State) (b d : Nat) (x : Output) : (s.select b d x).hire = s.hire := by
  unfold State.select; simp
@[simp] theorem State.select_journal (s : State) (b d : Nat) (x : Output) : (s.select b d x).journal = s.journal := by
  unfold State.select; simp
@[simp] theorem State.select_links (s : State) (b d : Nat) (x : Output) : (s.select b d x).links = s.links := by
  unfold State.select; simp
@[simp] theorem State.select_resetHeld (s : State) (b d : Nat) (x : Output) : (s.select b d x).resetHeld = s.resetHeld := by
  unfold State.select; simp
@[simp] theorem State.select_freeIndex (s : State) (b d : Nat) (x : Output) : (s.select b d x).freeIndex = s.freeIndex := by
  unfold State.select; simp
@[simp] theorem State.select_pending (s : State) (b d : Nat) (x : Output) : (s.select b d x).pending = s.pending := by
  unfold State.select; simp
@[simp] theorem State.select_arriving (s : State) (b d : Nat) (x : Output) : (s.select b d x).arriving = s.arriving := by
  unfold State.select; simp

/-! ### clearWaits: bdc -/

@[simp] theorem State.clearWaits_straps (s : State) : (s.clearWaits).straps = s.straps := by
  unfold State.clearWaits; simp
@[simp] theorem State.clearWaits_banks (s : State) : (s.clearWaits).banks = s.banks := by
  unfold State.clearWaits; simp
@[simp] theorem State.clearWaits_framer (s : State) : (s.clearWaits).framer = s.framer := by
  unfold State.clearWaits; simp
@[simp] theorem State.clearWaits_mixer (s : State) : (s.clearWaits).mixer = s.mixer := by
  unfold State.clearWaits; simp
@[simp] theorem State.clearWaits_relay (s : State) : (s.clearWaits).relay = s.relay := by
  unfold State.clearWaits; simp
@[simp] theorem State.clearWaits_meter (s : State) : (s.clearWaits).meter = s.meter := by
  unfold State.clearWaits; simp
@[simp] theorem State.clearWaits_register (s : State) : (s.clearWaits).register = s.register := by
  unfold State.clearWaits; simp
@[simp] theorem State.clearWaits_hire (s : State) : (s.clearWaits).hire = s.hire := by
  unfold State.clearWaits; simp
@[simp] theorem State.clearWaits_journal (s : State) : (s.clearWaits).journal = s.journal := by
  unfold State.clearWaits; simp
@[simp] theorem State.clearWaits_links (s : State) : (s.clearWaits).links = s.links := by
  unfold State.clearWaits; simp
@[simp] theorem State.clearWaits_resetHeld (s : State) : (s.clearWaits).resetHeld = s.resetHeld := by
  unfold State.clearWaits; simp
@[simp] theorem State.clearWaits_freeIndex (s : State) : (s.clearWaits).freeIndex = s.freeIndex := by
  unfold State.clearWaits; simp
@[simp] theorem State.clearWaits_pending (s : State) : (s.clearWaits).pending = s.pending := by
  unfold State.clearWaits; simp
@[simp] theorem State.clearWaits_arriving (s : State) : (s.clearWaits).arriving = s.arriving := by
  unfold State.clearWaits; simp

/-! ### clearLives: bdc -/

@[simp] theorem State.clearLives_straps (s : State) : (s.clearLives).straps = s.straps := by
  unfold State.clearLives; simp
@[simp] theorem State.clearLives_banks (s : State) : (s.clearLives).banks = s.banks := by
  unfold State.clearLives; simp
@[simp] theorem State.clearLives_framer (s : State) : (s.clearLives).framer = s.framer := by
  unfold State.clearLives; simp
@[simp] theorem State.clearLives_mixer (s : State) : (s.clearLives).mixer = s.mixer := by
  unfold State.clearLives; simp
@[simp] theorem State.clearLives_relay (s : State) : (s.clearLives).relay = s.relay := by
  unfold State.clearLives; simp
@[simp] theorem State.clearLives_meter (s : State) : (s.clearLives).meter = s.meter := by
  unfold State.clearLives; simp
@[simp] theorem State.clearLives_register (s : State) : (s.clearLives).register = s.register := by
  unfold State.clearLives; simp
@[simp] theorem State.clearLives_hire (s : State) : (s.clearLives).hire = s.hire := by
  unfold State.clearLives; simp
@[simp] theorem State.clearLives_journal (s : State) : (s.clearLives).journal = s.journal := by
  unfold State.clearLives; simp
@[simp] theorem State.clearLives_links (s : State) : (s.clearLives).links = s.links := by
  unfold State.clearLives; simp
@[simp] theorem State.clearLives_resetHeld (s : State) : (s.clearLives).resetHeld = s.resetHeld := by
  unfold State.clearLives; simp
@[simp] theorem State.clearLives_freeIndex (s : State) : (s.clearLives).freeIndex = s.freeIndex := by
  unfold State.clearLives; simp
@[simp] theorem State.clearLives_pending (s : State) : (s.clearLives).pending = s.pending := by
  unfold State.clearLives; simp
@[simp] theorem State.clearLives_arriving (s : State) : (s.clearLives).arriving = s.arriving := by
  unfold State.clearLives; simp

/-! ### grant: bdc, mixer, meter, relay, links -/

@[simp] theorem State.grant_straps (s : State) (b d c : Nat) : (s.grant b d c).straps = s.straps := by
  unfold State.grant; simp
@[simp] theorem State.grant_banks (s : State) (b d c : Nat) : (s.grant b d c).banks = s.banks := by
  unfold State.grant; simp
@[simp] theorem State.grant_framer (s : State) (b d c : Nat) : (s.grant b d c).framer = s.framer := by
  unfold State.grant; simp
@[simp] theorem State.grant_register (s : State) (b d c : Nat) : (s.grant b d c).register = s.register := by
  unfold State.grant; simp
@[simp] theorem State.grant_hire (s : State) (b d c : Nat) : (s.grant b d c).hire = s.hire := by
  unfold State.grant; simp
@[simp] theorem State.grant_journal (s : State) (b d c : Nat) : (s.grant b d c).journal = s.journal := by
  unfold State.grant; simp
@[simp] theorem State.grant_resetHeld (s : State) (b d c : Nat) : (s.grant b d c).resetHeld = s.resetHeld := by
  unfold State.grant; simp
@[simp] theorem State.grant_freeIndex (s : State) (b d c : Nat) : (s.grant b d c).freeIndex = s.freeIndex := by
  unfold State.grant; simp
@[simp] theorem State.grant_pending (s : State) (b d c : Nat) : (s.grant b d c).pending = s.pending := by
  unfold State.grant; simp
@[simp] theorem State.grant_arriving (s : State) (b d c : Nat) : (s.grant b d c).arriving = s.arriving := by
  unfold State.grant; simp

/-! ### release: bdc, mixer, meter, relay, journal, links -/

@[simp] theorem State.release_straps (s : State) (b c : Nat) (r : Reason) : (s.release b c r).straps = s.straps := by
  unfold State.release; simp
@[simp] theorem State.release_banks (s : State) (b c : Nat) (r : Reason) : (s.release b c r).banks = s.banks := by
  unfold State.release; simp
@[simp] theorem State.release_framer (s : State) (b c : Nat) (r : Reason) : (s.release b c r).framer = s.framer := by
  unfold State.release; simp
@[simp] theorem State.release_register (s : State) (b c : Nat) (r : Reason) : (s.release b c r).register = s.register := by
  unfold State.release; simp
@[simp] theorem State.release_hire (s : State) (b c : Nat) (r : Reason) : (s.release b c r).hire = s.hire := by
  unfold State.release; simp
@[simp] theorem State.release_resetHeld (s : State) (b c : Nat) (r : Reason) : (s.release b c r).resetHeld = s.resetHeld := by
  unfold State.release; simp
@[simp] theorem State.release_freeIndex (s : State) (b c : Nat) (r : Reason) : (s.release b c r).freeIndex = s.freeIndex := by
  unfold State.release; simp
@[simp] theorem State.release_pending (s : State) (b c : Nat) (r : Reason) : (s.release b c r).pending = s.pending := by
  unfold State.release; simp
@[simp] theorem State.release_arriving (s : State) (b c : Nat) (r : Reason) : (s.release b c r).arriving = s.arriving := by
  unfold State.release; simp

/-! ### passQueue: bdc, mixer, meter, relay, links -/

@[simp] theorem State.passQueue_straps (s : State) (c : Nat) : (s.passQueue c).straps = s.straps := by
  unfold State.passQueue; (repeat' split) <;> simp
@[simp] theorem State.passQueue_banks (s : State) (c : Nat) : (s.passQueue c).banks = s.banks := by
  unfold State.passQueue; (repeat' split) <;> simp
@[simp] theorem State.passQueue_framer (s : State) (c : Nat) : (s.passQueue c).framer = s.framer := by
  unfold State.passQueue; (repeat' split) <;> simp
@[simp] theorem State.passQueue_register (s : State) (c : Nat) : (s.passQueue c).register = s.register := by
  unfold State.passQueue; (repeat' split) <;> simp
@[simp] theorem State.passQueue_hire (s : State) (c : Nat) : (s.passQueue c).hire = s.hire := by
  unfold State.passQueue; (repeat' split) <;> simp
@[simp] theorem State.passQueue_journal (s : State) (c : Nat) : (s.passQueue c).journal = s.journal := by
  unfold State.passQueue; (repeat' split) <;> simp
@[simp] theorem State.passQueue_resetHeld (s : State) (c : Nat) : (s.passQueue c).resetHeld = s.resetHeld := by
  unfold State.passQueue; (repeat' split) <;> simp
@[simp] theorem State.passQueue_freeIndex (s : State) (c : Nat) : (s.passQueue c).freeIndex = s.freeIndex := by
  unfold State.passQueue; (repeat' split) <;> simp
@[simp] theorem State.passQueue_pending (s : State) (c : Nat) : (s.passQueue c).pending = s.pending := by
  unfold State.passQueue; (repeat' split) <;> simp
@[simp] theorem State.passQueue_arriving (s : State) (c : Nat) : (s.passQueue c).arriving = s.arriving := by
  unfold State.passQueue; (repeat' split) <;> simp

/-! ### handover: bdc, mixer, meter, journal, links -/

@[simp] theorem State.handover_straps (s : State) (b d e c : Nat) : (s.handover b d e c).straps = s.straps := by
  unfold State.handover; simp
@[simp] theorem State.handover_banks (s : State) (b d e c : Nat) : (s.handover b d e c).banks = s.banks := by
  unfold State.handover; simp
@[simp] theorem State.handover_framer (s : State) (b d e c : Nat) : (s.handover b d e c).framer = s.framer := by
  unfold State.handover; simp
@[simp] theorem State.handover_relay (s : State) (b d e c : Nat) : (s.handover b d e c).relay = s.relay := by
  unfold State.handover; simp
@[simp] theorem State.handover_register (s : State) (b d e c : Nat) : (s.handover b d e c).register = s.register := by
  unfold State.handover; simp
@[simp] theorem State.handover_hire (s : State) (b d e c : Nat) : (s.handover b d e c).hire = s.hire := by
  unfold State.handover; simp
@[simp] theorem State.handover_resetHeld (s : State) (b d e c : Nat) : (s.handover b d e c).resetHeld = s.resetHeld := by
  unfold State.handover; simp
@[simp] theorem State.handover_freeIndex (s : State) (b d e c : Nat) : (s.handover b d e c).freeIndex = s.freeIndex := by
  unfold State.handover; simp
@[simp] theorem State.handover_pending (s : State) (b d e c : Nat) : (s.handover b d e c).pending = s.pending := by
  unfold State.handover; simp
@[simp] theorem State.handover_arriving (s : State) (b d e c : Nat) : (s.handover b d e c).arriving = s.arriving := by
  unfold State.handover; simp

/-! ### forceOff: bdc, mixer, meter, relay, journal, links -/

@[simp] theorem State.forceOff_straps (s : State) (b c : Nat) : (s.forceOff b c).straps = s.straps := by
  unfold State.forceOff; simp
@[simp] theorem State.forceOff_banks (s : State) (b c : Nat) : (s.forceOff b c).banks = s.banks := by
  unfold State.forceOff; simp
@[simp] theorem State.forceOff_framer (s : State) (b c : Nat) : (s.forceOff b c).framer = s.framer := by
  unfold State.forceOff; simp
@[simp] theorem State.forceOff_register (s : State) (b c : Nat) : (s.forceOff b c).register = s.register := by
  unfold State.forceOff; simp
@[simp] theorem State.forceOff_hire (s : State) (b c : Nat) : (s.forceOff b c).hire = s.hire := by
  unfold State.forceOff; simp
@[simp] theorem State.forceOff_resetHeld (s : State) (b c : Nat) : (s.forceOff b c).resetHeld = s.resetHeld := by
  unfold State.forceOff; simp
@[simp] theorem State.forceOff_freeIndex (s : State) (b c : Nat) : (s.forceOff b c).freeIndex = s.freeIndex := by
  unfold State.forceOff; simp
@[simp] theorem State.forceOff_pending (s : State) (b c : Nat) : (s.forceOff b c).pending = s.pending := by
  unfold State.forceOff; simp
@[simp] theorem State.forceOff_arriving (s : State) (b c : Nat) : (s.forceOff b c).arriving = s.arriving := by
  unfold State.forceOff; simp

/-! ### releaseBooth: bdc, mixer, meter, relay, journal, links -/

@[simp] theorem State.releaseBooth_straps (s : State) (b : Nat) : (s.releaseBooth b).straps = s.straps := by
  unfold State.releaseBooth; (repeat' split) <;> simp
@[simp] theorem State.releaseBooth_banks (s : State) (b : Nat) : (s.releaseBooth b).banks = s.banks := by
  unfold State.releaseBooth; (repeat' split) <;> simp
@[simp] theorem State.releaseBooth_framer (s : State) (b : Nat) : (s.releaseBooth b).framer = s.framer := by
  unfold State.releaseBooth; (repeat' split) <;> simp
@[simp] theorem State.releaseBooth_register (s : State) (b : Nat) : (s.releaseBooth b).register = s.register := by
  unfold State.releaseBooth; (repeat' split) <;> simp
@[simp] theorem State.releaseBooth_hire (s : State) (b : Nat) : (s.releaseBooth b).hire = s.hire := by
  unfold State.releaseBooth; (repeat' split) <;> simp
@[simp] theorem State.releaseBooth_resetHeld (s : State) (b : Nat) : (s.releaseBooth b).resetHeld = s.resetHeld := by
  unfold State.releaseBooth; (repeat' split) <;> simp
@[simp] theorem State.releaseBooth_freeIndex (s : State) (b : Nat) : (s.releaseBooth b).freeIndex = s.freeIndex := by
  unfold State.releaseBooth; (repeat' split) <;> simp
@[simp] theorem State.releaseBooth_pending (s : State) (b : Nat) : (s.releaseBooth b).pending = s.pending := by
  unfold State.releaseBooth; (repeat' split) <;> simp
@[simp] theorem State.releaseBooth_arriving (s : State) (b : Nat) : (s.releaseBooth b).arriving = s.arriving := by
  unfold State.releaseBooth; (repeat' split) <;> simp

/-! ### leaveOld: mixer, relay -/

@[simp] theorem State.leaveOld_straps (s : State) (c : Nat) : (s.leaveOld c).straps = s.straps := by
  unfold State.leaveOld; (repeat' split) <;> simp
@[simp] theorem State.leaveOld_banks (s : State) (c : Nat) : (s.leaveOld c).banks = s.banks := by
  unfold State.leaveOld; (repeat' split) <;> simp
@[simp] theorem State.leaveOld_framer (s : State) (c : Nat) : (s.leaveOld c).framer = s.framer := by
  unfold State.leaveOld; (repeat' split) <;> simp
@[simp] theorem State.leaveOld_bdc (s : State) (c : Nat) : (s.leaveOld c).bdc = s.bdc := by
  unfold State.leaveOld; (repeat' split) <;> simp
@[simp] theorem State.leaveOld_meter (s : State) (c : Nat) : (s.leaveOld c).meter = s.meter := by
  unfold State.leaveOld; (repeat' split) <;> simp
@[simp] theorem State.leaveOld_register (s : State) (c : Nat) : (s.leaveOld c).register = s.register := by
  unfold State.leaveOld; (repeat' split) <;> simp
@[simp] theorem State.leaveOld_hire (s : State) (c : Nat) : (s.leaveOld c).hire = s.hire := by
  unfold State.leaveOld; (repeat' split) <;> simp
@[simp] theorem State.leaveOld_journal (s : State) (c : Nat) : (s.leaveOld c).journal = s.journal := by
  unfold State.leaveOld; (repeat' split) <;> simp
@[simp] theorem State.leaveOld_links (s : State) (c : Nat) : (s.leaveOld c).links = s.links := by
  unfold State.leaveOld; (repeat' split) <;> simp
@[simp] theorem State.leaveOld_resetHeld (s : State) (c : Nat) : (s.leaveOld c).resetHeld = s.resetHeld := by
  unfold State.leaveOld; (repeat' split) <;> simp
@[simp] theorem State.leaveOld_freeIndex (s : State) (c : Nat) : (s.leaveOld c).freeIndex = s.freeIndex := by
  unfold State.leaveOld; (repeat' split) <;> simp
@[simp] theorem State.leaveOld_pending (s : State) (c : Nat) : (s.leaveOld c).pending = s.pending := by
  unfold State.leaveOld; (repeat' split) <;> simp
@[simp] theorem State.leaveOld_arriving (s : State) (c : Nat) : (s.leaveOld c).arriving = s.arriving := by
  unfold State.leaveOld; (repeat' split) <;> simp

/-! ### reportCarry: mixer, relay, meter, journal, links -/

@[simp] theorem State.reportCarry_straps (s : State) (x : Carry) : (s.reportCarry x).straps = s.straps := by
  unfold State.reportCarry; (repeat' split) <;> simp
@[simp] theorem State.reportCarry_banks (s : State) (x : Carry) : (s.reportCarry x).banks = s.banks := by
  unfold State.reportCarry; (repeat' split) <;> simp
@[simp] theorem State.reportCarry_framer (s : State) (x : Carry) : (s.reportCarry x).framer = s.framer := by
  unfold State.reportCarry; (repeat' split) <;> simp
@[simp] theorem State.reportCarry_bdc (s : State) (x : Carry) : (s.reportCarry x).bdc = s.bdc := by
  unfold State.reportCarry; (repeat' split) <;> simp
@[simp] theorem State.reportCarry_register (s : State) (x : Carry) : (s.reportCarry x).register = s.register := by
  unfold State.reportCarry; (repeat' split) <;> simp
@[simp] theorem State.reportCarry_hire (s : State) (x : Carry) : (s.reportCarry x).hire = s.hire := by
  unfold State.reportCarry; (repeat' split) <;> simp
@[simp] theorem State.reportCarry_resetHeld (s : State) (x : Carry) : (s.reportCarry x).resetHeld = s.resetHeld := by
  unfold State.reportCarry; (repeat' split) <;> simp
@[simp] theorem State.reportCarry_freeIndex (s : State) (x : Carry) : (s.reportCarry x).freeIndex = s.freeIndex := by
  unfold State.reportCarry; (repeat' split) <;> simp
@[simp] theorem State.reportCarry_pending (s : State) (x : Carry) : (s.reportCarry x).pending = s.pending := by
  unfold State.reportCarry; (repeat' split) <;> simp
@[simp] theorem State.reportCarry_arriving (s : State) (x : Carry) : (s.reportCarry x).arriving = s.arriving := by
  unfold State.reportCarry; (repeat' split) <;> simp

/-! ### countIssue: meter -/

@[simp] theorem State.countIssue_straps (s : State) : (s.countIssue).straps = s.straps := by
  unfold State.countIssue; (repeat' split) <;> simp
@[simp] theorem State.countIssue_banks (s : State) : (s.countIssue).banks = s.banks := by
  unfold State.countIssue; (repeat' split) <;> simp
@[simp] theorem State.countIssue_framer (s : State) : (s.countIssue).framer = s.framer := by
  unfold State.countIssue; (repeat' split) <;> simp
@[simp] theorem State.countIssue_mixer (s : State) : (s.countIssue).mixer = s.mixer := by
  unfold State.countIssue; (repeat' split) <;> simp
@[simp] theorem State.countIssue_bdc (s : State) : (s.countIssue).bdc = s.bdc := by
  unfold State.countIssue; (repeat' split) <;> simp
@[simp] theorem State.countIssue_relay (s : State) : (s.countIssue).relay = s.relay := by
  unfold State.countIssue; (repeat' split) <;> simp
@[simp] theorem State.countIssue_register (s : State) : (s.countIssue).register = s.register := by
  unfold State.countIssue; (repeat' split) <;> simp
@[simp] theorem State.countIssue_hire (s : State) : (s.countIssue).hire = s.hire := by
  unfold State.countIssue; (repeat' split) <;> simp
@[simp] theorem State.countIssue_journal (s : State) : (s.countIssue).journal = s.journal := by
  unfold State.countIssue; (repeat' split) <;> simp
@[simp] theorem State.countIssue_links (s : State) : (s.countIssue).links = s.links := by
  unfold State.countIssue; (repeat' split) <;> simp
@[simp] theorem State.countIssue_resetHeld (s : State) : (s.countIssue).resetHeld = s.resetHeld := by
  unfold State.countIssue; (repeat' split) <;> simp
@[simp] theorem State.countIssue_freeIndex (s : State) : (s.countIssue).freeIndex = s.freeIndex := by
  unfold State.countIssue; (repeat' split) <;> simp
@[simp] theorem State.countIssue_pending (s : State) : (s.countIssue).pending = s.pending := by
  unfold State.countIssue; (repeat' split) <;> simp
@[simp] theorem State.countIssue_arriving (s : State) : (s.countIssue).arriving = s.arriving := by
  unfold State.countIssue; (repeat' split) <;> simp

/-! ### countReturn: meter -/

@[simp] theorem State.countReturn_straps (s : State) (n : Nat) (w : Leaving) : (s.countReturn n w).straps = s.straps := by
  unfold State.countReturn; (repeat' split) <;> simp
@[simp] theorem State.countReturn_banks (s : State) (n : Nat) (w : Leaving) : (s.countReturn n w).banks = s.banks := by
  unfold State.countReturn; (repeat' split) <;> simp
@[simp] theorem State.countReturn_framer (s : State) (n : Nat) (w : Leaving) : (s.countReturn n w).framer = s.framer := by
  unfold State.countReturn; (repeat' split) <;> simp
@[simp] theorem State.countReturn_mixer (s : State) (n : Nat) (w : Leaving) : (s.countReturn n w).mixer = s.mixer := by
  unfold State.countReturn; (repeat' split) <;> simp
@[simp] theorem State.countReturn_bdc (s : State) (n : Nat) (w : Leaving) : (s.countReturn n w).bdc = s.bdc := by
  unfold State.countReturn; (repeat' split) <;> simp
@[simp] theorem State.countReturn_relay (s : State) (n : Nat) (w : Leaving) : (s.countReturn n w).relay = s.relay := by
  unfold State.countReturn; (repeat' split) <;> simp
@[simp] theorem State.countReturn_register (s : State) (n : Nat) (w : Leaving) : (s.countReturn n w).register = s.register := by
  unfold State.countReturn; (repeat' split) <;> simp
@[simp] theorem State.countReturn_hire (s : State) (n : Nat) (w : Leaving) : (s.countReturn n w).hire = s.hire := by
  unfold State.countReturn; (repeat' split) <;> simp
@[simp] theorem State.countReturn_journal (s : State) (n : Nat) (w : Leaving) : (s.countReturn n w).journal = s.journal := by
  unfold State.countReturn; (repeat' split) <;> simp
@[simp] theorem State.countReturn_links (s : State) (n : Nat) (w : Leaving) : (s.countReturn n w).links = s.links := by
  unfold State.countReturn; (repeat' split) <;> simp
@[simp] theorem State.countReturn_resetHeld (s : State) (n : Nat) (w : Leaving) : (s.countReturn n w).resetHeld = s.resetHeld := by
  unfold State.countReturn; (repeat' split) <;> simp
@[simp] theorem State.countReturn_freeIndex (s : State) (n : Nat) (w : Leaving) : (s.countReturn n w).freeIndex = s.freeIndex := by
  unfold State.countReturn; (repeat' split) <;> simp
@[simp] theorem State.countReturn_pending (s : State) (n : Nat) (w : Leaving) : (s.countReturn n w).pending = s.pending := by
  unfold State.countReturn; (repeat' split) <;> simp
@[simp] theorem State.countReturn_arriving (s : State) (n : Nat) (w : Leaving) : (s.countReturn n w).arriving = s.arriving := by
  unfold State.countReturn; (repeat' split) <;> simp

/-! ### issue: register, hire, meter -/

@[simp] theorem State.issue_straps (s : State) (k : Nat) (r : Receiver) (n p : Nat) (a : Account) : (s.issue k r n p a).straps = s.straps := by
  unfold State.issue; simp
@[simp] theorem State.issue_banks (s : State) (k : Nat) (r : Receiver) (n p : Nat) (a : Account) : (s.issue k r n p a).banks = s.banks := by
  unfold State.issue; simp
@[simp] theorem State.issue_framer (s : State) (k : Nat) (r : Receiver) (n p : Nat) (a : Account) : (s.issue k r n p a).framer = s.framer := by
  unfold State.issue; simp
@[simp] theorem State.issue_mixer (s : State) (k : Nat) (r : Receiver) (n p : Nat) (a : Account) : (s.issue k r n p a).mixer = s.mixer := by
  unfold State.issue; simp
@[simp] theorem State.issue_bdc (s : State) (k : Nat) (r : Receiver) (n p : Nat) (a : Account) : (s.issue k r n p a).bdc = s.bdc := by
  unfold State.issue; simp
@[simp] theorem State.issue_relay (s : State) (k : Nat) (r : Receiver) (n p : Nat) (a : Account) : (s.issue k r n p a).relay = s.relay := by
  unfold State.issue; simp
@[simp] theorem State.issue_journal (s : State) (k : Nat) (r : Receiver) (n p : Nat) (a : Account) : (s.issue k r n p a).journal = s.journal := by
  unfold State.issue; simp
@[simp] theorem State.issue_links (s : State) (k : Nat) (r : Receiver) (n p : Nat) (a : Account) : (s.issue k r n p a).links = s.links := by
  unfold State.issue; simp
@[simp] theorem State.issue_resetHeld (s : State) (k : Nat) (r : Receiver) (n p : Nat) (a : Account) : (s.issue k r n p a).resetHeld = s.resetHeld := by
  unfold State.issue; simp
@[simp] theorem State.issue_freeIndex (s : State) (k : Nat) (r : Receiver) (n p : Nat) (a : Account) : (s.issue k r n p a).freeIndex = s.freeIndex := by
  unfold State.issue; simp
@[simp] theorem State.issue_pending (s : State) (k : Nat) (r : Receiver) (n p : Nat) (a : Account) : (s.issue k r n p a).pending = s.pending := by
  unfold State.issue; simp
@[simp] theorem State.issue_arriving (s : State) (k : Nat) (r : Receiver) (n p : Nat) (a : Account) : (s.issue k r n p a).arriving = s.arriving := by
  unfold State.issue; simp

/-! ### changePreset: register, hire -/

@[simp] theorem State.changePreset_straps (s : State) (k : Nat) (r : Receiver) (h : HireFields) (l : Nat) : (s.changePreset k r h l).straps = s.straps := by
  unfold State.changePreset; simp
@[simp] theorem State.changePreset_banks (s : State) (k : Nat) (r : Receiver) (h : HireFields) (l : Nat) : (s.changePreset k r h l).banks = s.banks := by
  unfold State.changePreset; simp
@[simp] theorem State.changePreset_framer (s : State) (k : Nat) (r : Receiver) (h : HireFields) (l : Nat) : (s.changePreset k r h l).framer = s.framer := by
  unfold State.changePreset; simp
@[simp] theorem State.changePreset_mixer (s : State) (k : Nat) (r : Receiver) (h : HireFields) (l : Nat) : (s.changePreset k r h l).mixer = s.mixer := by
  unfold State.changePreset; simp
@[simp] theorem State.changePreset_bdc (s : State) (k : Nat) (r : Receiver) (h : HireFields) (l : Nat) : (s.changePreset k r h l).bdc = s.bdc := by
  unfold State.changePreset; simp
@[simp] theorem State.changePreset_relay (s : State) (k : Nat) (r : Receiver) (h : HireFields) (l : Nat) : (s.changePreset k r h l).relay = s.relay := by
  unfold State.changePreset; simp
@[simp] theorem State.changePreset_meter (s : State) (k : Nat) (r : Receiver) (h : HireFields) (l : Nat) : (s.changePreset k r h l).meter = s.meter := by
  unfold State.changePreset; simp
@[simp] theorem State.changePreset_journal (s : State) (k : Nat) (r : Receiver) (h : HireFields) (l : Nat) : (s.changePreset k r h l).journal = s.journal := by
  unfold State.changePreset; simp
@[simp] theorem State.changePreset_links (s : State) (k : Nat) (r : Receiver) (h : HireFields) (l : Nat) : (s.changePreset k r h l).links = s.links := by
  unfold State.changePreset; simp
@[simp] theorem State.changePreset_resetHeld (s : State) (k : Nat) (r : Receiver) (h : HireFields) (l : Nat) : (s.changePreset k r h l).resetHeld = s.resetHeld := by
  unfold State.changePreset; simp
@[simp] theorem State.changePreset_freeIndex (s : State) (k : Nat) (r : Receiver) (h : HireFields) (l : Nat) : (s.changePreset k r h l).freeIndex = s.freeIndex := by
  unfold State.changePreset; simp
@[simp] theorem State.changePreset_pending (s : State) (k : Nat) (r : Receiver) (h : HireFields) (l : Nat) : (s.changePreset k r h l).pending = s.pending := by
  unfold State.changePreset; simp
@[simp] theorem State.changePreset_arriving (s : State) (k : Nat) (r : Receiver) (h : HireFields) (l : Nat) : (s.changePreset k r h l).arriving = s.arriving := by
  unfold State.changePreset; simp

/-! ### leaveHire: journal, links, register, hire, meter -/

@[simp] theorem State.leaveHire_straps (s : State) (k : Nat) (r : Receiver) (h : HireFields) (w : Leaving) : (s.leaveHire k r h w).straps = s.straps := by
  unfold State.leaveHire; simp
@[simp] theorem State.leaveHire_banks (s : State) (k : Nat) (r : Receiver) (h : HireFields) (w : Leaving) : (s.leaveHire k r h w).banks = s.banks := by
  unfold State.leaveHire; simp
@[simp] theorem State.leaveHire_framer (s : State) (k : Nat) (r : Receiver) (h : HireFields) (w : Leaving) : (s.leaveHire k r h w).framer = s.framer := by
  unfold State.leaveHire; simp
@[simp] theorem State.leaveHire_mixer (s : State) (k : Nat) (r : Receiver) (h : HireFields) (w : Leaving) : (s.leaveHire k r h w).mixer = s.mixer := by
  unfold State.leaveHire; simp
@[simp] theorem State.leaveHire_bdc (s : State) (k : Nat) (r : Receiver) (h : HireFields) (w : Leaving) : (s.leaveHire k r h w).bdc = s.bdc := by
  unfold State.leaveHire; simp
@[simp] theorem State.leaveHire_relay (s : State) (k : Nat) (r : Receiver) (h : HireFields) (w : Leaving) : (s.leaveHire k r h w).relay = s.relay := by
  unfold State.leaveHire; simp
@[simp] theorem State.leaveHire_resetHeld (s : State) (k : Nat) (r : Receiver) (h : HireFields) (w : Leaving) : (s.leaveHire k r h w).resetHeld = s.resetHeld := by
  unfold State.leaveHire; simp
@[simp] theorem State.leaveHire_freeIndex (s : State) (k : Nat) (r : Receiver) (h : HireFields) (w : Leaving) : (s.leaveHire k r h w).freeIndex = s.freeIndex := by
  unfold State.leaveHire; simp
@[simp] theorem State.leaveHire_pending (s : State) (k : Nat) (r : Receiver) (h : HireFields) (w : Leaving) : (s.leaveHire k r h w).pending = s.pending := by
  unfold State.leaveHire; simp
@[simp] theorem State.leaveHire_arriving (s : State) (k : Nat) (r : Receiver) (h : HireFields) (w : Leaving) : (s.leaveHire k r h w).arriving = s.arriving := by
  unfold State.leaveHire; simp

/-! ### markOrphans: register, links -/

@[simp] theorem State.markOrphans_straps (s : State) : (s.markOrphans).straps = s.straps := by
  unfold State.markOrphans; simp
@[simp] theorem State.markOrphans_banks (s : State) : (s.markOrphans).banks = s.banks := by
  unfold State.markOrphans; simp
@[simp] theorem State.markOrphans_framer (s : State) : (s.markOrphans).framer = s.framer := by
  unfold State.markOrphans; simp
@[simp] theorem State.markOrphans_mixer (s : State) : (s.markOrphans).mixer = s.mixer := by
  unfold State.markOrphans; simp
@[simp] theorem State.markOrphans_bdc (s : State) : (s.markOrphans).bdc = s.bdc := by
  unfold State.markOrphans; simp
@[simp] theorem State.markOrphans_relay (s : State) : (s.markOrphans).relay = s.relay := by
  unfold State.markOrphans; simp
@[simp] theorem State.markOrphans_meter (s : State) : (s.markOrphans).meter = s.meter := by
  unfold State.markOrphans; simp
@[simp] theorem State.markOrphans_hire (s : State) : (s.markOrphans).hire = s.hire := by
  unfold State.markOrphans; simp
@[simp] theorem State.markOrphans_journal (s : State) : (s.markOrphans).journal = s.journal := by
  unfold State.markOrphans; simp
@[simp] theorem State.markOrphans_resetHeld (s : State) : (s.markOrphans).resetHeld = s.resetHeld := by
  unfold State.markOrphans; simp
@[simp] theorem State.markOrphans_freeIndex (s : State) : (s.markOrphans).freeIndex = s.freeIndex := by
  unfold State.markOrphans; simp
@[simp] theorem State.markOrphans_pending (s : State) : (s.markOrphans).pending = s.pending := by
  unfold State.markOrphans; simp
@[simp] theorem State.markOrphans_arriving (s : State) : (s.markOrphans).arriving = s.arriving := by
  unfold State.markOrphans; simp

/-! ### commitBank: banks -/

@[simp] theorem State.commitBank_straps (s : State) (k : Nat) (x : BankStatus) : (s.commitBank k x).straps = s.straps := by
  unfold State.commitBank; simp
@[simp] theorem State.commitBank_framer (s : State) (k : Nat) (x : BankStatus) : (s.commitBank k x).framer = s.framer := by
  unfold State.commitBank; simp
@[simp] theorem State.commitBank_mixer (s : State) (k : Nat) (x : BankStatus) : (s.commitBank k x).mixer = s.mixer := by
  unfold State.commitBank; simp
@[simp] theorem State.commitBank_bdc (s : State) (k : Nat) (x : BankStatus) : (s.commitBank k x).bdc = s.bdc := by
  unfold State.commitBank; simp
@[simp] theorem State.commitBank_relay (s : State) (k : Nat) (x : BankStatus) : (s.commitBank k x).relay = s.relay := by
  unfold State.commitBank; simp
@[simp] theorem State.commitBank_meter (s : State) (k : Nat) (x : BankStatus) : (s.commitBank k x).meter = s.meter := by
  unfold State.commitBank; simp
@[simp] theorem State.commitBank_register (s : State) (k : Nat) (x : BankStatus) : (s.commitBank k x).register = s.register := by
  unfold State.commitBank; simp
@[simp] theorem State.commitBank_hire (s : State) (k : Nat) (x : BankStatus) : (s.commitBank k x).hire = s.hire := by
  unfold State.commitBank; simp
@[simp] theorem State.commitBank_journal (s : State) (k : Nat) (x : BankStatus) : (s.commitBank k x).journal = s.journal := by
  unfold State.commitBank; simp
@[simp] theorem State.commitBank_links (s : State) (k : Nat) (x : BankStatus) : (s.commitBank k x).links = s.links := by
  unfold State.commitBank; simp
@[simp] theorem State.commitBank_resetHeld (s : State) (k : Nat) (x : BankStatus) : (s.commitBank k x).resetHeld = s.resetHeld := by
  unfold State.commitBank; simp
@[simp] theorem State.commitBank_freeIndex (s : State) (k : Nat) (x : BankStatus) : (s.commitBank k x).freeIndex = s.freeIndex := by
  unfold State.commitBank; simp
@[simp] theorem State.commitBank_pending (s : State) (k : Nat) (x : BankStatus) : (s.commitBank k x).pending = s.pending := by
  unfold State.commitBank; simp
@[simp] theorem State.commitBank_arriving (s : State) (k : Nat) (x : BankStatus) : (s.commitBank k x).arriving = s.arriving := by
  unfold State.commitBank; simp

/-! ### exchangeBanks: banks -/

@[simp] theorem State.exchangeBanks_straps (s : State) (k : Nat) : (s.exchangeBanks k).straps = s.straps := by
  unfold State.exchangeBanks; (repeat' split) <;> simp
@[simp] theorem State.exchangeBanks_framer (s : State) (k : Nat) : (s.exchangeBanks k).framer = s.framer := by
  unfold State.exchangeBanks; (repeat' split) <;> simp
@[simp] theorem State.exchangeBanks_mixer (s : State) (k : Nat) : (s.exchangeBanks k).mixer = s.mixer := by
  unfold State.exchangeBanks; (repeat' split) <;> simp
@[simp] theorem State.exchangeBanks_bdc (s : State) (k : Nat) : (s.exchangeBanks k).bdc = s.bdc := by
  unfold State.exchangeBanks; (repeat' split) <;> simp
@[simp] theorem State.exchangeBanks_relay (s : State) (k : Nat) : (s.exchangeBanks k).relay = s.relay := by
  unfold State.exchangeBanks; (repeat' split) <;> simp
@[simp] theorem State.exchangeBanks_meter (s : State) (k : Nat) : (s.exchangeBanks k).meter = s.meter := by
  unfold State.exchangeBanks; (repeat' split) <;> simp
@[simp] theorem State.exchangeBanks_register (s : State) (k : Nat) : (s.exchangeBanks k).register = s.register := by
  unfold State.exchangeBanks; (repeat' split) <;> simp
@[simp] theorem State.exchangeBanks_hire (s : State) (k : Nat) : (s.exchangeBanks k).hire = s.hire := by
  unfold State.exchangeBanks; (repeat' split) <;> simp
@[simp] theorem State.exchangeBanks_journal (s : State) (k : Nat) : (s.exchangeBanks k).journal = s.journal := by
  unfold State.exchangeBanks; (repeat' split) <;> simp
@[simp] theorem State.exchangeBanks_links (s : State) (k : Nat) : (s.exchangeBanks k).links = s.links := by
  unfold State.exchangeBanks; (repeat' split) <;> simp
@[simp] theorem State.exchangeBanks_resetHeld (s : State) (k : Nat) : (s.exchangeBanks k).resetHeld = s.resetHeld := by
  unfold State.exchangeBanks; (repeat' split) <;> simp
@[simp] theorem State.exchangeBanks_freeIndex (s : State) (k : Nat) : (s.exchangeBanks k).freeIndex = s.freeIndex := by
  unfold State.exchangeBanks; (repeat' split) <;> simp
@[simp] theorem State.exchangeBanks_pending (s : State) (k : Nat) : (s.exchangeBanks k).pending = s.pending := by
  unfold State.exchangeBanks; (repeat' split) <;> simp
@[simp] theorem State.exchangeBanks_arriving (s : State) (k : Nat) : (s.exchangeBanks k).arriving = s.arriving := by
  unfold State.exchangeBanks; (repeat' split) <;> simp

/-! ### retireBanks: banks -/

@[simp] theorem State.retireBanks_straps (s : State) : (s.retireBanks).straps = s.straps := by
  unfold State.retireBanks; simp
@[simp] theorem State.retireBanks_framer (s : State) : (s.retireBanks).framer = s.framer := by
  unfold State.retireBanks; simp
@[simp] theorem State.retireBanks_mixer (s : State) : (s.retireBanks).mixer = s.mixer := by
  unfold State.retireBanks; simp
@[simp] theorem State.retireBanks_bdc (s : State) : (s.retireBanks).bdc = s.bdc := by
  unfold State.retireBanks; simp
@[simp] theorem State.retireBanks_relay (s : State) : (s.retireBanks).relay = s.relay := by
  unfold State.retireBanks; simp
@[simp] theorem State.retireBanks_meter (s : State) : (s.retireBanks).meter = s.meter := by
  unfold State.retireBanks; simp
@[simp] theorem State.retireBanks_register (s : State) : (s.retireBanks).register = s.register := by
  unfold State.retireBanks; simp
@[simp] theorem State.retireBanks_hire (s : State) : (s.retireBanks).hire = s.hire := by
  unfold State.retireBanks; simp
@[simp] theorem State.retireBanks_journal (s : State) : (s.retireBanks).journal = s.journal := by
  unfold State.retireBanks; simp
@[simp] theorem State.retireBanks_links (s : State) : (s.retireBanks).links = s.links := by
  unfold State.retireBanks; simp
@[simp] theorem State.retireBanks_resetHeld (s : State) : (s.retireBanks).resetHeld = s.resetHeld := by
  unfold State.retireBanks; simp
@[simp] theorem State.retireBanks_freeIndex (s : State) : (s.retireBanks).freeIndex = s.freeIndex := by
  unfold State.retireBanks; simp
@[simp] theorem State.retireBanks_pending (s : State) : (s.retireBanks).pending = s.pending := by
  unfold State.retireBanks; simp
@[simp] theorem State.retireBanks_arriving (s : State) : (s.retireBanks).arriving = s.arriving := by
  unfold State.retireBanks; simp

/-! ### beginFrame: framer, mixer -/

@[simp] theorem State.beginFrame_straps (s : State) (t o m : Bool) : (s.beginFrame t o m).straps = s.straps := by
  unfold State.beginFrame; simp
@[simp] theorem State.beginFrame_banks (s : State) (t o m : Bool) : (s.beginFrame t o m).banks = s.banks := by
  unfold State.beginFrame; simp
@[simp] theorem State.beginFrame_bdc (s : State) (t o m : Bool) : (s.beginFrame t o m).bdc = s.bdc := by
  unfold State.beginFrame; simp
@[simp] theorem State.beginFrame_relay (s : State) (t o m : Bool) : (s.beginFrame t o m).relay = s.relay := by
  unfold State.beginFrame; simp
@[simp] theorem State.beginFrame_meter (s : State) (t o m : Bool) : (s.beginFrame t o m).meter = s.meter := by
  unfold State.beginFrame; simp
@[simp] theorem State.beginFrame_register (s : State) (t o m : Bool) : (s.beginFrame t o m).register = s.register := by
  unfold State.beginFrame; simp
@[simp] theorem State.beginFrame_hire (s : State) (t o m : Bool) : (s.beginFrame t o m).hire = s.hire := by
  unfold State.beginFrame; simp
@[simp] theorem State.beginFrame_journal (s : State) (t o m : Bool) : (s.beginFrame t o m).journal = s.journal := by
  unfold State.beginFrame; simp
@[simp] theorem State.beginFrame_links (s : State) (t o m : Bool) : (s.beginFrame t o m).links = s.links := by
  unfold State.beginFrame; simp
@[simp] theorem State.beginFrame_resetHeld (s : State) (t o m : Bool) : (s.beginFrame t o m).resetHeld = s.resetHeld := by
  unfold State.beginFrame; simp
@[simp] theorem State.beginFrame_freeIndex (s : State) (t o m : Bool) : (s.beginFrame t o m).freeIndex = s.freeIndex := by
  unfold State.beginFrame; simp
@[simp] theorem State.beginFrame_pending (s : State) (t o m : Bool) : (s.beginFrame t o m).pending = s.pending := by
  unfold State.beginFrame; simp
@[simp] theorem State.beginFrame_arriving (s : State) (t o m : Bool) : (s.beginFrame t o m).arriving = s.arriving := by
  unfold State.beginFrame; simp

/-! ### endFrame: framer -/

@[simp] theorem State.endFrame_straps (s : State) : (s.endFrame).straps = s.straps := by
  unfold State.endFrame; simp
@[simp] theorem State.endFrame_banks (s : State) : (s.endFrame).banks = s.banks := by
  unfold State.endFrame; simp
@[simp] theorem State.endFrame_mixer (s : State) : (s.endFrame).mixer = s.mixer := by
  unfold State.endFrame; simp
@[simp] theorem State.endFrame_bdc (s : State) : (s.endFrame).bdc = s.bdc := by
  unfold State.endFrame; simp
@[simp] theorem State.endFrame_relay (s : State) : (s.endFrame).relay = s.relay := by
  unfold State.endFrame; simp
@[simp] theorem State.endFrame_meter (s : State) : (s.endFrame).meter = s.meter := by
  unfold State.endFrame; simp
@[simp] theorem State.endFrame_register (s : State) : (s.endFrame).register = s.register := by
  unfold State.endFrame; simp
@[simp] theorem State.endFrame_hire (s : State) : (s.endFrame).hire = s.hire := by
  unfold State.endFrame; simp
@[simp] theorem State.endFrame_journal (s : State) : (s.endFrame).journal = s.journal := by
  unfold State.endFrame; simp
@[simp] theorem State.endFrame_links (s : State) : (s.endFrame).links = s.links := by
  unfold State.endFrame; simp
@[simp] theorem State.endFrame_resetHeld (s : State) : (s.endFrame).resetHeld = s.resetHeld := by
  unfold State.endFrame; simp
@[simp] theorem State.endFrame_freeIndex (s : State) : (s.endFrame).freeIndex = s.freeIndex := by
  unfold State.endFrame; simp
@[simp] theorem State.endFrame_pending (s : State) : (s.endFrame).pending = s.pending := by
  unfold State.endFrame; simp
@[simp] theorem State.endFrame_arriving (s : State) : (s.endFrame).arriving = s.arriving := by
  unfold State.endFrame; simp

/-! ### cutFrame: framer, freeIndex -/

@[simp] theorem State.cutFrame_straps (s : State) : (s.cutFrame).straps = s.straps := by
  unfold State.cutFrame; simp
@[simp] theorem State.cutFrame_banks (s : State) : (s.cutFrame).banks = s.banks := by
  unfold State.cutFrame; simp
@[simp] theorem State.cutFrame_mixer (s : State) : (s.cutFrame).mixer = s.mixer := by
  unfold State.cutFrame; simp
@[simp] theorem State.cutFrame_bdc (s : State) : (s.cutFrame).bdc = s.bdc := by
  unfold State.cutFrame; simp
@[simp] theorem State.cutFrame_relay (s : State) : (s.cutFrame).relay = s.relay := by
  unfold State.cutFrame; simp
@[simp] theorem State.cutFrame_meter (s : State) : (s.cutFrame).meter = s.meter := by
  unfold State.cutFrame; simp
@[simp] theorem State.cutFrame_register (s : State) : (s.cutFrame).register = s.register := by
  unfold State.cutFrame; simp
@[simp] theorem State.cutFrame_hire (s : State) : (s.cutFrame).hire = s.hire := by
  unfold State.cutFrame; simp
@[simp] theorem State.cutFrame_journal (s : State) : (s.cutFrame).journal = s.journal := by
  unfold State.cutFrame; simp
@[simp] theorem State.cutFrame_links (s : State) : (s.cutFrame).links = s.links := by
  unfold State.cutFrame; simp
@[simp] theorem State.cutFrame_resetHeld (s : State) : (s.cutFrame).resetHeld = s.resetHeld := by
  unfold State.cutFrame; simp
@[simp] theorem State.cutFrame_pending (s : State) : (s.cutFrame).pending = s.pending := by
  unfold State.cutFrame; simp
@[simp] theorem State.cutFrame_arriving (s : State) : (s.cutFrame).arriving = s.arriving := by
  unfold State.cutFrame; simp

/-! ### endOverride: framer -/

@[simp] theorem State.endOverride_straps (s : State) : (s.endOverride).straps = s.straps := by
  unfold State.endOverride; simp
@[simp] theorem State.endOverride_banks (s : State) : (s.endOverride).banks = s.banks := by
  unfold State.endOverride; simp
@[simp] theorem State.endOverride_mixer (s : State) : (s.endOverride).mixer = s.mixer := by
  unfold State.endOverride; simp
@[simp] theorem State.endOverride_bdc (s : State) : (s.endOverride).bdc = s.bdc := by
  unfold State.endOverride; simp
@[simp] theorem State.endOverride_relay (s : State) : (s.endOverride).relay = s.relay := by
  unfold State.endOverride; simp
@[simp] theorem State.endOverride_meter (s : State) : (s.endOverride).meter = s.meter := by
  unfold State.endOverride; simp
@[simp] theorem State.endOverride_register (s : State) : (s.endOverride).register = s.register := by
  unfold State.endOverride; simp
@[simp] theorem State.endOverride_hire (s : State) : (s.endOverride).hire = s.hire := by
  unfold State.endOverride; simp
@[simp] theorem State.endOverride_journal (s : State) : (s.endOverride).journal = s.journal := by
  unfold State.endOverride; simp
@[simp] theorem State.endOverride_links (s : State) : (s.endOverride).links = s.links := by
  unfold State.endOverride; simp
@[simp] theorem State.endOverride_resetHeld (s : State) : (s.endOverride).resetHeld = s.resetHeld := by
  unfold State.endOverride; simp
@[simp] theorem State.endOverride_freeIndex (s : State) : (s.endOverride).freeIndex = s.freeIndex := by
  unfold State.endOverride; simp
@[simp] theorem State.endOverride_pending (s : State) : (s.endOverride).pending = s.pending := by
  unfold State.endOverride; simp
@[simp] theorem State.endOverride_arriving (s : State) : (s.endOverride).arriving = s.arriving := by
  unfold State.endOverride; simp

/-! ### setUart: links -/

@[simp] theorem State.setUart_straps (s : State) (l : UartLink) (x : UartState) : (s.setUart l x).straps = s.straps := by
  cases l <;> rfl
@[simp] theorem State.setUart_banks (s : State) (l : UartLink) (x : UartState) : (s.setUart l x).banks = s.banks := by
  cases l <;> rfl
@[simp] theorem State.setUart_framer (s : State) (l : UartLink) (x : UartState) : (s.setUart l x).framer = s.framer := by
  cases l <;> rfl
@[simp] theorem State.setUart_mixer (s : State) (l : UartLink) (x : UartState) : (s.setUart l x).mixer = s.mixer := by
  cases l <;> rfl
@[simp] theorem State.setUart_bdc (s : State) (l : UartLink) (x : UartState) : (s.setUart l x).bdc = s.bdc := by
  cases l <;> rfl
@[simp] theorem State.setUart_relay (s : State) (l : UartLink) (x : UartState) : (s.setUart l x).relay = s.relay := by
  cases l <;> rfl
@[simp] theorem State.setUart_meter (s : State) (l : UartLink) (x : UartState) : (s.setUart l x).meter = s.meter := by
  cases l <;> rfl
@[simp] theorem State.setUart_register (s : State) (l : UartLink) (x : UartState) : (s.setUart l x).register = s.register := by
  cases l <;> rfl
@[simp] theorem State.setUart_hire (s : State) (l : UartLink) (x : UartState) : (s.setUart l x).hire = s.hire := by
  cases l <;> rfl
@[simp] theorem State.setUart_journal (s : State) (l : UartLink) (x : UartState) : (s.setUart l x).journal = s.journal := by
  cases l <;> rfl
@[simp] theorem State.setUart_resetHeld (s : State) (l : UartLink) (x : UartState) : (s.setUart l x).resetHeld = s.resetHeld := by
  cases l <;> rfl
@[simp] theorem State.setUart_freeIndex (s : State) (l : UartLink) (x : UartState) : (s.setUart l x).freeIndex = s.freeIndex := by
  cases l <;> rfl
@[simp] theorem State.setUart_pending (s : State) (l : UartLink) (x : UartState) : (s.setUart l x).pending = s.pending := by
  cases l <;> rfl
@[simp] theorem State.setUart_arriving (s : State) (l : UartLink) (x : UartState) : (s.setUart l x).arriving = s.arriving := by
  cases l <;> rfl

/-! ### postUart: links -/

@[simp] theorem State.postUart_straps (s : State) (l : UartLink) (a : Answer) : (s.postUart l a).straps = s.straps := by
  unfold State.postUart; simp
@[simp] theorem State.postUart_banks (s : State) (l : UartLink) (a : Answer) : (s.postUart l a).banks = s.banks := by
  unfold State.postUart; simp
@[simp] theorem State.postUart_framer (s : State) (l : UartLink) (a : Answer) : (s.postUart l a).framer = s.framer := by
  unfold State.postUart; simp
@[simp] theorem State.postUart_mixer (s : State) (l : UartLink) (a : Answer) : (s.postUart l a).mixer = s.mixer := by
  unfold State.postUart; simp
@[simp] theorem State.postUart_bdc (s : State) (l : UartLink) (a : Answer) : (s.postUart l a).bdc = s.bdc := by
  unfold State.postUart; simp
@[simp] theorem State.postUart_relay (s : State) (l : UartLink) (a : Answer) : (s.postUart l a).relay = s.relay := by
  unfold State.postUart; simp
@[simp] theorem State.postUart_meter (s : State) (l : UartLink) (a : Answer) : (s.postUart l a).meter = s.meter := by
  unfold State.postUart; simp
@[simp] theorem State.postUart_register (s : State) (l : UartLink) (a : Answer) : (s.postUart l a).register = s.register := by
  unfold State.postUart; simp
@[simp] theorem State.postUart_hire (s : State) (l : UartLink) (a : Answer) : (s.postUart l a).hire = s.hire := by
  unfold State.postUart; simp
@[simp] theorem State.postUart_journal (s : State) (l : UartLink) (a : Answer) : (s.postUart l a).journal = s.journal := by
  unfold State.postUart; simp
@[simp] theorem State.postUart_resetHeld (s : State) (l : UartLink) (a : Answer) : (s.postUart l a).resetHeld = s.resetHeld := by
  unfold State.postUart; simp
@[simp] theorem State.postUart_freeIndex (s : State) (l : UartLink) (a : Answer) : (s.postUart l a).freeIndex = s.freeIndex := by
  unfold State.postUart; simp
@[simp] theorem State.postUart_pending (s : State) (l : UartLink) (a : Answer) : (s.postUart l a).pending = s.pending := by
  unfold State.postUart; simp
@[simp] theorem State.postUart_arriving (s : State) (l : UartLink) (a : Answer) : (s.postUart l a).arriving = s.arriving := by
  unfold State.postUart; simp

/-! ### postConsole: links, freeIndex -/

@[simp] theorem State.postConsole_straps (s : State) (a : Answer) : (s.postConsole a).straps = s.straps := rfl
@[simp] theorem State.postConsole_banks (s : State) (a : Answer) : (s.postConsole a).banks = s.banks := rfl
@[simp] theorem State.postConsole_framer (s : State) (a : Answer) : (s.postConsole a).framer = s.framer := rfl
@[simp] theorem State.postConsole_mixer (s : State) (a : Answer) : (s.postConsole a).mixer = s.mixer := rfl
@[simp] theorem State.postConsole_bdc (s : State) (a : Answer) : (s.postConsole a).bdc = s.bdc := rfl
@[simp] theorem State.postConsole_relay (s : State) (a : Answer) : (s.postConsole a).relay = s.relay := rfl
@[simp] theorem State.postConsole_meter (s : State) (a : Answer) : (s.postConsole a).meter = s.meter := rfl
@[simp] theorem State.postConsole_register (s : State) (a : Answer) : (s.postConsole a).register = s.register := rfl
@[simp] theorem State.postConsole_hire (s : State) (a : Answer) : (s.postConsole a).hire = s.hire := rfl
@[simp] theorem State.postConsole_journal (s : State) (a : Answer) : (s.postConsole a).journal = s.journal := rfl
@[simp] theorem State.postConsole_resetHeld (s : State) (a : Answer) : (s.postConsole a).resetHeld = s.resetHeld := rfl
@[simp] theorem State.postConsole_pending (s : State) (a : Answer) : (s.postConsole a).pending = s.pending := rfl
@[simp] theorem State.postConsole_arriving (s : State) (a : Answer) : (s.postConsole a).arriving = s.arriving := rfl

/-! ### post: links, freeIndex -/

@[simp] theorem State.post_straps (s : State) (l : Link) (a : Answer) : (s.post l a).straps = s.straps := by
  cases l <;> simp [State.post]
@[simp] theorem State.post_banks (s : State) (l : Link) (a : Answer) : (s.post l a).banks = s.banks := by
  cases l <;> simp [State.post]
@[simp] theorem State.post_framer (s : State) (l : Link) (a : Answer) : (s.post l a).framer = s.framer := by
  cases l <;> simp [State.post]
@[simp] theorem State.post_mixer (s : State) (l : Link) (a : Answer) : (s.post l a).mixer = s.mixer := by
  cases l <;> simp [State.post]
@[simp] theorem State.post_bdc (s : State) (l : Link) (a : Answer) : (s.post l a).bdc = s.bdc := by
  cases l <;> simp [State.post]
@[simp] theorem State.post_relay (s : State) (l : Link) (a : Answer) : (s.post l a).relay = s.relay := by
  cases l <;> simp [State.post]
@[simp] theorem State.post_meter (s : State) (l : Link) (a : Answer) : (s.post l a).meter = s.meter := by
  cases l <;> simp [State.post]
@[simp] theorem State.post_register (s : State) (l : Link) (a : Answer) : (s.post l a).register = s.register := by
  cases l <;> simp [State.post]
@[simp] theorem State.post_hire (s : State) (l : Link) (a : Answer) : (s.post l a).hire = s.hire := by
  cases l <;> simp [State.post]
@[simp] theorem State.post_journal (s : State) (l : Link) (a : Answer) : (s.post l a).journal = s.journal := by
  cases l <;> simp [State.post]
@[simp] theorem State.post_resetHeld (s : State) (l : Link) (a : Answer) : (s.post l a).resetHeld = s.resetHeld := by
  cases l <;> simp [State.post]
@[simp] theorem State.post_pending (s : State) (l : Link) (a : Answer) : (s.post l a).pending = s.pending := by
  cases l <;> simp [State.post]
@[simp] theorem State.post_arriving (s : State) (l : Link) (a : Answer) : (s.post l a).arriving = s.arriving := by
  cases l <;> simp [State.post]

end Sys2Proof.Machine
end

