-- ==== Sys2Proof/Laws/Ops.lean ====
section
/-! SUPPORT. What the operations that go over several booths leave alone, and what the shared operations give. -/

namespace Sys2Proof.Machine

/-- What each step of a fold keeps, the fold keeps. -/
theorem foldl_keeps {β γ : Type} (f : State → β → State) (g : State → γ) (h : ∀ s b, g (f s b) = g s) (s : State)
    (bs : List β) : g (bs.foldl f s) = g s := by
  induction bs generalizing s with
  | nil => rfl
  | cons b bs ih => rw [List.foldl_cons, ih, h]

/-! ### closeTurns: meter, journal, links -/

@[simp] theorem State.closeTurns_straps (s : State) (r : Reason) : (s.closeTurns r).straps = s.straps := by
  unfold State.closeTurns; exact foldl_keeps _ (fun t => t.straps) (by simp) _ _
@[simp] theorem State.closeTurns_banks (s : State) (r : Reason) : (s.closeTurns r).banks = s.banks := by
  unfold State.closeTurns; exact foldl_keeps _ (fun t => t.banks) (by simp) _ _
@[simp] theorem State.closeTurns_framer (s : State) (r : Reason) : (s.closeTurns r).framer = s.framer := by
  unfold State.closeTurns; exact foldl_keeps _ (fun t => t.framer) (by simp) _ _
@[simp] theorem State.closeTurns_mixer (s : State) (r : Reason) : (s.closeTurns r).mixer = s.mixer := by
  unfold State.closeTurns; exact foldl_keeps _ (fun t => t.mixer) (by simp) _ _
@[simp] theorem State.closeTurns_bdc (s : State) (r : Reason) : (s.closeTurns r).bdc = s.bdc := by
  unfold State.closeTurns; exact foldl_keeps _ (fun t => t.bdc) (by simp) _ _
@[simp] theorem State.closeTurns_relay (s : State) (r : Reason) : (s.closeTurns r).relay = s.relay := by
  unfold State.closeTurns; exact foldl_keeps _ (fun t => t.relay) (by simp) _ _
@[simp] theorem State.closeTurns_register (s : State) (r : Reason) : (s.closeTurns r).register = s.register := by
  unfold State.closeTurns; exact foldl_keeps _ (fun t => t.register) (by simp) _ _
@[simp] theorem State.closeTurns_hire (s : State) (r : Reason) : (s.closeTurns r).hire = s.hire := by
  unfold State.closeTurns; exact foldl_keeps _ (fun t => t.hire) (by simp) _ _
@[simp] theorem State.closeTurns_resetHeld (s : State) (r : Reason) : (s.closeTurns r).resetHeld = s.resetHeld := by
  unfold State.closeTurns; exact foldl_keeps _ (fun t => t.resetHeld) (by simp) _ _
@[simp] theorem State.closeTurns_freeIndex (s : State) (r : Reason) : (s.closeTurns r).freeIndex = s.freeIndex := by
  unfold State.closeTurns; exact foldl_keeps _ (fun t => t.freeIndex) (by simp) _ _
@[simp] theorem State.closeTurns_pending (s : State) (r : Reason) : (s.closeTurns r).pending = s.pending := by
  unfold State.closeTurns; exact foldl_keeps _ (fun t => t.pending) (by simp) _ _
@[simp] theorem State.closeTurns_arriving (s : State) (r : Reason) : (s.closeTurns r).arriving = s.arriving := by
  unfold State.closeTurns; exact foldl_keeps _ (fun t => t.arriving) (by simp) _ _

/-! ### countTurns: meter -/

@[simp] theorem State.countTurns_straps (s : State) : (s.countTurns).straps = s.straps := by
  unfold State.countTurns; exact foldl_keeps _ (fun t => t.straps) (by intro t b; unfold State.countTurn; split <;> simp) _ _
@[simp] theorem State.countTurns_banks (s : State) : (s.countTurns).banks = s.banks := by
  unfold State.countTurns; exact foldl_keeps _ (fun t => t.banks) (by intro t b; unfold State.countTurn; split <;> simp) _ _
@[simp] theorem State.countTurns_framer (s : State) : (s.countTurns).framer = s.framer := by
  unfold State.countTurns; exact foldl_keeps _ (fun t => t.framer) (by intro t b; unfold State.countTurn; split <;> simp) _ _
@[simp] theorem State.countTurns_mixer (s : State) : (s.countTurns).mixer = s.mixer := by
  unfold State.countTurns; exact foldl_keeps _ (fun t => t.mixer) (by intro t b; unfold State.countTurn; split <;> simp) _ _
@[simp] theorem State.countTurns_bdc (s : State) : (s.countTurns).bdc = s.bdc := by
  unfold State.countTurns; exact foldl_keeps _ (fun t => t.bdc) (by intro t b; unfold State.countTurn; split <;> simp) _ _
@[simp] theorem State.countTurns_relay (s : State) : (s.countTurns).relay = s.relay := by
  unfold State.countTurns; exact foldl_keeps _ (fun t => t.relay) (by intro t b; unfold State.countTurn; split <;> simp) _ _
@[simp] theorem State.countTurns_register (s : State) : (s.countTurns).register = s.register := by
  unfold State.countTurns; exact foldl_keeps _ (fun t => t.register) (by intro t b; unfold State.countTurn; split <;> simp) _ _
@[simp] theorem State.countTurns_hire (s : State) : (s.countTurns).hire = s.hire := by
  unfold State.countTurns; exact foldl_keeps _ (fun t => t.hire) (by intro t b; unfold State.countTurn; split <;> simp) _ _
@[simp] theorem State.countTurns_journal (s : State) : (s.countTurns).journal = s.journal := by
  unfold State.countTurns; exact foldl_keeps _ (fun t => t.journal) (by intro t b; unfold State.countTurn; split <;> simp) _ _
@[simp] theorem State.countTurns_links (s : State) : (s.countTurns).links = s.links := by
  unfold State.countTurns; exact foldl_keeps _ (fun t => t.links) (by intro t b; unfold State.countTurn; split <;> simp) _ _
@[simp] theorem State.countTurns_resetHeld (s : State) : (s.countTurns).resetHeld = s.resetHeld := by
  unfold State.countTurns; exact foldl_keeps _ (fun t => t.resetHeld) (by intro t b; unfold State.countTurn; split <;> simp) _ _
@[simp] theorem State.countTurns_freeIndex (s : State) : (s.countTurns).freeIndex = s.freeIndex := by
  unfold State.countTurns; exact foldl_keeps _ (fun t => t.freeIndex) (by intro t b; unfold State.countTurn; split <;> simp) _ _
@[simp] theorem State.countTurns_pending (s : State) : (s.countTurns).pending = s.pending := by
  unfold State.countTurns; exact foldl_keeps _ (fun t => t.pending) (by intro t b; unfold State.countTurn; split <;> simp) _ _
@[simp] theorem State.countTurns_arriving (s : State) : (s.countTurns).arriving = s.arriving := by
  unfold State.countTurns; exact foldl_keeps _ (fun t => t.arriving) (by intro t b; unfold State.countTurn; split <;> simp) _ _

/-! ### countSecond: meter -/

@[simp] theorem State.countSecond_straps (s : State) : (s.countSecond).straps = s.straps := by
  unfold State.countSecond; split <;> simp
@[simp] theorem State.countSecond_banks (s : State) : (s.countSecond).banks = s.banks := by
  unfold State.countSecond; split <;> simp
@[simp] theorem State.countSecond_framer (s : State) : (s.countSecond).framer = s.framer := by
  unfold State.countSecond; split <;> simp
@[simp] theorem State.countSecond_mixer (s : State) : (s.countSecond).mixer = s.mixer := by
  unfold State.countSecond; split <;> simp
@[simp] theorem State.countSecond_bdc (s : State) : (s.countSecond).bdc = s.bdc := by
  unfold State.countSecond; split <;> simp
@[simp] theorem State.countSecond_relay (s : State) : (s.countSecond).relay = s.relay := by
  unfold State.countSecond; split <;> simp
@[simp] theorem State.countSecond_register (s : State) : (s.countSecond).register = s.register := by
  unfold State.countSecond; split <;> simp
@[simp] theorem State.countSecond_hire (s : State) : (s.countSecond).hire = s.hire := by
  unfold State.countSecond; split <;> simp
@[simp] theorem State.countSecond_journal (s : State) : (s.countSecond).journal = s.journal := by
  unfold State.countSecond; split <;> simp
@[simp] theorem State.countSecond_links (s : State) : (s.countSecond).links = s.links := by
  unfold State.countSecond; split <;> simp
@[simp] theorem State.countSecond_resetHeld (s : State) : (s.countSecond).resetHeld = s.resetHeld := by
  unfold State.countSecond; split <;> simp
@[simp] theorem State.countSecond_freeIndex (s : State) : (s.countSecond).freeIndex = s.freeIndex := by
  unfold State.countSecond; split <;> simp
@[simp] theorem State.countSecond_pending (s : State) : (s.countSecond).pending = s.pending := by
  unfold State.countSecond; split <;> simp
@[simp] theorem State.countSecond_arriving (s : State) : (s.countSecond).arriving = s.arriving := by
  unfold State.countSecond; split <;> simp

/-! ### graceExpired: meter, register, links -/

@[simp] theorem State.graceExpired_straps (s : State) : (s.graceExpired).straps = s.straps := by
  simp [State.graceExpired]
@[simp] theorem State.graceExpired_banks (s : State) : (s.graceExpired).banks = s.banks := by
  simp [State.graceExpired]
@[simp] theorem State.graceExpired_framer (s : State) : (s.graceExpired).framer = s.framer := by
  simp [State.graceExpired]
@[simp] theorem State.graceExpired_mixer (s : State) : (s.graceExpired).mixer = s.mixer := by
  simp [State.graceExpired]
@[simp] theorem State.graceExpired_bdc (s : State) : (s.graceExpired).bdc = s.bdc := by
  simp [State.graceExpired]
@[simp] theorem State.graceExpired_relay (s : State) : (s.graceExpired).relay = s.relay := by
  simp [State.graceExpired]
@[simp] theorem State.graceExpired_hire (s : State) : (s.graceExpired).hire = s.hire := by
  simp [State.graceExpired]
@[simp] theorem State.graceExpired_journal (s : State) : (s.graceExpired).journal = s.journal := by
  simp [State.graceExpired]
@[simp] theorem State.graceExpired_resetHeld (s : State) : (s.graceExpired).resetHeld = s.resetHeld := by
  simp [State.graceExpired]
@[simp] theorem State.graceExpired_freeIndex (s : State) : (s.graceExpired).freeIndex = s.freeIndex := by
  simp [State.graceExpired]
@[simp] theorem State.graceExpired_pending (s : State) : (s.graceExpired).pending = s.pending := by
  simp [State.graceExpired]
@[simp] theorem State.graceExpired_arriving (s : State) : (s.graceExpired).arriving = s.arriving := by
  simp [State.graceExpired]

/-! ### tickGrace: meter, register, links -/

@[simp] theorem State.tickGrace_straps (s : State) : (s.tickGrace).straps = s.straps := by
  unfold State.tickGrace; split <;> simp
@[simp] theorem State.tickGrace_banks (s : State) : (s.tickGrace).banks = s.banks := by
  unfold State.tickGrace; split <;> simp
@[simp] theorem State.tickGrace_framer (s : State) : (s.tickGrace).framer = s.framer := by
  unfold State.tickGrace; split <;> simp
@[simp] theorem State.tickGrace_mixer (s : State) : (s.tickGrace).mixer = s.mixer := by
  unfold State.tickGrace; split <;> simp
@[simp] theorem State.tickGrace_bdc (s : State) : (s.tickGrace).bdc = s.bdc := by
  unfold State.tickGrace; split <;> simp
@[simp] theorem State.tickGrace_relay (s : State) : (s.tickGrace).relay = s.relay := by
  unfold State.tickGrace; split <;> simp
@[simp] theorem State.tickGrace_hire (s : State) : (s.tickGrace).hire = s.hire := by
  unfold State.tickGrace; split <;> simp
@[simp] theorem State.tickGrace_journal (s : State) : (s.tickGrace).journal = s.journal := by
  unfold State.tickGrace; split <;> simp
@[simp] theorem State.tickGrace_resetHeld (s : State) : (s.tickGrace).resetHeld = s.resetHeld := by
  unfold State.tickGrace; split <;> simp
@[simp] theorem State.tickGrace_freeIndex (s : State) : (s.tickGrace).freeIndex = s.freeIndex := by
  unfold State.tickGrace; split <;> simp
@[simp] theorem State.tickGrace_pending (s : State) : (s.tickGrace).pending = s.pending := by
  unfold State.tickGrace; split <;> simp
@[simp] theorem State.tickGrace_arriving (s : State) : (s.tickGrace).arriving = s.arriving := by
  unfold State.tickGrace; split <;> simp

/-! ### tickTimers: bdc, relay -/

@[simp] theorem State.tickTimers_straps (s : State) : (s.tickTimers).straps = s.straps := by
  simp [State.tickTimers]
@[simp] theorem State.tickTimers_banks (s : State) : (s.tickTimers).banks = s.banks := by
  simp [State.tickTimers]
@[simp] theorem State.tickTimers_framer (s : State) : (s.tickTimers).framer = s.framer := by
  simp [State.tickTimers]
@[simp] theorem State.tickTimers_mixer (s : State) : (s.tickTimers).mixer = s.mixer := by
  simp [State.tickTimers]
@[simp] theorem State.tickTimers_meter (s : State) : (s.tickTimers).meter = s.meter := by
  simp [State.tickTimers]
@[simp] theorem State.tickTimers_register (s : State) : (s.tickTimers).register = s.register := by
  simp [State.tickTimers]
@[simp] theorem State.tickTimers_hire (s : State) : (s.tickTimers).hire = s.hire := by
  simp [State.tickTimers]
@[simp] theorem State.tickTimers_journal (s : State) : (s.tickTimers).journal = s.journal := by
  simp [State.tickTimers]
@[simp] theorem State.tickTimers_links (s : State) : (s.tickTimers).links = s.links := by
  simp [State.tickTimers]
@[simp] theorem State.tickTimers_resetHeld (s : State) : (s.tickTimers).resetHeld = s.resetHeld := by
  simp [State.tickTimers]
@[simp] theorem State.tickTimers_freeIndex (s : State) : (s.tickTimers).freeIndex = s.freeIndex := by
  simp [State.tickTimers]
@[simp] theorem State.tickTimers_pending (s : State) : (s.tickTimers).pending = s.pending := by
  simp [State.tickTimers]
@[simp] theorem State.tickTimers_arriving (s : State) : (s.tickTimers).arriving = s.arriving := by
  simp [State.tickTimers]

/-! ### openSitting: meter -/

@[simp] theorem State.openSitting_straps (s : State) : (s.openSitting).straps = s.straps := by
  unfold State.openSitting; rw [foldl_keeps _ (fun t => t.straps) (by intro t b; unfold State.openLiveTurn; split <;> simp)]; simp
@[simp] theorem State.openSitting_banks (s : State) : (s.openSitting).banks = s.banks := by
  unfold State.openSitting; rw [foldl_keeps _ (fun t => t.banks) (by intro t b; unfold State.openLiveTurn; split <;> simp)]; simp
@[simp] theorem State.openSitting_framer (s : State) : (s.openSitting).framer = s.framer := by
  unfold State.openSitting; rw [foldl_keeps _ (fun t => t.framer) (by intro t b; unfold State.openLiveTurn; split <;> simp)]; simp
@[simp] theorem State.openSitting_mixer (s : State) : (s.openSitting).mixer = s.mixer := by
  unfold State.openSitting; rw [foldl_keeps _ (fun t => t.mixer) (by intro t b; unfold State.openLiveTurn; split <;> simp)]; simp
@[simp] theorem State.openSitting_bdc (s : State) : (s.openSitting).bdc = s.bdc := by
  unfold State.openSitting; rw [foldl_keeps _ (fun t => t.bdc) (by intro t b; unfold State.openLiveTurn; split <;> simp)]; simp
@[simp] theorem State.openSitting_relay (s : State) : (s.openSitting).relay = s.relay := by
  unfold State.openSitting; rw [foldl_keeps _ (fun t => t.relay) (by intro t b; unfold State.openLiveTurn; split <;> simp)]; simp
@[simp] theorem State.openSitting_register (s : State) : (s.openSitting).register = s.register := by
  unfold State.openSitting; rw [foldl_keeps _ (fun t => t.register) (by intro t b; unfold State.openLiveTurn; split <;> simp)]; simp
@[simp] theorem State.openSitting_hire (s : State) : (s.openSitting).hire = s.hire := by
  unfold State.openSitting; rw [foldl_keeps _ (fun t => t.hire) (by intro t b; unfold State.openLiveTurn; split <;> simp)]; simp
@[simp] theorem State.openSitting_journal (s : State) : (s.openSitting).journal = s.journal := by
  unfold State.openSitting; rw [foldl_keeps _ (fun t => t.journal) (by intro t b; unfold State.openLiveTurn; split <;> simp)]; simp
@[simp] theorem State.openSitting_links (s : State) : (s.openSitting).links = s.links := by
  unfold State.openSitting; rw [foldl_keeps _ (fun t => t.links) (by intro t b; unfold State.openLiveTurn; split <;> simp)]; simp
@[simp] theorem State.openSitting_resetHeld (s : State) : (s.openSitting).resetHeld = s.resetHeld := by
  unfold State.openSitting; rw [foldl_keeps _ (fun t => t.resetHeld) (by intro t b; unfold State.openLiveTurn; split <;> simp)]; simp
@[simp] theorem State.openSitting_freeIndex (s : State) : (s.openSitting).freeIndex = s.freeIndex := by
  unfold State.openSitting; rw [foldl_keeps _ (fun t => t.freeIndex) (by intro t b; unfold State.openLiveTurn; split <;> simp)]; simp
@[simp] theorem State.openSitting_pending (s : State) : (s.openSitting).pending = s.pending := by
  unfold State.openSitting; rw [foldl_keeps _ (fun t => t.pending) (by intro t b; unfold State.openLiveTurn; split <;> simp)]; simp
@[simp] theorem State.openSitting_arriving (s : State) : (s.openSitting).arriving = s.arriving := by
  unfold State.openSitting; rw [foldl_keeps _ (fun t => t.arriving) (by intro t b; unfold State.openLiveTurn; split <;> simp)]; simp

/-! ### closeSitting: meter, journal, links, register -/

@[simp] theorem State.closeSitting_straps (s : State) : (s.closeSitting).straps = s.straps := by
  simp [State.closeSitting]
@[simp] theorem State.closeSitting_banks (s : State) : (s.closeSitting).banks = s.banks := by
  simp [State.closeSitting]
@[simp] theorem State.closeSitting_framer (s : State) : (s.closeSitting).framer = s.framer := by
  simp [State.closeSitting]
@[simp] theorem State.closeSitting_mixer (s : State) : (s.closeSitting).mixer = s.mixer := by
  simp [State.closeSitting]
@[simp] theorem State.closeSitting_bdc (s : State) : (s.closeSitting).bdc = s.bdc := by
  simp [State.closeSitting]
@[simp] theorem State.closeSitting_relay (s : State) : (s.closeSitting).relay = s.relay := by
  simp [State.closeSitting]
@[simp] theorem State.closeSitting_hire (s : State) : (s.closeSitting).hire = s.hire := by
  simp [State.closeSitting]
@[simp] theorem State.closeSitting_resetHeld (s : State) : (s.closeSitting).resetHeld = s.resetHeld := by
  simp [State.closeSitting]
@[simp] theorem State.closeSitting_freeIndex (s : State) : (s.closeSitting).freeIndex = s.freeIndex := by
  simp [State.closeSitting]
@[simp] theorem State.closeSitting_pending (s : State) : (s.closeSitting).pending = s.pending := by
  simp [State.closeSitting]
@[simp] theorem State.closeSitting_arriving (s : State) : (s.closeSitting).arriving = s.arriving := by
  simp [State.closeSitting]

/-! ### liveReset: bdc, mixer, meter, relay, journal, links -/

@[simp] theorem State.liveReset_straps (s : State) : (s.liveReset).straps = s.straps := by
  unfold State.liveReset; rw [foldl_keeps _ (fun t => t.straps) (by simp)]; simp
@[simp] theorem State.liveReset_banks (s : State) : (s.liveReset).banks = s.banks := by
  unfold State.liveReset; rw [foldl_keeps _ (fun t => t.banks) (by simp)]; simp
@[simp] theorem State.liveReset_framer (s : State) : (s.liveReset).framer = s.framer := by
  unfold State.liveReset; rw [foldl_keeps _ (fun t => t.framer) (by simp)]; simp
@[simp] theorem State.liveReset_register (s : State) : (s.liveReset).register = s.register := by
  unfold State.liveReset; rw [foldl_keeps _ (fun t => t.register) (by simp)]; simp
@[simp] theorem State.liveReset_hire (s : State) : (s.liveReset).hire = s.hire := by
  unfold State.liveReset; rw [foldl_keeps _ (fun t => t.hire) (by simp)]; simp
@[simp] theorem State.liveReset_resetHeld (s : State) : (s.liveReset).resetHeld = s.resetHeld := by
  unfold State.liveReset; rw [foldl_keeps _ (fun t => t.resetHeld) (by simp)]; simp
@[simp] theorem State.liveReset_freeIndex (s : State) : (s.liveReset).freeIndex = s.freeIndex := by
  unfold State.liveReset; rw [foldl_keeps _ (fun t => t.freeIndex) (by simp)]; simp
@[simp] theorem State.liveReset_pending (s : State) : (s.liveReset).pending = s.pending := by
  unfold State.liveReset; rw [foldl_keeps _ (fun t => t.pending) (by simp)]; simp
@[simp] theorem State.liveReset_arriving (s : State) : (s.liveReset).arriving = s.arriving := by
  unfold State.liveReset; rw [foldl_keeps _ (fun t => t.arriving) (by simp)]; simp

/-! ### applyCarry: bdc -/

@[simp] theorem State.applyCarry_straps (s : State) (xs : List Carry) : (s.applyCarry xs).straps = s.straps := by
  induction xs generalizing s with
  | nil => rfl
  | cons x xs ih => unfold State.applyCarry; split <;> simp [ih]
@[simp] theorem State.applyCarry_banks (s : State) (xs : List Carry) : (s.applyCarry xs).banks = s.banks := by
  induction xs generalizing s with
  | nil => rfl
  | cons x xs ih => unfold State.applyCarry; split <;> simp [ih]
@[simp] theorem State.applyCarry_framer (s : State) (xs : List Carry) : (s.applyCarry xs).framer = s.framer := by
  induction xs generalizing s with
  | nil => rfl
  | cons x xs ih => unfold State.applyCarry; split <;> simp [ih]
@[simp] theorem State.applyCarry_mixer (s : State) (xs : List Carry) : (s.applyCarry xs).mixer = s.mixer := by
  induction xs generalizing s with
  | nil => rfl
  | cons x xs ih => unfold State.applyCarry; split <;> simp [ih]
@[simp] theorem State.applyCarry_relay (s : State) (xs : List Carry) : (s.applyCarry xs).relay = s.relay := by
  induction xs generalizing s with
  | nil => rfl
  | cons x xs ih => unfold State.applyCarry; split <;> simp [ih]
@[simp] theorem State.applyCarry_meter (s : State) (xs : List Carry) : (s.applyCarry xs).meter = s.meter := by
  induction xs generalizing s with
  | nil => rfl
  | cons x xs ih => unfold State.applyCarry; split <;> simp [ih]
@[simp] theorem State.applyCarry_register (s : State) (xs : List Carry) : (s.applyCarry xs).register = s.register := by
  induction xs generalizing s with
  | nil => rfl
  | cons x xs ih => unfold State.applyCarry; split <;> simp [ih]
@[simp] theorem State.applyCarry_hire (s : State) (xs : List Carry) : (s.applyCarry xs).hire = s.hire := by
  induction xs generalizing s with
  | nil => rfl
  | cons x xs ih => unfold State.applyCarry; split <;> simp [ih]
@[simp] theorem State.applyCarry_journal (s : State) (xs : List Carry) : (s.applyCarry xs).journal = s.journal := by
  induction xs generalizing s with
  | nil => rfl
  | cons x xs ih => unfold State.applyCarry; split <;> simp [ih]
@[simp] theorem State.applyCarry_links (s : State) (xs : List Carry) : (s.applyCarry xs).links = s.links := by
  induction xs generalizing s with
  | nil => rfl
  | cons x xs ih => unfold State.applyCarry; split <;> simp [ih]
@[simp] theorem State.applyCarry_resetHeld (s : State) (xs : List Carry) : (s.applyCarry xs).resetHeld = s.resetHeld := by
  induction xs generalizing s with
  | nil => rfl
  | cons x xs ih => unfold State.applyCarry; split <;> simp [ih]
@[simp] theorem State.applyCarry_freeIndex (s : State) (xs : List Carry) : (s.applyCarry xs).freeIndex = s.freeIndex := by
  induction xs generalizing s with
  | nil => rfl
  | cons x xs ih => unfold State.applyCarry; split <;> simp [ih]
@[simp] theorem State.applyCarry_pending (s : State) (xs : List Carry) : (s.applyCarry xs).pending = s.pending := by
  induction xs generalizing s with
  | nil => rfl
  | cons x xs ih => unfold State.applyCarry; split <;> simp [ih]
@[simp] theorem State.applyCarry_arriving (s : State) (xs : List Carry) : (s.applyCarry xs).arriving = s.arriving := by
  induction xs generalizing s with
  | nil => rfl
  | cons x xs ih => unfold State.applyCarry; split <;> simp [ih]

/-! ### carryOver: bdc, mixer, meter, relay, journal, links -/

@[simp] theorem State.carryOver_straps (s : State) : (s.carryOver).straps = s.straps := by
  unfold State.carryOver; simp only []; rw [foldl_keeps _ (fun t => t.straps) (by simp)]; simp
@[simp] theorem State.carryOver_banks (s : State) : (s.carryOver).banks = s.banks := by
  unfold State.carryOver; simp only []; rw [foldl_keeps _ (fun t => t.banks) (by simp)]; simp
@[simp] theorem State.carryOver_framer (s : State) : (s.carryOver).framer = s.framer := by
  unfold State.carryOver; simp only []; rw [foldl_keeps _ (fun t => t.framer) (by simp)]; simp
@[simp] theorem State.carryOver_register (s : State) : (s.carryOver).register = s.register := by
  unfold State.carryOver; simp only []; rw [foldl_keeps _ (fun t => t.register) (by simp)]; simp
@[simp] theorem State.carryOver_hire (s : State) : (s.carryOver).hire = s.hire := by
  unfold State.carryOver; simp only []; rw [foldl_keeps _ (fun t => t.hire) (by simp)]; simp
@[simp] theorem State.carryOver_resetHeld (s : State) : (s.carryOver).resetHeld = s.resetHeld := by
  unfold State.carryOver; simp only []; rw [foldl_keeps _ (fun t => t.resetHeld) (by simp)]; simp
@[simp] theorem State.carryOver_freeIndex (s : State) : (s.carryOver).freeIndex = s.freeIndex := by
  unfold State.carryOver; simp only []; rw [foldl_keeps _ (fun t => t.freeIndex) (by simp)]; simp
@[simp] theorem State.carryOver_pending (s : State) : (s.carryOver).pending = s.pending := by
  unfold State.carryOver; simp only []; rw [foldl_keeps _ (fun t => t.pending) (by simp)]; simp
@[simp] theorem State.carryOver_arriving (s : State) : (s.carryOver).arriving = s.arriving := by
  unfold State.carryOver; simp only []; rw [foldl_keeps _ (fun t => t.arriving) (by simp)]; simp

/-! ### planTaken: bdc, mixer, meter, relay, journal, links, register -/

@[simp] theorem State.planTaken_straps (s : State) : (s.planTaken).straps = s.straps := by
  simp [State.planTaken]
@[simp] theorem State.planTaken_banks (s : State) : (s.planTaken).banks = s.banks := by
  simp [State.planTaken]
@[simp] theorem State.planTaken_framer (s : State) : (s.planTaken).framer = s.framer := by
  simp [State.planTaken]
@[simp] theorem State.planTaken_hire (s : State) : (s.planTaken).hire = s.hire := by
  simp [State.planTaken]
@[simp] theorem State.planTaken_resetHeld (s : State) : (s.planTaken).resetHeld = s.resetHeld := by
  simp [State.planTaken]
@[simp] theorem State.planTaken_freeIndex (s : State) : (s.planTaken).freeIndex = s.freeIndex := by
  simp [State.planTaken]
@[simp] theorem State.planTaken_pending (s : State) : (s.planTaken).pending = s.pending := by
  simp [State.planTaken]
@[simp] theorem State.planTaken_arriving (s : State) : (s.planTaken).arriving = s.arriving := by
  simp [State.planTaken]

/-! ### takeSwitch: banks, framer, bdc, mixer, meter, relay, journal, links, register -/

@[simp] theorem State.takeSwitch_straps (s : State) (k : Nat) : (s.takeSwitch k).straps = s.straps := by
  simp [State.takeSwitch]
@[simp] theorem State.takeSwitch_hire (s : State) (k : Nat) : (s.takeSwitch k).hire = s.hire := by
  simp [State.takeSwitch]
@[simp] theorem State.takeSwitch_resetHeld (s : State) (k : Nat) : (s.takeSwitch k).resetHeld = s.resetHeld := by
  simp [State.takeSwitch]
@[simp] theorem State.takeSwitch_freeIndex (s : State) (k : Nat) : (s.takeSwitch k).freeIndex = s.freeIndex := by
  simp [State.takeSwitch]
@[simp] theorem State.takeSwitch_pending (s : State) (k : Nat) : (s.takeSwitch k).pending = s.pending := by
  simp [State.takeSwitch]
@[simp] theorem State.takeSwitch_arriving (s : State) (k : Nat) : (s.takeSwitch k).arriving = s.arriving := by
  simp [State.takeSwitch]

/-! ### nextFrame: banks, framer, bdc, mixer, meter, relay, journal, links, register -/

@[simp] theorem State.nextFrame_straps (s : State) (e : Bool) : (s.nextFrame e).straps = s.straps := by
  unfold State.nextFrame; split <;> simp
@[simp] theorem State.nextFrame_hire (s : State) (e : Bool) : (s.nextFrame e).hire = s.hire := by
  unfold State.nextFrame; split <;> simp
@[simp] theorem State.nextFrame_resetHeld (s : State) (e : Bool) : (s.nextFrame e).resetHeld = s.resetHeld := by
  unfold State.nextFrame; split <;> simp
@[simp] theorem State.nextFrame_freeIndex (s : State) (e : Bool) : (s.nextFrame e).freeIndex = s.freeIndex := by
  unfold State.nextFrame; split <;> simp
@[simp] theorem State.nextFrame_pending (s : State) (e : Bool) : (s.nextFrame e).pending = s.pending := by
  unfold State.nextFrame; split <;> simp
@[simp] theorem State.nextFrame_arriving (s : State) (e : Bool) : (s.nextFrame e).arriving = s.arriving := by
  unfold State.nextFrame; split <;> simp

/-! ### boundary: banks, framer, bdc, mixer, meter, relay, journal, links, register -/

@[simp] theorem State.boundary_straps (s : State) : (s.boundary).straps = s.straps := by
  simp [State.boundary]
@[simp] theorem State.boundary_hire (s : State) : (s.boundary).hire = s.hire := by
  simp [State.boundary]
@[simp] theorem State.boundary_resetHeld (s : State) : (s.boundary).resetHeld = s.resetHeld := by
  simp [State.boundary]
@[simp] theorem State.boundary_freeIndex (s : State) : (s.boundary).freeIndex = s.freeIndex := by
  simp [State.boundary]
@[simp] theorem State.boundary_pending (s : State) : (s.boundary).pending = s.pending := by
  simp [State.boundary]
@[simp] theorem State.boundary_arriving (s : State) : (s.boundary).arriving = s.arriving := by
  simp [State.boundary]

/-! ### endSettle: framer, bdc, mixer, meter, relay, journal, links, register -/

@[simp] theorem State.endSettle_straps (s : State) : (s.endSettle).straps = s.straps := by
  simp [State.endSettle]
@[simp] theorem State.endSettle_banks (s : State) : (s.endSettle).banks = s.banks := by
  simp [State.endSettle]
@[simp] theorem State.endSettle_hire (s : State) : (s.endSettle).hire = s.hire := by
  simp [State.endSettle]
@[simp] theorem State.endSettle_resetHeld (s : State) : (s.endSettle).resetHeld = s.resetHeld := by
  simp [State.endSettle]
@[simp] theorem State.endSettle_freeIndex (s : State) : (s.endSettle).freeIndex = s.freeIndex := by
  simp [State.endSettle]
@[simp] theorem State.endSettle_pending (s : State) : (s.endSettle).pending = s.pending := by
  simp [State.endSettle]
@[simp] theorem State.endSettle_arriving (s : State) : (s.endSettle).arriving = s.arriving := by
  simp [State.endSettle]

/-! ### stopFramer: framer -/

@[simp] theorem State.stopFramer_straps (s : State) : (s.stopFramer).straps = s.straps := by
  simp [State.stopFramer]
@[simp] theorem State.stopFramer_banks (s : State) : (s.stopFramer).banks = s.banks := by
  simp [State.stopFramer]
@[simp] theorem State.stopFramer_mixer (s : State) : (s.stopFramer).mixer = s.mixer := by
  simp [State.stopFramer]
@[simp] theorem State.stopFramer_bdc (s : State) : (s.stopFramer).bdc = s.bdc := by
  simp [State.stopFramer]
@[simp] theorem State.stopFramer_relay (s : State) : (s.stopFramer).relay = s.relay := by
  simp [State.stopFramer]
@[simp] theorem State.stopFramer_meter (s : State) : (s.stopFramer).meter = s.meter := by
  simp [State.stopFramer]
@[simp] theorem State.stopFramer_register (s : State) : (s.stopFramer).register = s.register := by
  simp [State.stopFramer]
@[simp] theorem State.stopFramer_hire (s : State) : (s.stopFramer).hire = s.hire := by
  simp [State.stopFramer]
@[simp] theorem State.stopFramer_journal (s : State) : (s.stopFramer).journal = s.journal := by
  simp [State.stopFramer]
@[simp] theorem State.stopFramer_links (s : State) : (s.stopFramer).links = s.links := by
  simp [State.stopFramer]
@[simp] theorem State.stopFramer_resetHeld (s : State) : (s.stopFramer).resetHeld = s.resetHeld := by
  simp [State.stopFramer]
@[simp] theorem State.stopFramer_freeIndex (s : State) : (s.stopFramer).freeIndex = s.freeIndex := by
  simp [State.stopFramer]
@[simp] theorem State.stopFramer_pending (s : State) : (s.stopFramer).pending = s.pending := by
  simp [State.stopFramer]
@[simp] theorem State.stopFramer_arriving (s : State) : (s.stopFramer).arriving = s.arriving := by
  simp [State.stopFramer]

/-! ### stop: banks, framer, bdc, mixer, meter, relay, journal, links -/

@[simp] theorem State.stop_straps (s : State) : (s.stop).straps = s.straps := by
  simp [State.stop]
@[simp] theorem State.stop_register (s : State) : (s.stop).register = s.register := by
  simp [State.stop]
@[simp] theorem State.stop_hire (s : State) : (s.stop).hire = s.hire := by
  simp [State.stop]
@[simp] theorem State.stop_resetHeld (s : State) : (s.stop).resetHeld = s.resetHeld := by
  simp [State.stop]
@[simp] theorem State.stop_freeIndex (s : State) : (s.stop).freeIndex = s.freeIndex := by
  simp [State.stop]
@[simp] theorem State.stop_pending (s : State) : (s.stop).pending = s.pending := by
  simp [State.stop]
@[simp] theorem State.stop_arriving (s : State) : (s.stop).arriving = s.arriving := by
  simp [State.stop]

/-! ### abandonStart: banks, framer, links -/

@[simp] theorem State.abandonStart_straps (s : State) : (s.abandonStart).straps = s.straps := by
  simp [State.abandonStart]
@[simp] theorem State.abandonStart_mixer (s : State) : (s.abandonStart).mixer = s.mixer := by
  simp [State.abandonStart]
@[simp] theorem State.abandonStart_bdc (s : State) : (s.abandonStart).bdc = s.bdc := by
  simp [State.abandonStart]
@[simp] theorem State.abandonStart_relay (s : State) : (s.abandonStart).relay = s.relay := by
  simp [State.abandonStart]
@[simp] theorem State.abandonStart_meter (s : State) : (s.abandonStart).meter = s.meter := by
  simp [State.abandonStart]
@[simp] theorem State.abandonStart_register (s : State) : (s.abandonStart).register = s.register := by
  simp [State.abandonStart]
@[simp] theorem State.abandonStart_hire (s : State) : (s.abandonStart).hire = s.hire := by
  simp [State.abandonStart]
@[simp] theorem State.abandonStart_journal (s : State) : (s.abandonStart).journal = s.journal := by
  simp [State.abandonStart]
@[simp] theorem State.abandonStart_resetHeld (s : State) : (s.abandonStart).resetHeld = s.resetHeld := by
  simp [State.abandonStart]
@[simp] theorem State.abandonStart_freeIndex (s : State) : (s.abandonStart).freeIndex = s.freeIndex := by
  simp [State.abandonStart]
@[simp] theorem State.abandonStart_pending (s : State) : (s.abandonStart).pending = s.pending := by
  simp [State.abandonStart]
@[simp] theorem State.abandonStart_arriving (s : State) : (s.abandonStart).arriving = s.arriving := by
  simp [State.abandonStart]

/-! ### announce: framer, mixer, links, freeIndex -/

@[simp] theorem State.announce_straps (s : State) : (s.announce).straps = s.straps := by
  simp [State.announce]
@[simp] theorem State.announce_banks (s : State) : (s.announce).banks = s.banks := by
  simp [State.announce]
@[simp] theorem State.announce_bdc (s : State) : (s.announce).bdc = s.bdc := by
  simp [State.announce]
@[simp] theorem State.announce_relay (s : State) : (s.announce).relay = s.relay := by
  simp [State.announce]
@[simp] theorem State.announce_meter (s : State) : (s.announce).meter = s.meter := by
  simp [State.announce]
@[simp] theorem State.announce_register (s : State) : (s.announce).register = s.register := by
  simp [State.announce]
@[simp] theorem State.announce_hire (s : State) : (s.announce).hire = s.hire := by
  simp [State.announce]
@[simp] theorem State.announce_journal (s : State) : (s.announce).journal = s.journal := by
  simp [State.announce]
@[simp] theorem State.announce_resetHeld (s : State) : (s.announce).resetHeld = s.resetHeld := by
  simp [State.announce]
@[simp] theorem State.announce_pending (s : State) : (s.announce).pending = s.pending := by
  simp [State.announce]
@[simp] theorem State.announce_arriving (s : State) : (s.announce).arriving = s.arriving := by
  simp [State.announce]

/-! ## Reading one record after an update -/

theorem State.bank_setBank (s : State) (k j : Nat) (x : Bank) :
    (s.setBank k x).bank j = if j = k then x else s.bank j := Table.fetch_store _ _ _ _ _

theorem State.booth_setBooth (s : State) (b c : Nat) (x : BoothRun) :
    (s.setBooth b x).booth c = if c = b then x else s.booth c := Table.fetch_store _ _ _ _ _

theorem State.chan_setChan (s : State) (b c : Nat) (x : ChannelRun) :
    (s.setChan b x).chan c = if c = b then x else s.chan c := Table.fetch_store _ _ _ _ _

theorem State.desk_setDesk (s : State) (b d b' d' : Nat) (x : Desk) :
    (s.setDesk b d x).desk b' d' = if deskKey b' d' = deskKey b d then x else s.desk b' d' :=
  Table.fetch_store _ _ _ _ _

theorem State.carriage_setCarriage (s : State) (b c : Nat) (x : Carriage) :
    (s.setCarriage b x).carriage c = if c = b then x else s.carriage c := Table.fetch_store _ _ _ _ _

theorem State.relayRec_setRelayRec (s : State) (b c : Nat) (x : RelayRec) :
    (s.setRelayRec b x).relayRec c = if c = b then x else s.relayRec c := Table.fetch_store _ _ _ _ _

theorem State.totals_setTotals (s : State) (b c : Nat) (x : Totals) :
    (s.setTotals b x).totals c = if c = b then x else s.totals c := Table.fetch_store _ _ _ _ _

theorem State.turn_setTurn (s : State) (b c : Nat) (x : Turn) :
    (s.setTurn b x).turn c = if c = b then some x else s.turn c := Table.fetch?_insert _ _ _ _

theorem State.turn_clearTurn (s : State) (b c : Nat) :
    (s.clearTurn b).turn c = if c = b then none else s.turn c := Table.fetch?_remove _ _ _

theorem State.account_setAccount (s : State) (a c : Nat) (x : Account) :
    (s.setAccount a x).account c = if c = a then some x else s.account c := Table.fetch?_insert _ _ _ _

theorem State.account_removeAccount (s : State) (a c : Nat) :
    (s.removeAccount a).account c = if c = a then none else s.account c := Table.fetch?_remove _ _ _

theorem State.producer_setProducer (s : State) (c p j : Nat) :
    (s.setProducer c p).producer j = if j = c then some p else s.producer j := Table.fetch?_insert _ _ _ _

theorem State.producer_clearProducer (s : State) (c j : Nat) :
    (s.clearProducer c).producer j = if j = c then none else s.producer j := Table.fetch?_remove _ _ _

@[simp] theorem State.chan_setBooth (s : State) (b c : Nat) (x : BoothRun) : (s.setBooth b x).chan c = s.chan c := rfl
@[simp] theorem State.booth_setChan (s : State) (c b : Nat) (x : ChannelRun) : (s.setChan c x).booth b = s.booth b :=
  rfl
@[simp] theorem State.desk_setBooth (s : State) (b c d : Nat) (x : BoothRun) :
    (s.setBooth b x).desk c d = s.desk c d := rfl
@[simp] theorem State.desk_setChan (s : State) (b c d : Nat) (x : ChannelRun) :
    (s.setChan b x).desk c d = s.desk c d := rfl
@[simp] theorem State.booth_setDesk (s : State) (b d c : Nat) (x : Desk) : (s.setDesk b d x).booth c = s.booth c := rfl
@[simp] theorem State.chan_setDesk (s : State) (b d c : Nat) (x : Desk) : (s.setDesk b d x).chan c = s.chan c := rfl
@[simp] theorem State.totals_setTurn (s : State) (b c : Nat) (x : Turn) : (s.setTurn b x).totals c = s.totals c := rfl
@[simp] theorem State.turn_setTotals (s : State) (b c : Nat) (x : Totals) : (s.setTotals b x).turn c = s.turn c := rfl

/-! ## Requests -/

/-- Everything a request can do: on a link that receives it, its reply's state with its reply's answer placed on that
link; on any other, nothing. -/
theorem serve_cases {l : Link} {request : Nat} {take : State → Reply} {s t : State}
    (h : serve l request take s = .next t) :
    (s.receives l = true ∧ t = (take s).st.post l ⟨request, (take s).code, (take s).fields⟩) ∨
      (s.receives l = false ∧ t = s) := by
  unfold serve at h
  split at h
  · rename_i hr
    injection h with h
    exact .inl ⟨hr, h.symm⟩
  · rename_i hr
    injection h with h
    exact .inr ⟨by simpa using hr, h.symm⟩

theorem serve_received (l : Link) (request : Nat) (take : State → Reply) (s : State) (h : s.receives l = true) :
    serve l request take s = .next ((take s).st.post l ⟨request, (take s).code, (take s).fields⟩) := by
  simp [serve, h]

/-- A request never faults and is never refused by the model. -/
theorem serve_next (l : Link) (request : Nat) (take : State → Reply) (s : State) :
    ∃ t, serve l request take s = .next t := by
  unfold serve
  split <;> exact ⟨_, rfl⟩

theorem checked_ok (oks : List Bool) (s : State) (r : Reply) (h : firstBad oks 1 = none) : checked oks s r = r := by
  simp [checked, h]

theorem checked_bad (oks : List Bool) (s : State) (r : Reply) (p : Nat) (h : firstBad oks 1 = some p) :
    checked oks s r = ⟨s, .badParameter, [⟨1, some p⟩]⟩ := by
  simp [checked, h]

theorem firstBad_none_iff (oks : List Bool) (n : Nat) : firstBad oks n = none ↔ ∀ ok ∈ oks, ok = true := by
  induction oks generalizing n with
  | nil => simp [firstBad]
  | cons ok oks ih => cases ok <;> simp [firstBad, ih]

@[simp] theorem State.postConsole_consoleFlags (s : State) (a : Answer) :
    (s.postConsole a).links.consoleFlags = s.links.consoleFlags := rfl

/-- An answer changes no flag. -/
@[simp] theorem State.flags_post (s : State) (l : Link) (a : Answer) (m : MasterLink) :
    (s.post l a).flags m = s.flags m := by
  cases l <;> cases m <;> rfl

/-! ## Flags -/

@[simp] theorem State.flags_setFlags (s : State) (l m : MasterLink) (f : FlagSet) :
    (s.setFlags l f).flags m = if m = l then f else s.flags m := by
  cases l <;> cases m <;> rfl

/-- Raising a console flag changes nothing but the console's flag set. -/
theorem State.flags_raise (s : State) (f : ConsoleFlag) (n : Nat) (m : MasterLink) :
    (s.raise f n).flags m = if m = .console then (s.flags m).raise f.bit n else s.flags m := by
  cases m <;> rfl

/-- Raising a counter flag changes nothing but the counter's flag set. -/
theorem State.flags_raiseCounter (s : State) (f : CounterFlag) (n : Nat) (m : MasterLink) :
    (s.raiseCounter f n).flags m = if m = .counter then (s.flags m).raise f.bit n else s.flags m := by
  cases m <;> rfl

theorem FlagSet.count_raise (f : FlagSet) (i j n : Nat) (h : n ≠ 0) :
    (f.raise i n).count j = if j = i then satAdd Config.max16 (f.count i) n else f.count j := by
  simp only [FlagSet.raise, if_neg h, FlagSet.count]
  exact Table.fetch_store 0 f.counts i j _

/-! ## The journal -/

@[simp] theorem State.journal_raise (s : State) (f : ConsoleFlag) (n : Nat) : (s.raise f n).journal = s.journal := rfl

/-- A written entry stands at the tail under the sequence counter's number. -/
theorem State.writeEntry_journal (s : State) (body : EntryBody) :
    (s.writeEntry body).journal = s.journal.append s.meter.time body := by
  unfold State.writeEntry State.raiseLevel
  (repeat' split) <;> simp

/-- An entry handed over is written while one is free, and otherwise leaves the journal as it is. -/
theorem State.handOver_journal (s : State) (body : EntryBody) :
    (s.handOver body).journal = if s.journal.free = 0 then s.journal else s.journal.append s.meter.time body := by
  unfold State.handOver
  split
  · simp
  · exact State.writeEntry_journal s body

/-! ## The return grace -/

/-- Everything that a second does to the return grace: in its last second the timer stops and the sweep is made;
otherwise a running timer loses the second. -/
theorem State.tickGrace_cases (s : State) :
    (s.meter.graceTimer = some 1 ∧ s.tickGrace = (s.setMeter { s.meter with graceTimer := none }).sweep) ∨
      (s.meter.graceTimer ≠ some 1 ∧
        s.tickGrace = s.setMeter { s.meter with graceTimer := s.meter.graceTimer.map fun n => n - 1 }) := by
  unfold State.tickGrace State.graceExpired
  split
  · rename_i h
    exact .inl ⟨h, rfl⟩
  · rename_i h
    exact .inr ⟨h, rfl⟩

/-! ## Resolution -/

/-- A resolution in ON_AIR gives each booth its placed record, and outside ON_AIR changes nothing. -/
theorem State.resolve_relayRec (s : State) (b : Nat) :
    s.resolve.relayRec b =
      if s.onAir = true ∧ b ∈ Config.boothNumbers then s.resolvedRec b else s.relayRec b := by
  unfold State.resolve
  split
  · rename_i h
    simp only [h, true_and]
    exact Table.fetch_fill {} s.resolvedRec Config.boothNumbers s.relay.booths b
  · rename_i h
    simp [h]

/-- After a resolution in ON_AIR the mixer holds the reported sources. -/
theorem State.resolve_feedSource (s : State) (b : Nat) :
    s.resolve.feedSource b =
      if s.onAir = true ∧ b ∈ Config.boothNumbers then s.reportedSource b else s.feedSource b := by
  unfold State.resolve
  split
  · rename_i h
    simp only [h, true_and]
    exact Table.fetch_fill .floor s.reportedSource Config.boothNumbers s.mixer.feedSource b
  · rename_i h
    simp [h]

/-! ## Grants and releases -/

/-- After the booth interlock no queue of channels 1 to 31 holds an entry of the booth; nothing else changes. -/
theorem State.leaveQueues_chan (s : State) (b c : Nat) :
    (s.leaveQueues b).chan c =
      if c ∈ Config.channelNumbers then { s.chan c with queue := (s.chan c).queue.filter fun e => e.booth != b }
      else s.chan c := by
  unfold State.leaveQueues State.setBdc State.chan
  exact Table.fetch_fill {}
    (fun x => ({ Table.fetch {} s.bdc.channels x with
      queue := (Table.fetch {} s.bdc.channels x).queue.filter fun e => e.booth != b } : ChannelRun))
    Config.channelNumbers s.bdc.channels c

@[simp] theorem State.leaveQueues_booth (s : State) (b c : Nat) : (s.leaveQueues b).booth c = s.booth c := rfl

@[simp] theorem State.leaveQueues_desk (s : State) (b c d : Nat) : (s.leaveQueues b).desk c d = s.desk c d := rfl

/-- The records of a grant: the booth's live desk, and no pending request. -/
theorem State.grantRecords_booth (s : State) (b d c x : Nat) :
    (s.grantRecords b d c).booth x =
      if x = b then { s.booth b with live := some (d, c), pending := none } else s.booth x := by
  unfold State.grantRecords
  rw [State.booth_setBooth]
  split
  · simp [State.setLive, State.booth_setBooth]
  · rename_i h
    simp [State.setLive, State.booth_setBooth, h]

/-- A grant's booth and channel records are those that its records give; its reports change neither. -/
@[simp] theorem State.grant_bdc (s : State) (b d c : Nat) : (s.grant b d c).bdc = (s.grantRecords b d c).bdc := by
  simp [State.grant]

/-- A release leaves the booth without a live desk and the channel without a holder. -/
@[simp] theorem State.release_bdc (s : State) (b c : Nat) (r : Reason) : (s.release b c r).bdc = (s.clearLive b c).bdc := by
  simp [State.release]

theorem State.clearLive_chan (s : State) (b c x : Nat) :
    (s.clearLive b c).chan x = if x = c then { s.chan c with holder := none } else s.chan x := by
  unfold State.clearLive
  rw [State.chan_setBooth, State.chan_setChan]

theorem State.clearLive_booth (s : State) (b c x : Nat) :
    (s.clearLive b c).booth x = if x = b then { s.booth b with live := none } else s.booth x := by
  unfold State.clearLive
  rw [State.booth_setBooth]
  split <;> rfl

/-! ## Frames on the carrier -/

/-- The slots of a new frame are as many as the strap says. -/
theorem State.frameSlots_length (s : State) (t o : Bool) : (s.frameSlots t o).length = s.slots := by
  simp [State.frameSlots]

theorem bytesOf_length (w n : Nat) : (bytesOf w n).length = w := by
  induction w with
  | zero => rfl
  | succ w ih => simp [bytesOf, ih]

/-! ## Receivers that leave hire -/

/-- A receiver that leaves hire writes one entry, at the tail. -/
theorem State.leaveHire_journal (s : State) (k : Nat) (r : Receiver) (h : HireFields) (w : Leaving) :
    (s.leaveHire k r h w).journal = s.journal.append s.meter.time (s.hireEntry r h w) := by
  simp [State.leaveHire, State.writeEntry_journal]

/-- A receiver that leaves hire has its slot's record off hire, and no other slot changes. -/
theorem State.leaveHire_slots (s : State) (k : Nat) (r : Receiver) (h : HireFields) (w : Leaving) :
    (s.leaveHire k r h w).register.slots = Table.insert s.register.slots k (r.offHire w.state) := by
  simp [State.leaveHire, State.setSlot]

end Sys2Proof.Machine
end

