-- ==== Sys2Proof/Laws/PerInstr.lean ====
section
/-! SUPPORT. For every command: a request is in its link's set, has the parameters its code's frame carries, and is what
that code and those parameters are read back as. -/

namespace Sys2Proof.Laws.Wire

open Sys2Proof Sys2Proof.Machine

/-- R182 to R184: a command that is a request belongs to its link's set, has as many parameters as its code's frame, and
is what its code and parameters stand for on that link. -/
def Statement (i : Instr) : Prop :=
  ∀ r, i.request = some r →
    r.link.takes r.code = true ∧ r.params.length = (requestWidths r.code).length ∧
      commandOf r.link.master r.code r.params = some i

theorem powerOn (slotsHigh desksHigh : Bool) : Statement (.powerOn slotsHigh desksHigh) := by
  intro r h; cases h

theorem resetPin : Statement .resetPin := by
  intro r h; cases h

theorem resetPinRelease : Statement .resetPinRelease := by
  intro r h; cases h

theorem chSet (bank channel enabled lang quality fill : Nat) : Statement (.chSet bank channel enabled lang quality fill) := by
  intro r h; cases h; exact ⟨rfl, rfl, rfl⟩

theorem boothSet (bank booth present a b count c1 c2 c3 c4 desks : Nat) : Statement (.boothSet bank booth present a b count c1 c2 c3 c4 desks) := by
  intro r h; cases h; exact ⟨rfl, rfl, rfl⟩

theorem bankClear (bank : Nat) : Statement (.bankClear bank) := by
  intro r h; cases h; exact ⟨rfl, rfl, rfl⟩

theorem bankCopy (source target : Nat) : Statement (.bankCopy source target) := by
  intro r h; cases h; exact ⟨rfl, rfl, rfl⟩

theorem bankCheck (bank : Nat) : Statement (.bankCheck bank) := by
  intro r h; cases h; exact ⟨rfl, rfl, rfl⟩

theorem bankRead (bank kind item : Nat) : Statement (.bankRead bank kind item) := by
  intro r h; cases h; exact ⟨rfl, rfl, rfl⟩

theorem start (bank : Nat) : Statement (.start bank) := by
  intro r h; cases h; exact ⟨rfl, rfl, rfl⟩

theorem standby : Statement .standby := by
  intro r h; cases h; exact ⟨rfl, rfl, rfl⟩

theorem standbyFinalFrameEnd : Statement .standbyFinalFrameEnd := by
  intro r h; cases h

theorem settleTick : Statement .settleTick := by
  intro r h; cases h

theorem switch (bank : Nat) : Statement (.switch bank) := by
  intro r h; cases h; exact ⟨rfl, rfl, rfl⟩

theorem frameBoundary : Statement .frameBoundary := by
  intro r h; cases h

theorem announce : Statement .announce := by
  intro r h; cases h; exact ⟨rfl, rfl, rfl⟩

theorem announceEnd : Statement .announceEnd := by
  intro r h; cases h; exact ⟨rfl, rfl, rfl⟩

theorem lineMode (mode : Nat) : Statement (.lineMode mode) := by
  intro r h; cases h; exact ⟨rfl, rfl, rfl⟩

theorem framerRead : Statement .framerRead := by
  intro r h; cases h; exact ⟨rfl, rfl, rfl⟩

theorem handoverSet (ramp offer : Nat) : Statement (.handoverSet ramp offer) := by
  intro r h; cases h; exact ⟨rfl, rfl, rfl⟩

theorem channelRead (channel : Nat) : Statement (.channelRead channel) := by
  intro r h; cases h; exact ⟨rfl, rfl, rfl⟩

theorem forceOff (booth : Nat) : Statement (.forceOff booth) := by
  intro r h; cases h; exact ⟨rfl, rfl, rfl⟩

theorem liveReset : Statement .liveReset := by
  intro r h; cases h; exact ⟨rfl, rfl, rfl⟩

theorem boothRead (booth : Nat) : Statement (.boothRead booth) := by
  intro r h; cases h; exact ⟨rfl, rfl, rfl⟩

theorem floorLang (code : Nat) : Statement (.floorLang code) := by
  intro r h; cases h; exact ⟨rfl, rfl, rfl⟩

theorem relaySet (hold : Nat) : Statement (.relaySet hold) := by
  intro r h; cases h; exact ⟨rfl, rfl, rfl⟩

theorem sittingOpen : Statement .sittingOpen := by
  intro r h; cases h; exact ⟨rfl, rfl, rfl⟩

theorem sittingClose : Statement .sittingClose := by
  intro r h; cases h; exact ⟨rfl, rfl, rfl⟩

theorem returnGrace (minutes : Nat) : Statement (.returnGrace minutes) := by
  intro r h; cases h; exact ⟨rfl, rfl, rfl⟩

theorem sittingRead (kind item : Nat) : Statement (.sittingRead kind item) := by
  intro r h; cases h; exact ⟨rfl, rfl, rfl⟩

theorem tariffSet (grace unit rate cap fee loss deposit : Nat) : Statement (.tariffSet grace unit rate cap fee loss deposit) := by
  intro r h; cases h; exact ⟨rfl, rfl, rfl⟩

theorem tallyRead : Statement .tallyRead := by
  intro r h; cases h; exact ⟨rfl, rfl, rfl⟩

theorem jnlRead : Statement .jnlRead := by
  intro r h; cases h; exact ⟨rfl, rfl, rfl⟩

theorem jnlAck (sequence : Nat) : Statement (.jnlAck sequence) := by
  intro r h; cases h; exact ⟨rfl, rfl, rfl⟩

theorem rxQuery (link : MasterLink) (serial : Nat) : Statement (.rxQuery link serial) := by
  intro r h; cases link <;> (cases h; exact ⟨rfl, rfl, rfl⟩)

theorem acctQuery (link : MasterLink) (account : Nat) : Statement (.acctQuery link account) := by
  intro r h; cases link <;> (cases h; exact ⟨rfl, rfl, rfl⟩)

theorem flagsRead (link : MasterLink) : Statement (.flagsRead link) := by
  intro r h; cases link <;> (cases h; exact ⟨rfl, rfl, rfl⟩)

theorem flagsClear (link : MasterLink) (selection : Nat) : Statement (.flagsClear link selection) := by
  intro r h; cases link <;> (cases h; exact ⟨rfl, rfl, rfl⟩)

theorem maskSet (link : MasterLink) (mask : Nat) : Statement (.maskSet link mask) := by
  intro r h; cases link <;> (cases h; exact ⟨rfl, rfl, rfl⟩)

theorem rxRegister (serial cls : Nat) : Statement (.rxRegister serial cls) := by
  intro r h; cases h; exact ⟨rfl, rfl, rfl⟩

theorem rxRegisterNext (serial cls : Nat) : Statement (.rxRegisterNext serial cls) := by
  intro r h; cases h; exact ⟨rfl, rfl, rfl⟩

theorem rxWindow (first last mode : Nat) : Statement (.rxWindow first last mode) := by
  intro r h; cases h; exact ⟨rfl, rfl, rfl⟩

theorem rxReadNext : Statement .rxReadNext := by
  intro r h; cases h; exact ⟨rfl, rfl, rfl⟩

theorem rxWithdraw (serial : Nat) : Statement (.rxWithdraw serial) := by
  intro r h; cases h; exact ⟨rfl, rfl, rfl⟩

theorem repaired (serial : Nat) : Statement (.repaired serial) := by
  intro r h; cases h; exact ⟨rfl, rfl, rfl⟩

theorem rackReport (serial result : Nat) : Statement (.rackReport serial result) := by
  intro r h; cases h; exact ⟨rfl, rfl, rfl⟩

theorem acctOpen (account kind limit credit : Nat) : Statement (.acctOpen account kind limit credit) := by
  intro r h; cases h; exact ⟨rfl, rfl, rfl⟩

theorem acctLimit (account limit credit : Nat) : Statement (.acctLimit account limit credit) := by
  intro r h; cases h; exact ⟨rfl, rfl, rfl⟩

theorem acctPay (account amount : Nat) : Statement (.acctPay account amount) := by
  intro r h; cases h; exact ⟨rfl, rfl, rfl⟩

theorem acctClose (account : Nat) : Statement (.acctClose account) := by
  intro r h; cases h; exact ⟨rfl, rfl, rfl⟩

theorem issue (serial account preset deposit : Nat) : Statement (.issue serial account preset deposit) := by
  intro r h; cases h; exact ⟨rfl, rfl, rfl⟩

theorem rxPreset (serial lang : Nat) : Statement (.rxPreset serial lang) := by
  intro r h; cases h; exact ⟨rfl, rfl, rfl⟩

theorem rxReturn (serial : Nat) : Statement (.rxReturn serial) := by
  intro r h; cases h; exact ⟨rfl, rfl, rfl⟩

theorem lost (serial : Nat) : Statement (.lost serial) := by
  intro r h; cases h; exact ⟨rfl, rfl, rfl⟩

theorem found (serial : Nat) : Statement (.found serial) := by
  intro r h; cases h; exact ⟨rfl, rfl, rfl⟩

theorem micOn (booth desk : Nat) : Statement (.micOn booth desk) := by
  intro r h; cases h; exact ⟨rfl, rfl, rfl⟩

theorem micOff (booth desk : Nat) : Statement (.micOff booth desk) := by
  intro r h; cases h; exact ⟨rfl, rfl, rfl⟩

theorem output (booth desk out : Nat) : Statement (.output booth desk out) := by
  intro r h; cases h; exact ⟨rfl, rfl, rfl⟩

theorem coughOn (booth desk : Nat) : Statement (.coughOn booth desk) := by
  intro r h; cases h; exact ⟨rfl, rfl, rfl⟩

theorem coughOff (booth desk : Nat) : Statement (.coughOff booth desk) := by
  intro r h; cases h; exact ⟨rfl, rfl, rfl⟩

theorem signOn (booth desk interpreter : Nat) : Statement (.signOn booth desk interpreter) := by
  intro r h; cases h; exact ⟨rfl, rfl, rfl⟩

theorem signOff (booth desk : Nat) : Statement (.signOff booth desk) := by
  intro r h; cases h; exact ⟨rfl, rfl, rfl⟩

theorem source (booth desk mode channel : Nat) : Statement (.source booth desk mode channel) := by
  intro r h; cases h; exact ⟨rfl, rfl, rfl⟩

theorem poll (booth desk : Nat) : Statement (.poll booth desk) := by
  intro r h; cases h; exact ⟨rfl, rfl, rfl⟩

theorem meterSecond : Statement .meterSecond := by
  intro r h; cases h

theorem offerTimerExpiry (booth : Nat) : Statement (.offerTimerExpiry booth) := by
  intro r h; cases h

theorem holdTimerExpiry (booth : Nat) : Statement (.holdTimerExpiry booth) := by
  intro r h; cases h

theorem returnGraceExpiry : Statement .returnGraceExpiry := by
  intro r h; cases h

theorem badCrcFrame (link : Link) : Statement (.badCrcFrame link) := by
  intro r h; cases h

theorem unknownRequest (link : Link) (code : Nat) (params : List Byte) : Statement (.unknownRequest link code params) := by
  intro r h; cases h

theorem zeroLengthFrame (link : UartLink) : Statement (.zeroLengthFrame link) := by
  intro r h; cases h

theorem uartGapTimeout (link : UartLink) (byte : Byte) : Statement (.uartGapTimeout link byte) := by
  intro r h; cases h

theorem uartFramingError (link : UartLink) : Statement (.uartFramingError link) := by
  intro r h; cases h

theorem selectDeassert : Statement .selectDeassert := by
  intro r h; cases h

theorem answerSent (link : Link) : Statement (.answerSent link) := by
  intro r h; cases h

end Sys2Proof.Laws.Wire
end

