-- ==== Sys2Proof/Laws/Reception.lean ====
section
/-! SUPPORT. What the reception of a byte gives and leaves alone, and everything that a step can do. -/

namespace Sys2Proof.Machine

/-! ### setReceiver: links -/

@[simp] theorem State.setReceiver_straps (s : State) (l : Link) (r : Receive) : (s.setReceiver l r).straps = s.straps := by
  cases l <;> rfl
@[simp] theorem State.setReceiver_banks (s : State) (l : Link) (r : Receive) : (s.setReceiver l r).banks = s.banks := by
  cases l <;> rfl
@[simp] theorem State.setReceiver_framer (s : State) (l : Link) (r : Receive) : (s.setReceiver l r).framer = s.framer := by
  cases l <;> rfl
@[simp] theorem State.setReceiver_mixer (s : State) (l : Link) (r : Receive) : (s.setReceiver l r).mixer = s.mixer := by
  cases l <;> rfl
@[simp] theorem State.setReceiver_bdc (s : State) (l : Link) (r : Receive) : (s.setReceiver l r).bdc = s.bdc := by
  cases l <;> rfl
@[simp] theorem State.setReceiver_relay (s : State) (l : Link) (r : Receive) : (s.setReceiver l r).relay = s.relay := by
  cases l <;> rfl
@[simp] theorem State.setReceiver_meter (s : State) (l : Link) (r : Receive) : (s.setReceiver l r).meter = s.meter := by
  cases l <;> rfl
@[simp] theorem State.setReceiver_register (s : State) (l : Link) (r : Receive) : (s.setReceiver l r).register = s.register := by
  cases l <;> rfl
@[simp] theorem State.setReceiver_hire (s : State) (l : Link) (r : Receive) : (s.setReceiver l r).hire = s.hire := by
  cases l <;> rfl
@[simp] theorem State.setReceiver_journal (s : State) (l : Link) (r : Receive) : (s.setReceiver l r).journal = s.journal := by
  cases l <;> rfl
@[simp] theorem State.setReceiver_resetHeld (s : State) (l : Link) (r : Receive) : (s.setReceiver l r).resetHeld = s.resetHeld := by
  cases l <;> rfl
@[simp] theorem State.setReceiver_freeIndex (s : State) (l : Link) (r : Receive) : (s.setReceiver l r).freeIndex = s.freeIndex := by
  cases l <;> rfl
@[simp] theorem State.setReceiver_pending (s : State) (l : Link) (r : Receive) : (s.setReceiver l r).pending = s.pending := by
  cases l <;> rfl
@[simp] theorem State.setReceiver_arriving (s : State) (l : Link) (r : Receive) : (s.setReceiver l r).arriving = s.arriving := by
  cases l <;> rfl

/-- A receiver that is set is the one that its link has; the others are as they were. -/
theorem State.receiverOf_setReceiver (s : State) (l m : Link) (r : Receive) :
    (s.setReceiver l r).receiverOf m = if m = l then r else s.receiverOf m := by
  cases l <;> cases m <;> rfl

@[simp] theorem State.setReceiver_setReceiver (s : State) (l : Link) (r r' : Receive) :
    (s.setReceiver l r).setReceiver l r' = s.setReceiver l r' := by
  cases l <;> rfl

@[simp] theorem State.setReceiver_receiverOf (s : State) (l : Link) : s.setReceiver l (s.receiverOf l) = s := by
  cases l <;> rfl

/-- What a link receives does not hang on its receiver. -/
@[simp] theorem State.receives_setReceiver (s : State) (l m : Link) (r : Receive) :
    (s.setReceiver l r).receives m = s.receives m := by
  cases l <;> cases m <;> rfl

@[simp] theorem State.hears_setReceiver (s : State) (l m : Link) (r : Receive) :
    (s.setReceiver l r).hears m = s.hears m := by
  cases l <;> cases m <;> rfl

/-- A receiver changes no flag. -/
@[simp] theorem State.flags_setReceiver (s : State) (l : Link) (r : Receive) (m : MasterLink) :
    (s.setReceiver l r).flags m = s.flags m := by
  cases l <;> cases m <;> rfl

/-! ### shiftOut: links -/

@[simp] theorem State.shiftOut_straps (s : State) (l : Link) : (s.shiftOut l).straps = s.straps := by cases l <;> rfl
@[simp] theorem State.shiftOut_banks (s : State) (l : Link) : (s.shiftOut l).banks = s.banks := by cases l <;> rfl
@[simp] theorem State.shiftOut_framer (s : State) (l : Link) : (s.shiftOut l).framer = s.framer := by cases l <;> rfl
@[simp] theorem State.shiftOut_mixer (s : State) (l : Link) : (s.shiftOut l).mixer = s.mixer := by cases l <;> rfl
@[simp] theorem State.shiftOut_bdc (s : State) (l : Link) : (s.shiftOut l).bdc = s.bdc := by cases l <;> rfl
@[simp] theorem State.shiftOut_relay (s : State) (l : Link) : (s.shiftOut l).relay = s.relay := by cases l <;> rfl
@[simp] theorem State.shiftOut_meter (s : State) (l : Link) : (s.shiftOut l).meter = s.meter := by cases l <;> rfl
@[simp] theorem State.shiftOut_register (s : State) (l : Link) : (s.shiftOut l).register = s.register := by cases l <;> rfl
@[simp] theorem State.shiftOut_hire (s : State) (l : Link) : (s.shiftOut l).hire = s.hire := by cases l <;> rfl
@[simp] theorem State.shiftOut_journal (s : State) (l : Link) : (s.shiftOut l).journal = s.journal := by cases l <;> rfl
@[simp] theorem State.shiftOut_resetHeld (s : State) (l : Link) : (s.shiftOut l).resetHeld = s.resetHeld := by cases l <;> rfl
@[simp] theorem State.shiftOut_freeIndex (s : State) (l : Link) : (s.shiftOut l).freeIndex = s.freeIndex := by cases l <;> rfl
@[simp] theorem State.shiftOut_pending (s : State) (l : Link) : (s.shiftOut l).pending = s.pending := by cases l <;> rfl
@[simp] theorem State.shiftOut_arriving (s : State) (l : Link) : (s.shiftOut l).arriving = s.arriving := by cases l <;> rfl

/-- R186: what a byte shifted out does to the console: with an answer that has more than one byte left, the next of them
goes out and the answer stays; otherwise its last byte, or 0x00, goes out and no answer is left. -/
theorem ConsoleLink.shift_cases (x : ConsoleLink) :
    (∃ b c bs, x.outgoing = b :: c :: bs ∧ x.shift = { x with sent := x.sent + 1, out := some b }) ∨
      (x.outgoing.length ≤ 1 ∧
        x.shift = { x with answer := none, filler := 0, sent := 0, out := some (x.outgoing.headD 0) }) := by
  unfold ConsoleLink.shift
  split
  · rename_i b c bs h
    exact .inl ⟨b, c, bs, h, rfl⟩
  · rename_i h
    refine .inr ⟨?_, rfl⟩
    rcases hx : x.outgoing with _ | ⟨b, _ | ⟨c, bs⟩⟩
    · simp
    · simp
    · exact absurd hx (h b c bs)

/-- A byte shifted out neither begins nor ends the console's use of its select period. -/
@[simp] theorem ConsoleLink.shift_period (x : ConsoleLink) : x.shift.period = x.period := by
  rcases x.shift_cases with ⟨b, c, bs, -, h⟩ | ⟨-, h⟩ <;> rw [h]

@[simp] theorem ConsoleLink.shift_receive (x : ConsoleLink) : x.shift.receive = x.receive := by
  rcases x.shift_cases with ⟨b, c, bs, -, h⟩ | ⟨-, h⟩ <;> rw [h]

/-- While a byte is clocked the data output is driven. -/
theorem ConsoleLink.shift_out (x : ConsoleLink) : x.shift.out = some (x.outgoing.headD 0) := by
  rcases x.shift_cases with ⟨b, c, bs, h, e⟩ | ⟨-, e⟩
  · simp [e, h]
  · rw [e]

@[simp] theorem State.receiverOf_shiftOut (s : State) (l m : Link) : (s.shiftOut l).receiverOf m = s.receiverOf m := by
  cases l
  · cases m <;> first | rfl | simp [State.shiftOut, State.receiverOf, State.setLinks]
  · rfl
  · rfl

@[simp] theorem State.receives_shiftOut (s : State) (l m : Link) : (s.shiftOut l).receives m = s.receives m := by
  cases l
  · cases m <;> first | rfl | simp [State.shiftOut, State.receives, State.setLinks]
  · rfl
  · rfl

@[simp] theorem State.hears_shiftOut (s : State) (l m : Link) : (s.shiftOut l).hears m = s.hears m := by
  cases l
  · cases m <;> first | rfl | simp [State.shiftOut, State.hears, State.setLinks]
  · rfl
  · rfl

/-- A byte shifted out changes no flag. -/
@[simp] theorem State.flags_shiftOut (s : State) (l : Link) (m : MasterLink) : (s.shiftOut l).flags m = s.flags m := by
  cases l <;> cases m <;> rfl

/-! ## Bytes -/

/-- A link that receives hears its bytes. -/
theorem State.hears_of_receives {s : State} {l : Link} (h : s.receives l = true) : s.hears l = true := by
  cases l <;> simp_all [State.receives, State.hears, State.uartOpen]

/-- Everything that a byte can do: nothing while the pin is held; else the console shifts a byte out for it, and then,
where the link hears it, the receiver takes it, and a frame that is complete leads to its command or is discarded. -/
theorem State.takeByte_cases {s t : State} {l : Link} {byte : Byte} (h : s.takeByte l byte = .next t) :
    (s.resetHeld = true ∧ t = s) ∨
      (s.resetHeld = false ∧ s.hears l = false ∧ t = s.shiftOut l) ∨
      (s.resetHeld = false ∧ s.hears l = true ∧ ∃ r, r = (s.receiverOf l).take (s.receives l) byte ∧
        ((r.complete = none ∧ t = (s.shiftOut l).setReceiver l r) ∨
          ∃ frame, r.complete = some frame ∧
            ((readCounted l frame = none ∧ t = (s.shiftOut l).setReceiver l .hunting) ∨
              ∃ i, readCounted l frame = some i ∧ exec i ((s.shiftOut l).setReceiver l .hunting) = .next t))) := by
  unfold State.takeByte at h
  split at h
  · rename_i hh
    injection h with h
    exact .inl ⟨hh, h.symm⟩
  rename_i hp
  have hp : s.resetHeld = false := by simpa using hp
  split at h
  · rename_i hh
    refine .inr (.inr ⟨hp, hh, _, rfl, ?_⟩)
    simp only [State.receiveByte, State.receiverOf_shiftOut, State.receives_shiftOut] at h
    split at h
    · rename_i frame hf
      refine .inr ⟨frame, hf, ?_⟩
      unfold State.takeFrame at h
      split at h
      · rename_i i hi
        exact .inr ⟨i, hi, h⟩
      · rename_i hi
        injection h with h
        exact .inl ⟨hi, h.symm⟩
    · rename_i hf
      injection h with h
      exact .inl ⟨hf, h.symm⟩
  · rename_i hh
    injection h with h
    exact .inr (.inl ⟨hp, by simpa using hh, h.symm⟩)

/-- Everything that a step can do: the front command on the state with the rest of the queue; with none waiting, the
first byte on the state with the others; and with neither, nothing. -/
theorem step_cases {s t : State} (h : step s = .next t) :
    (∃ c rest, s.pending = c :: rest ∧ exec c (s.setPending rest) = .next t) ∨
      (s.pending = [] ∧ ∃ a rest, s.arriving = a :: rest ∧ (s.setArriving rest).takeByte a.link a.byte = .next t) ∨
      (s.pending = [] ∧ s.arriving = [] ∧ t = s) := by
  unfold step at h
  split at h
  · rename_i hp
    unfold State.takeArrival at h
    split at h
    · rename_i ha
      injection h with h
      exact .inr (.inr ⟨hp, ha, h.symm⟩)
    · rename_i a rest ha
      exact .inr (.inl ⟨hp, a, rest, ha, h⟩)
  · rename_i c rest hp
    exact .inl ⟨c, rest, hp, h⟩

end Sys2Proof.Machine
end

