-- ==== Sys2Proof/Tests/Slice0.lean ====
section
/-! SUPPORT. The model's own tests: the ill-formed commands that WellFormed refuses; one or two small tests of each
command, in the hall of spec/12 wherever that chapter gives the figures; and for each statement with hypotheses a
state and operands that meet them. -/

namespace Sys2Proof.Tests

open Sys2Proof Sys2Proof.Machine

set_option Elab.async false

/-! ## The hall of spec/12 -/

/-- Bank 1 of spec/12, on air with the allocation of 12.1. -/
def plan1 : Bank :=
  { status := .onAir
    channels := [(1, ⟨true, 120, .full, true⟩), (2, ⟨true, 352, .auto, true⟩), (3, ⟨true, 44, .auto, true⟩),
      (4, ⟨true, 81, .narrow, true⟩)]
    booths := [(1, ⟨true, some 1, none, [210], 2⟩), (2, ⟨true, some 2, none, [210], 2⟩),
      (3, ⟨true, some 3, none, [352], 2⟩), (4, ⟨true, some 4, none, [44, 352], 2⟩)]
    alloc := some [(1, ⟨2, 2⟩), (2, ⟨4, 2⟩), (3, ⟨6, 2⟩), (4, ⟨8, 1⟩)] }

/-- Bank 2 of spec/12, VALID. -/
def plan2 : Bank :=
  { status := .valid
    channels := [(1, ⟨true, 120, .full, true⟩), (2, ⟨true, 352, .auto, true⟩), (3, ⟨true, 44, .auto, true⟩),
      (5, ⟨true, 505, .narrow, true⟩)]
    booths := [(1, ⟨true, some 1, none, [210], 2⟩), (2, ⟨true, some 2, none, [210], 2⟩),
      (3, ⟨true, some 3, none, [352], 2⟩), (5, ⟨true, some 5, none, [120], 2⟩)] }

/-- The hire side of 12.2 with all three receivers out. -/
def counterSide : State :=
  { register :=
      { slots := [(0, { serial := 7230, cls := .standard, state := .onHire, hire := some ⟨501, 352, 30600, 1, true, 5000⟩ }),
          (1, { serial := 7231, cls := .standard, state := .onHire, hire := some ⟨4400, 44, 30660, 1, true, 0⟩ }),
          (2, { serial := 7232, cls := .standard, state := .onHire, hire := some ⟨501, 81, 30720, 1, true, 5000⟩ })] }
    hire :=
      { accounts := [(501, ⟨.personal, false, 2, 2, 0, 0, 10000⟩), (4400, ⟨.delegation, false, 9, 1, 0, 10000, 0⟩)]
        tariff := ⟨10, 30, 250, 1200, 500, 40000, 5000⟩
        tally := ⟨[(44, 1), (81, 1), (352, 1)], 0⟩ } }

/-- The hall on air at 31,800: desks 1/1 to 4/1 live, sitting 1 open since 30,000, booths 3 and 4 on channel 2. -/
def plenary : State :=
  { counterSide with
    banks := [(1, plan1), (2, plan2)]
    framer := { state := .onAir, planNumber := 1, frame := some ⟨[], true, false, false, []⟩ }
    mixer :=
      { carriage := [1, 2, 3, 4].map fun c => (c, { live := some ⟨c, 1⟩ })
        feedSource := [(3, .channel 2), (4, .channel 2)] }
    bdc :=
      { booths := [1, 2, 3, 4].map fun b => (b, { live := some (1, b) })
        channels := [1, 2, 3, 4].map fun c => (c, { holder := some ⟨c, 1⟩ }) }
    relay :=
      { floorLang := 210
        booths := [3, 4].map fun b => (b, ⟨.auto, .channel 2, 1, .ok, none⟩)
        producers := [1, 2, 3, 4].map fun c => (c, c) }
    meter :=
      { time := 31800
        sitting := { isOpen := true, number := 1, openTime := some 30000 }
        turns := [1, 2, 3, 4].map fun b =>
          (b, ⟨1, none, b, if b = 4 then .narrow else .full, 30000, 1800, 0, if b < 3 then 0 else 1800⟩) } }

/-- The hall in STANDBY with bank 1 VALID and nobody out. -/
def morning : State :=
  { banks := [(1, { plan1 with status := .valid, alloc := none }), (2, plan2)], relay := { floorLang := 210 } }

/-- The state that a command leads to. -/
def after (i : Instr) (s : State) : State :=
  match exec i s with
  | .next t => t
  | .fault _ | .refused _ => s

/-- The answer that waits last on a link: its code and its fields' values. -/
def told (l : Link) (s : State) : Option (AnswerCode × List (Option Nat)) :=
  (match l with
    | .console => s.links.console.answer
    | .counter => s.links.counter.fifo.getLast?
    | .desk => s.links.desk.fifo.getLast?).map fun a : Answer => (a.code, a.fields.map Field.value)

/-- The hall with the meter time of an event. -/
def State.at (s : State) (time : Nat) : State := { s with meter := { s.meter with time := time } }

/-- Booth 2's desk 2 has offered (12.3). -/
def offered : State := after (.micOn 2 2) plenary

/-- 12.4 at 33,604: channel 2 is free and the hold timers of booths 3 and 4 have run out. -/
def heldOut : State :=
  { plenary with
    mixer :=
      { carriage := [1, 3, 4].map fun c => (c, { live := some ⟨c, 1⟩ })
        feedSource := [(3, .channel 2), (4, .channel 2)] }
    bdc :=
      { booths := [1, 3, 4].map fun b => (b, { live := some (1, b) })
        channels := [1, 3, 4].map fun c => (c, { holder := some ⟨c, 1⟩ }) }
    relay :=
      { floorLang := 210
        booths := [3, 4].map fun b => (b, ⟨.auto, .channel 2, 1, .holding, some 0⟩)
        producers := [1, 3, 4].map fun c => (c, c) }
    meter := { time := 33604 } }

/-- The state that a console request leads to, its select period ended. -/
def consoled (i : Instr) (s : State) : State := after .selectDeassert (after i s)

/-- 12.5: the announcement runs and the switch to bank 2 is pending. -/
def delayed : State := consoled (.switch 2) (consoled .announce plenary)

/-- The announcement is ending and the switch to bank 2 is pending. -/
def switching : State := consoled .announceEnd delayed

/-- The hall's sitting in the last second of a return grace. -/
def lapsing : State := { plenary with meter := { time := 43499, graceTimer := some 1 } }

/-- The sitting closed, both personal receivers overdue (12.6). -/
def swept : State :=
  { counterSide with
    meter := { time := 44100, sitting := { number := 1 } }
    register :=
      { slots := [(0, { serial := 7230, cls := .standard, state := .overdue, hire := some ⟨501, 352, 30600, 1, true, 5000⟩ }),
          (2, { serial := 7232, cls := .standard, state := .overdue, hire := some ⟨501, 81, 30720, 1, true, 5000⟩, orphaned := true })] }
    hire := { counterSide.hire with
      accounts := [(501, ⟨.personal, false, 2, 2, 0, 0, 10000⟩)], tally := ⟨[(81, 1), (352, 1)], 0⟩ } }

/-- 12.7: 1,021 entries in the ring. -/
def crowded : State :=
  { plenary with journal := ⟨List.replicate 1021 ⟨1, 0, .found 1⟩, 2000⟩ }

/-! ## Ill-formed commands (WellFormed) -/

/-- A parameter that does not fit its width: bank 256 in one byte. -/
theorem test_illFormed_width : (Instr.bankClear 256).wellFormed = false := by decide

/-- The same in a later place: a deposit of 3 bytes where ISSUE has 2. -/
theorem test_illFormed_laterWidth : (Instr.issue 1 1 0 65536).wellFormed = false := by decide

/-- A parameter too few or too many. -/
theorem test_illFormed_count :
    Request.wellFormed ⟨.console, Code.start, []⟩ = false ∧ Request.wellFormed ⟨.console, Code.start, [1, 1]⟩ = false := by
  decide

/-- A request on a link that does not take it. -/
theorem test_illFormed_link : Request.wellFormed ⟨.desk, Code.start, [1]⟩ = false := by decide

/-- A body that LNK does not turn away is no UNKNOWN_REQUEST, nor is a code of more than a byte or a body of 256. -/
theorem test_illFormed_turnedAway :
    (Instr.unknownRequest .console 7 [1]).wellFormed = false ∧
      (Instr.unknownRequest .console 300 []).wellFormed = false ∧
      (Instr.unknownRequest .console 200 (List.replicate 255 0)).wellFormed = false := by decide +kernel

/-- A timer of a booth that does not exist. -/
theorem test_illFormed_booth :
    (Instr.offerTimerExpiry 0).wellFormed = false ∧ (Instr.holdTimerExpiry 32).wellFormed = false := by decide

/-- Commands at the ends of their ranges are well formed. -/
theorem test_wellFormed :
    (Instr.bankClear 255).wellFormed = true ∧ (Instr.jnlAck 4294967295).wellFormed = true ∧
      (Instr.unknownRequest .desk 7 [1]).wellFormed = true ∧ (Instr.offerTimerExpiry 31).wellFormed = true := by decide

/-! ## Resets, the queue and the links -/

/-- R196, R197: straps high, 64 slots and 3 desks, nothing kept. -/
theorem test_powerOn :
    (after (.powerOn true true) plenary).slots = 64 ∧ (after (.powerOn true true) plenary).desksPerBooth = 3 ∧
      (after (.powerOn true true) plenary).hire.accounts = [] := by decide

/-- R43, R23, R157: the framer stops, the bank on air becomes VALID, the accounts stay. -/
theorem test_resetPin :
    (after .resetPin plenary).framer.state = .standby ∧ ((after .resetPin plenary).bank 1).status = .valid ∧
      (after .resetPin plenary).hire = plenary.hire := by decide

theorem test_resetPinRelease : (after .resetPinRelease (after .resetPin plenary)).resetHeld = false := by decide

/-- The front of the queue is taken first. -/
theorem test_step_takesFront :
    step { State.reset with pending := [.relaySet 7, .relaySet 9] } =
      exec (.relaySet 7) { State.reset with pending := [.relaySet 9] } := rfl

/-- R183: the CRC register starts at all ones and stays so over no byte; the bytes 0xFF, 0xFF bring it to 0. -/
theorem test_crc : crc16 [] = 0xFFFF ∧ crc16 [0xFF, 0xFF] = 0 := by decide +kernel

/-- R183, R184: FORCE_OFF of booth 5 on the console: start byte, length 2, code 16, parameter. -/
theorem test_frame_forceOff : (requestFrame (Request.body ⟨.console, Code.forceOff, [5]⟩)).take 4 = [0xC5, 2, 16, 5] := by
  decide

theorem test_frame_readBack :
    readFrame .desk (requestFrame (Request.body ⟨.desk, Code.signOn, [3, 1, 9999]⟩)) = some (.signOn 3 1 9999) := by
  decide +kernel

/-- R187: code 7 is not of the desk link's set. -/
theorem test_unknownRequest : told .desk (after (.unknownRequest .desk 7 [1]) plenary) = some (.unknownRequest, []) := by
  decide

theorem test_badLength : told .console (after (.unknownRequest .console 7 []) plenary) = some (.badLength, []) := by decide

theorem test_badCrcFrame : (after (.badCrcFrame .desk) plenary).links.desk = ⟨.hunting, []⟩ := by decide

theorem test_zeroLengthFrame : (after (.zeroLengthFrame .counter) plenary).links.counter.receive = .hunting := by decide

/-- R185: the byte that ends a gap is examined as a start byte. -/
theorem test_uartGapTimeout :
    (after (.uartGapTimeout .desk 0xC5) plenary).links.desk.receive = .begun ∧
      (after (.uartGapTimeout .desk 0x5C) plenary).links.desk.receive = .hunting := by decide

theorem test_uartFramingError :
    (after (.uartFramingError .desk) (after (.uartGapTimeout .desk 0xC5) plenary)).links.desk.receive = .hunting := by
  decide

theorem test_selectDeassert : (after .selectDeassert (after .framerRead plenary)).links.console.answer = none := by decide

/-- R186: one request in a select period. -/
theorem test_selectPeriod :
    told .console (after .jnlRead (after .framerRead plenary)) = told .console (after .framerRead plenary) ∧
      told .console (after .jnlRead (consoled .framerRead plenary)) = some (.empty, [some 0, some 1]) := by decide

/-- The state that bytes on a link lead to. -/
def heard (l : Link) (bytes : List Byte) (s : State) : State :=
  match s.takeBytes l bytes with
  | .next t => t
  | .fault _ | .refused _ => s

/-- R185: bytes before 0xC5 are discarded; the length and the body follow; a length of 0 ends the frame. -/
theorem test_takeByte :
    (heard .desk [0x00, 0x5C, 0xC5] plenary).links.desk.receive = .begun ∧
      (heard .desk [0xC5, 2, 0xC5] plenary).links.desk.receive = .body 2 [0xC5] ∧
      (heard .desk [0xC5, 0] plenary).links.desk.receive = .hunting := by decide

/-- R185, R187: the last CRC byte of a frame leads to its request. -/
theorem test_takeByte_frame :
    told .desk (heard .desk (requestFrame (Request.body ⟨.desk, Code.coughOff, [2, 2]⟩)) plenary) =
        some (.notLive, [some 5]) := by decide +kernel

/-- STANDBY's answer WRONG_STATE waits on the console, its start byte due at the second byte clocked. -/
def answering : State :=
  plenary.setLinks { plenary.links with console := ⟨true, some ⟨Code.standby, .wrongState, []⟩, 1, .hunting, 0, some 0⟩ }

/-- The byte that the console's data output has after `n` more bytes of the used period. -/
def driven (n : Nat) : Option Byte := (heard .console (List.replicate n 0xC5) answering).links.console.out

/-- R183, R186: 0x00, then start byte, length, request code and answer code; after the CRC 0x00 again, and no more of the
answer to come; the bytes that come in are ignored. -/
theorem test_shiftOut :
    [1, 2, 3, 4, 5, 8].map driven = [some 0, some 0x5C, some 2, some 8, some 33, some 0] ∧
      (heard .console (List.replicate 6 0xC5) answering).links.console.answer.isSome = true ∧
      (heard .console (List.replicate 7 0xC5) answering).links.console = ⟨true, none, 0, .hunting, 0, driven 7⟩ := by
  decide +kernel

/-- R186: with select deasserted the data output is not driven; the rest of the answer is lost. -/
theorem test_selectDeassert_output : (after .selectDeassert answering).links.console = {} := by decide

theorem test_answerSent : (after (.answerSent .desk) (after (.poll 1 1) plenary)).links.desk.fifo = [] := by decide

/-! ## Channel plans -/

theorem test_chSet :
    ((after (.chSet 0 7 1 999 0 1) State.reset).bank 0).channel 7 = ⟨true, 999, .full, true⟩ ∧
      ((after (.chSet 0 7 1 999 0 1) State.reset).bank 0).status = .edited := by decide

theorem test_boothSet :
    (after (.boothSet 2 5 1 5 0 2 120 44 7 7 2) plenary).boothEntry
        ((after (.boothSet 2 5 1 5 0 2 120 44 7 7 2) plenary).bank 2) 5 = ⟨true, some 5, none, [120, 44], 2⟩ := by decide

theorem test_boothSet_locked :
    told .console (after (.boothSet 1 5 1 5 0 0 0 0 0 0 2) plenary) = some (.bankLocked, []) := by decide

theorem test_bankClear : ((after (.bankClear 2) plenary).bank 2) = {} := by decide

/-- R13: a copy of the bank on air is EDITED and has no allocation. -/
theorem test_bankCopy : (after (.bankCopy 1 3) plenary).bank 3 = { plan1 with status := .edited, alloc := none } := by
  decide

/-- 12.1, 12.5: need 5 of 46, channel 1 in 2–3, 2 in 4–5, 3 in 6–7, channel 5 in slot 8. -/
theorem test_bankCheck :
    told .console (after (.bankCheck 2) plenary) =
      some (.done, [some 5, some 46, some 2, some 2, some 4, some 2, some 6, some 2, some 8, some 1]) := by decide

theorem test_bankCheck_reason :
    told .console (after (.bankCheck 0) plenary) = some (.planInvalid, [some 0, none]) := by decide

theorem test_bankRead :
    told .console (after (.bankRead 1 0 77) plenary) =
      some (.done, [some 4, some 4, some 4, some 5, some 46, some 1]) := by decide

/-! ## The framer -/

/-- 12.1: START computes the allocation and waits 25 frame periods. -/
theorem test_start :
    (after (.start 1) morning).framer = { state := .starting, settle := 25 } ∧
      (after (.start 1) morning).bank 1 = plan1 := by decide

theorem test_standby : told .console (after .standby plenary) = some (.sittingOpen, []) := by decide

theorem test_standbyFinalFrameEnd :
    ((after .standbyFinalFrameEnd (after .standby { plenary with meter := {} })).flags .console).count 1 =
      ((plenary.flags .console).count 1) + 1 := by decide +kernel

theorem test_settleTick : (after .settleTick (after (.start 1) morning)).framer.settle = 24 := by decide

/-- 12.1: the plan taken at the start puts booths 3 and 4 in NO_RELAY, RELAY_LOST with count 2. -/
theorem test_settleTick_last :
    let s := after .settleTick { after (.start 1) morning with framer := { state := .starting, settle := 1 } }
    s.framer.planNumber = 1 ∧ (s.relayRec 3).status = .noRelay ∧ (s.relayRec 4).status = .noRelay ∧
      (s.relayRec 2) = {} := by decide

theorem test_switch : (after (.switch 2) plenary).framer.pendingSwitch = some 2 := by decide

/-- 12.5: bank 2 on air; 4/1 released; booth 5 on channel 1 at depth 1; one receiver orphaned. -/
theorem test_frameBoundary_switch :
    let s := after .frameBoundary switching
    (s.bank 2).status = .onAir ∧ (s.bank 1).status = .valid ∧ s.framer.planNumber = 2 ∧ s.framer.fragment = 0 ∧
      (s.booth 4).live = none ∧ (s.booth 3).live = some (1, 3) := by decide

theorem test_frameBoundary_follow :
    let s := after .frameBoundary switching
    s.relayRec 5 = ⟨.auto, .channel 1, 1, .ok, none⟩ ∧ s.relayRec 4 = {} ∧
      ((s.flags .counter).count 0) = 1 ∧ (Table.fetch? s.register.slots 2).map Receiver.orphaned = some true := by decide

/-- R34: a cut-in ends the frame early; the OVERRIDE frame carries the announcement. -/
theorem test_announce :
    (after .announce plenary).framer.override = .on ∧
      ((after .announce plenary).framer.trailer.map fun t => t.take 1) = some [0x80] ∧
      (after .announce plenary).framer.frame.map Frame.slots = some (List.replicate 48 .announcement) := by decide

theorem test_announceEnd : told .console (after .announceEnd plenary) = some (.notActive, []) := by decide

theorem test_lineMode : (after (.lineMode 2) plenary).framer.lineMode = .change := by decide

theorem test_framerRead :
    told .console (after .framerRead plenary) =
      some (.done, [some 2, some 0, some 1, none, some 0, some 1, some 0, some 0, some 0, some 48]) := by decide

/-! ## Mixing and microphones -/

theorem test_handoverSet : told .console (after (.handoverSet 60 3) plenary) = some (.done, [some 50, some 5]) := by decide

/-- The table of chapter 3 for a ramp of 12 frames from full gain. -/
theorem test_rampTable :
    [1, 2, 4, 6, 8, 11].map (fun k => ({ outgoing := ⟨2, 1⟩, incoming := ⟨2, 2⟩, g0 := 256, k := k, len := 12 } : Ramp).inGain) =
      [21, 42, 85, 128, 170, 234] ∧
    [1, 2, 4, 6, 8, 11].map (fun k => ({ outgoing := ⟨2, 1⟩, incoming := ⟨2, 2⟩, g0 := 256, k := k, len := 12 } : Ramp).outGain) =
      [235, 214, 171, 128, 86, 22] := by decide

theorem test_channelRead :
    (told .console (after (.channelRead 2) plenary)).map (fun x => x.2.take 3) = some [some 2, some 1, some 0] := by decide

theorem test_forceOff : (after (.forceOff 2) plenary).booth 2 = {} := by decide

/-- 12.7: LIVE_RESET writes three turns into the last places and folds the fourth. -/
theorem test_liveReset :
    (after .liveReset crowded).journal.entries.length = 1024 ∧
      ((after .liveReset crowded).totals 4).foldedTurns = 1 ∧ (after .liveReset crowded).meter.sitting.folded = 1 := by
  decide +kernel

theorem test_boothRead :
    (told .console (after (.boothRead 3) plenary)).map (fun x => x.2.take 3) = some [some 1, some 1, some 3] := by decide

/-- 12.3: an offer with its timer at 30 s. -/
theorem test_micOn :
    told .desk offered = some (.offered, [some 2]) ∧
      offered.booth 2 = ⟨some (1, 2), none, some (2, .a), some 30⟩ := by decide

/-- 12.3: the release is a handover: the ramp, and the turn that ends. -/
theorem test_micOff_handover :
    (after (.micOff 2 1) offered).carriage 2 = ⟨some ⟨2, 2⟩, some ⟨⟨2, 1⟩, ⟨2, 2⟩, 256, 0, 12⟩⟩ ∧
      (after (.micOff 2 1) offered).journal.entries.map Entry.body =
        [.turn ⟨1, 2, ⟨1, none, 2, .full, 30000, 1800, 0, 0⟩, 31800, .handover⟩] := by decide

/-- 12.4: channel 2 free; booths 3 and 4 hold on for 4 s. -/
theorem test_micOff_release :
    (after (.micOff 2 1) plenary).chan 2 = {} ∧
      (after (.micOff 2 1) plenary).relayRec 3 = ⟨.auto, .channel 2, 1, .holding, some 4⟩ ∧
      (after (.micOff 2 1) plenary).relayRec 4 = ⟨.auto, .channel 2, 1, .holding, some 4⟩ := by decide

theorem test_output : told .desk (after (.output 2 1 1) plenary) = some (.channelUnassigned, [some 1]) := by decide

theorem test_coughOn : ((after (.coughOn 2 1) plenary).desk 2 1).cough = true := by decide

theorem test_coughOff : told .desk (after (.coughOff 2 2) plenary) = some (.notLive, [some 5]) := by decide

theorem test_signOn :
    ((after (.signOn 2 1 9999) plenary).desk 2 1).interpreter = some 9999 ∧
      (after (.signOn 2 1 9999) plenary).turn 2 = some ⟨1, some 9999, 2, .full, 31800, 0, 0, 0⟩ := by decide

theorem test_signOff : (after (.signOff 2 1) plenary).meter = plenary.meter := by decide

theorem test_source_own : (told .desk (after (.source 2 1 2 2) plenary)).map Prod.fst = some .ownChannel := by decide

theorem test_source_fixed :
    (after (.source 1 1 2 3) plenary).relayRec 1 = ⟨.fixed 3, .channel 3, 2, .ok, none⟩ := by decide

theorem test_poll :
    told .desk (after (.poll 3 1) plenary) =
      some (.done, [some 1, some 0, some 0, some 5, some 0, some 0, some 1, none, some 0, none, some 1, some 0, some 0]) := by
  decide

theorem test_offerTimerExpiry :
    let s := { offered with bdc := { offered.bdc with booths := [(2, ⟨some (1, 2), none, some (2, .a), some 0⟩)] } }
    (after (.offerTimerExpiry 2) s).booth 2 = ⟨some (1, 2), none, none, none⟩ ∧
      ((after (.offerTimerExpiry 2) s).desk 2 2).refused = true := by decide

/-- 12.4, booth 4's expiry first: channel 3 at depth 2, then FLOOR with booth 3's. -/
theorem test_holdTimerExpiry :
    (after (.holdTimerExpiry 4) heldOut).relayRec 4 = ⟨.auto, .channel 3, 2, .ok, none⟩ ∧
      ((after (.holdTimerExpiry 3) (after (.holdTimerExpiry 4) heldOut)).relayRec 4).status = .noRelay := by decide +kernel

theorem test_holdTimerExpiry_other :
    (after (.holdTimerExpiry 3) heldOut).relayRec 3 = ⟨.auto, .floor, 0, .noRelay, none⟩ ∧
      ((after (.holdTimerExpiry 3) heldOut).relayRec 4).status = .holding := by decide +kernel

/-! ## Relay settings, sittings and metering -/

/-- R91: floor language 0 puts every AUTO booth on the floor. -/
theorem test_floorLang : (after (.floorLang 0) plenary).relayRec 3 = {} := by decide

theorem test_relaySet : told .console (after (.relaySet 40) plenary) = some (.done, [some 30]) := by decide

theorem test_sittingOpen :
    let s := after .sittingOpen { plenary with meter := { time := 30000 } }
    s.meter.sitting.number = 1 ∧ s.turn 4 = some ⟨1, none, 4, .narrow, 30000, 0, 0, 0⟩ := by decide +kernel

/-- 12.6: the turns, then the SITTING entry; the grace timer at 1,800 s. -/
theorem test_sittingClose :
    (after .sittingClose plenary).journal.entries.length = 5 ∧
      (after .sittingClose plenary).meter.graceTimer = some 1800 ∧
      (after .sittingClose plenary).meter.sitting.turns = 4 := by decide

theorem test_returnGrace : told .console (after (.returnGrace 300) plenary) = some (.done, [some 240]) := by decide

theorem test_sittingRead :
    (told .console (after (.sittingRead 1 4) plenary)).map (fun x => x.2.take 5) =
      some [some 0, some 0, some 0, some 0, some 0] := by decide

/-- R113: booth 3 relays, booth 1 does not. -/
theorem test_meterSecond :
    ((after .meterSecond plenary).totals 3) = ⟨1, 0, 1, 0, 0⟩ ∧ ((after .meterSecond plenary).totals 1) = ⟨1, 0, 0, 0, 0⟩ ∧
      (after .meterSecond plenary).meter.time = 31801 := by decide

/-- 12.6: the second that brings the return grace to 0 makes the sweep. -/
theorem test_meterSecond_grace :
    let s := after .meterSecond lapsing
    (s.flags .console).count 7 = 2 ∧ (s.flags .counter).count 1 = 2 ∧ s.meter.graceTimer = none ∧
      s.meter.time = 43500 := by decide

/-- 12.6: the sweep marks two receivers and raises its flag by 2 on both links. -/
theorem test_returnGraceExpiry :
    let s := after .returnGraceExpiry lapsing
    (s.flags .console).count 7 = 2 ∧ (s.flags .counter).count 1 = 2 ∧ s.meter.graceTimer = none := by decide

/-! ## The register -/

theorem test_rxRegister : told .counter (after (.rxRegister 9 1) plenary) = some (.done, [some 3]) := by decide

/-- R126: the window of a rack, 256 to 319 with WRAP. -/
theorem test_rxWindow : (after (.rxWindow 256 319 1) plenary).register.window = ⟨256, 319, true, 256, 256⟩ := by decide

theorem test_rxRegisterNext :
    let s := after (.rxRegisterNext 9 0) { plenary with register := { plenary.register with window := ⟨256, 319, true, 319, 256⟩ } }
    told .counter s = some (.done, [some 319]) ∧ s.register.window.write = 256 := by decide

theorem test_rxReadNext : (after .rxReadNext plenary).register.window.read = 1 := by decide

theorem test_rxQuery :
    (told .counter (after (.rxQuery .counter 7231) plenary)).map (fun x => x.2.take 6) =
      some [some 1, some 7231, some 0, some 2, some 4400, some 44] := by decide

theorem test_rxWithdraw : told .counter (after (.rxWithdraw 7231) plenary) = some (.wrongState, [some 2]) := by decide

theorem test_repaired : told .counter (after (.repaired 7231) plenary) = some (.wrongState, [some 2]) := by decide

/-- 12.6: the auto-return: charge 1,700 with the fee of 500, refund 3,300. -/
theorem test_rackReport :
    told .counter (after (.rackReport 7230 0) swept) =
      some (.done, [some 1, some 501, some 1700, some 500, some 3300, some 0, some 0, some 0]) ∧
      (after (.rackReport 7230 0) swept).account 501 = some ⟨.personal, false, 2, 1, 0, 0, 5000⟩ := by decide

/-- 12.7: refused before any change, the rack result recorded. -/
theorem test_rackReport_journalFull :
    told .counter (after (.rackReport 7230 0) crowded) = some (.journalFull, [some 2]) ∧
      (Table.fetch? (after (.rackReport 7230 0) crowded).register.slots 0).map Receiver.lastRack = some .charged := by
  decide +kernel

/-! ## Accounts, hire and the journal -/

theorem test_acctOpen :
    told .counter (after (.acctOpen 9 0 5 700) plenary) = some (.done, [some 9, some 0, some 0, some 2, some 0, some 0, some 0]) := by
  decide

theorem test_acctLimit : told .counter (after (.acctLimit 501 1 0) plenary) = some (.limitBelowOut, []) := by decide

theorem test_acctPay : told .counter (after (.acctPay 501 100) plenary) = some (.done, [some 0, some 0, some 0]) := by decide

theorem test_acctClose : told .counter (after (.acctClose 501) plenary) = some (.receiversOut, []) := by decide

theorem test_acctQuery :
    told .console (after (.acctQuery .console 4400) plenary) =
      some (.done, [some 4400, some 1, some 0, some 9, some 1, some 0, some 10000, some 0]) := by decide

theorem test_tariffSet : told .console (after (.tariffSet 0 5 0 0 0 0 0) plenary) = some (.tariffInUse, []) := by decide

theorem test_tallyRead :
    (told .console (after .tallyRead plenary)).map (fun x => x.2.take 9) =
      some [some 3, some 44, some 1, some 81, some 1, some 352, some 1, some 0, some 3] := by decide

/-- 12.5: 81 is not in the language list of bank 2; 12.2: an issue with deposit 5,000. -/
theorem test_issue :
    let s := { plenary with register := { slots := [(0, { serial := 5, cls := .standard, state := .available })] },
                            hire := { plenary.hire with accounts := [(7, ⟨.personal, false, 2, 0, 0, 0, 0⟩)] } }
    told .counter (after (.issue 5 7 352 6000) s) = some (.done, [some 0, some 5000, some 1]) ∧
      told .counter (after (.issue 5 7 505 6000) s) = some (.noSuchLanguage, []) := by decide

theorem test_rxPreset : told .counter (after (.rxPreset 7231 352) plenary) = some (.done, [some 352, some 2]) := by decide

/-- 12.2: at 33,360 the charge of 7231 is 500, which its invoice then shows. -/
theorem test_rxReturn :
    told .counter (after (.rxReturn 7231) (State.at plenary 33360)) = some (.done, [some 500, none, some 500, some 0]) ∧
      (after (.rxReturn 7231) (State.at plenary 33360)).meter.sitting.revenue = 500 := by decide

/-- 12.6: the counter return of 7232. -/
theorem test_rxReturn_overdue :
    (told .counter (after (.rxReturn 7232) (State.at swept 44400))).map (fun x => x.2.take 3) =
      some [some 1700, some 500, some 3300] := by decide

/-- R153: the loss charge on top of the time part. -/
theorem test_lost :
    (told .counter (after (.lost 7231) (State.at plenary 33360))).map (fun x => x.2.take 1) = some [some 40500] := by decide

theorem test_found : told .counter (after (.found 7231) plenary) = some (.wrongState, [some 2]) := by decide

theorem test_jnlRead : told .console (after .jnlRead plenary) = some (.empty, [some 0, some 1]) := by decide

theorem test_jnlAck :
    told .console (after (.jnlAck 7) crowded) = some (.sequenceMismatch, [some 1, some 1021]) := by decide +kernel

theorem test_flagsRead :
    (told .counter (after (.flagsRead .counter) plenary)) =
      some (.done, [some 0, some 15, some 0, some 0, some 0, some 0]) := by decide

/-- R194: bit 3, ANNOUNCE_TAKEN, is cleared with its count of 1. -/
theorem test_flagsClear :
    told .console (after (.flagsClear .console 0x0008) (consoled .announce plenary)) =
      some (.done, [some 0, some 1]) := by decide

theorem test_maskSet : told .counter (after (.maskSet .counter 16) plenary) = some (.badParameter, [some 1]) := by decide

/-! ## Witnesses: states and operands that meet the hypotheses of the statements -/

/-- The hall with a B channel for booth 1 (channel 2) and for booth 4 (channel 3). -/
def hallB : State :=
  { plenary with banks := [(1, { plan1 with booths :=
      [(1, ⟨true, some 1, some 2, [210], 2⟩), (2, ⟨true, some 2, none, [210], 2⟩), (3, ⟨true, some 3, none, [352], 2⟩),
        (4, ⟨true, some 4, some 3, [44, 352], 2⟩)] }), (2, plan2)] }

/-- Desk 1/2 has offered on output B, whose channel 2 desk 2/1 holds. -/
def crossed : State := after (.micOn 1 2) (after (.output 1 2 1) hallB)

/-- The same with channel 2 free. -/
def crossFree : State := after (.micOff 2 1) crossed

/-- Desk 1/1 has gone over to output B and waits for channel 2. -/
def waiting : State := after (.output 1 1 1) hallB

/-- The hall on air with no sitting open. -/
def closed : State := { plenary with meter := { time := 29950 } }

/-- The last tick of the settle interval is due. -/
def settling : State := { consoled (.start 1) morning with framer := { state := .starting, settle := 1 } }

/-- Channel 1 is free. -/
def freed : State := after (.micOff 1 1) plenary

/-- Desk 1/1 is live on channel 1 and desk 1/2 offers on output B, whose channel 2 desk 2/1 holds or nobody; desks of
other booths wait for the two channels. -/
def throng (first second : List Nat) (taken : Bool) : State :=
  let holders := if taken then [1, 2] else [1]
  { hallB with
    mixer := { carriage := holders.map fun c => (c, { live := some ⟨c, 1⟩ }) }
    bdc :=
      { booths := (1, ⟨some (1, 1), none, some (2, .b), some 30⟩) ::
          ((if taken then [(2, { live := some (1, 2) })] else []) ++
            (first ++ second).map fun b => (b, { pending := some (1, .b) }))
        channels := [(1, ⟨some ⟨1, 1⟩, first.map fun b => ⟨b, 1⟩⟩),
          (2, ⟨if taken then some ⟨2, 1⟩ else none, second.map fun b => ⟨b, 1⟩⟩)] }
    relay := { floorLang := 210, producers := holders.map fun c => (c, c) }
    meter := { time := 31800 } }

/-- The hall with a journal of a given number of entries and a return grace setting. -/
def ringed (entries grace : Nat) : State :=
  { plenary with
    meter := { plenary.meter with graceSetting := grace }
    journal := ⟨List.replicate entries ⟨1, 0, .found 1⟩, 2000⟩ }

/-- A state with one command waiting. -/
def State.queued (s : State) (i : Instr) : State := { s with pending := [i] }

/-- A command waiting; none, and no byte; none, and a byte that has arrived. -/
theorem witness_StepTakesFrontCommand :
    (State.queued plenary .framerRead).pending = .framerRead :: [] ∧ (plenary.pending = [] ∧ plenary.arriving = []) ∧
      (let s : State := { plenary with arriving := [⟨.desk, 0xC5⟩] }; s.pending = [] ∧ s.arriving = ⟨.desk, 0xC5⟩ :: []) :=
  ⟨rfl, ⟨rfl, rfl⟩, rfl, rfl⟩

theorem witness_EveryCommandHasANextState :
    (∀ h d, Instr.meterSecond ≠ .powerOn h d) ∧ Instr.meterSecond ≠ .resetPin ∧
      Instr.meterSecond ≠ .resetPinRelease := by decide

/-- A bank that the pin takes off air, one that it leaves, and a number that is no bank's. -/
theorem witness_ResetPinClearsLiveKeepsStored :
    1 ∈ Config.bankNumbers ∧ (plenary.bank 1).status = .onAir ∧ (plenary.bank 2).status = .valid ∧
      4 ∉ Config.bankNumbers := by decide

/-- A request received; one on a held part; one while four answers wait, and while three do; one in a select period that
is used. -/
theorem witness_RequestAnsweredOnceOnItsLink :
    (Instr.poll 31 0).request = some ⟨.desk, Code.poll, [31, 0]⟩ ∧ plenary.receives .desk = true ∧
      (after .resetPin plenary).receives .desk = false ∧
      ([3, 4].map fun n => ({ plenary with links := { plenary.links with
        desk := ⟨.hunting, List.replicate n ⟨58, .done, []⟩⟩ } } : State).receives .desk) = [true, false] ∧
      plenary.receives .console = true ∧ (after .framerRead plenary).receives .console = false := by decide

theorem witness_BadRequestsChangeNothing :
    (plenary.receives .desk = true ∧ Link.desk.takes 49 = false) ∧
    (plenary.receives .console = true ∧ Link.console.takes 33 = true ∧ ([] : List Byte).length ≠ paramLength 33) ∧
    ((Instr.bankCopy 3 3).request = some ⟨.console, Code.bankCopy, [3, 3]⟩ ∧
      (Instr.paramsInRange plenary (.bankCopy 3 3))[1]? = some (3 ≤ 3 ∧ 3 ≠ 3) ∧ ¬ (3 ≤ 3 ∧ 3 ≠ 3) ∧
      ∀ (j : Nat) (q' : Prop), j < 1 → (Instr.paramsInRange plenary (.bankCopy 3 3))[j]? = some q' → q') := by
  refine ⟨by decide, by decide, by decide, rfl, by decide, fun j q' hj hq => ?_⟩
  obtain rfl : j = 0 := by omega
  cases hq
  decide

/-- A request at the top of its width; bodies turned away with no parameter and with 254. -/
theorem witness_RequestFramesReadBack :
    ((Instr.jnlAck 4294967295).request = some ⟨.console, Code.jnlAck, [4294967295]⟩ ∧
      Request.wellFormed ⟨.console, Code.jnlAck, [4294967295]⟩ = true) ∧
    turnedAway .desk 255 [] = true ∧ turnedAway .counter 49 (List.replicate 254 0) = true := by decide +kernel

/-! ### Channel plans -/

theorem witness_PlanEditsTaken :
    ((plenary.bank 2).status ≠ .pending ∧ (plenary.bank 2).status ≠ .onAir ∧
      plenary.accepts (.chSet 2 31 1 999 2 1) ∧ plenary.accepts (.boothSet 2 31 0 31 0 4 1 2 3 999 2) ∧
      plenary.accepts (.bankClear 2) ∧
      (plenary.accepts (.bankCopy 0 2) ∧ (plenary.bank 0).status = .empty) ∧
      plenary.accepts (.bankCopy 1 2) ∧ (plenary.bank 1).status ≠ .empty) ∧
    (plenary.bank 1).status = .onAir ∧ plenary.accepts (.chSet 1 1 0 0 0 0) ∧
      plenary.accepts (.boothSet 1 1 0 0 0 0 0 0 0 0 1) ∧ plenary.accepts (.bankClear 1) ∧
      plenary.accepts (.bankCopy 2 1) := by
  refine ⟨⟨by decide, by decide, ?_, ?_, ?_, ⟨?_, by decide⟩, ?_, by decide⟩, by decide, ?_, ?_, ?_, ?_⟩ <;>
    exact State.accepts_of (by decide) (by simp [Instr.paramsInRange, show plenary.desksPerBooth = 2 from rfl])

/-- A plan of one channel with booths of one kind. -/
def small (channels : List Nat) (booths : Table BoothEntry) : Bank :=
  { channels := channels.map fun c => (c, ⟨true, 100 + c, .auto, false⟩), booths := booths }

/-- A plan that passes, one whose need is over the budget, and for each of the conditions 1 to 8 one that fails it and
no earlier one. -/
theorem witness_ValidationIsTheNineConditions :
    ((∀ n, 1 ≤ n → n ≤ 8 → plenary.meets plan1 n) ∧ plan1.need ≤ plenary.slots - 2) ∧
    (let p : Bank := { channels := (List.range' 1 31).map fun c => (c, ⟨true, c, .full, false⟩) };
      (∀ n, 1 ≤ n → n ≤ 8 → plenary.meets p n) ∧ plenary.slots - 2 < p.need) ∧
    ∀ e ∈ [(1, ({} : Bank)), (2, { channels := [(31, ⟨true, 0, .auto, false⟩)] }),
        (3, { channels := [(1, ⟨true, 9, .auto, false⟩), (31, ⟨true, 9, .auto, false⟩)] }),
        (4, small [1] [(31, ⟨true, none, none, [], 1⟩)]), (5, small [1] [(31, ⟨true, some 1, some 1, [], 1⟩)]),
        (6, small [31] [(1, ⟨true, some 31, none, [], 1⟩), (31, ⟨true, some 31, none, [], 1⟩)]),
        (7, small [1, 2, 3, 4, 31] ([1, 2, 3, 4].map fun b => (b, ⟨true, some b, some 31, [], 1⟩))),
        (8, small [1] [(31, ⟨true, some 1, none, [101], 1⟩)])],
      ¬ plenary.meets e.2 e.1 ∧ ∀ m, 1 ≤ m → m < e.1 → plenary.meets e.2 m := by
  refine ⟨⟨fun n h1 h2 => State.meets_below (n := 9) (by decide +kernel) n h1 (by omega), by decide⟩,
    ⟨fun n h1 h2 => State.meets_below (n := 9) (by decide +kernel) n h1 (by omega), by decide +kernel⟩, ?_⟩
  intro e he
  simp only [List.mem_cons, List.not_mem_nil, or_false] at he
  rcases he with rfl | rfl | rfl | rfl | rfl | rfl | rfl | rfl <;>
    exact ⟨fun h => absurd ((State.meets_iff_check _ _ _).mp h) (by decide +kernel),
      fun m h1 h2 => State.meets_below (by decide +kernel) m h1 h2⟩

theorem witness_BankCheckVerdict :
    (plenary.accepts (.bankCheck 0) ∧
      plenary.validationRefusal (plenary.bank 0) = some (.planInvalid, [⟨1, some 0⟩, ⟨1, none⟩])) ∧
    (plenary.accepts (.bankCheck 2) ∧ plenary.validationRefusal (plenary.bank 2) = none) ∧
    plenary.accepts (.bankCheck 1) ∧ plenary.validationRefusal (plenary.bank 1) = none := by
  refine ⟨⟨?_, by decide⟩, ⟨?_, by decide⟩, ?_, by decide⟩ <;>
    exact State.accepts_of (by decide) (by simp [Instr.paramsInRange])

/-- A bank within the budget, and one at it. -/
theorem witness_AllocationWithinBudgetByDemand :
    plan1.need ≤ plenary.slots - 2 ∧
      ({ channels := (List.range' 1 23).map fun c => (c, ⟨true, c, .full, false⟩) } : Bank).need = plenary.slots - 2 := by
  decide +kernel

/-! ### The framer -/

theorem witness_StartAndSwitchCommitABank :
    (morning.validationRefusal (morning.bank 1) = none ∧ morning.accepts (.start 1) ∧ morning.framer.state = .standby) ∧
    (plenary.validationRefusal (plenary.bank 2) = none ∧ plenary.accepts (.switch 2) ∧
      plenary.framer.state = .onAir ∧ plenary.framer.pendingSwitch = none ∧ (plenary.bank 2).status ≠ .onAir) ∧
    (plenary.accepts (.start 1) ∧ plenary.framer.state ≠ .standby) ∧
    (morning.accepts (.start 0) ∧ morning.validationRefusal (morning.bank 0) =
      some (.planInvalid, [⟨1, some 0⟩, ⟨1, none⟩])) ∧
    (morning.accepts (.switch 1) ∧ morning.framer.state ≠ .onAir) ∧
    (switching.accepts (.switch 1) ∧ switching.framer.state = .onAir ∧ switching.framer.pendingSwitch = some 2) ∧
    (plenary.accepts (.switch 1) ∧ plenary.PlanLaw ∧ (plenary.bank 1).status = .onAir) ∧
    plenary.accepts (.switch 0) ∧ (plenary.bank 0).status ≠ .onAir ∧ plenary.validationRefusal (plenary.bank 0) =
      some (.planInvalid, [⟨1, some 0⟩, ⟨1, none⟩]) := by
  refine ⟨⟨by decide, ?_, by decide⟩, ⟨by decide, ?_, by decide, by decide, by decide⟩, ⟨?_, by decide⟩,
    ⟨?_, by decide⟩, ⟨?_, by decide⟩, ⟨?_, by decide, by decide⟩,
    ⟨?_, State.planLaw_of_check (by decide), by decide⟩, ?_, by decide, by decide⟩ <;>
    exact State.accepts_of (by decide) (by simp [Instr.paramsInRange])

theorem witness_StandbyStopsTheFramer :
    (morning.receives .console = true ∧ morning.framer.state = .standby) ∧
    (settling.receives .console = true ∧ settling.framer.state = .starting) ∧
    (plenary.receives .console = true ∧ plenary.framer.state = .onAir ∧ plenary.meter.sitting.isOpen = true) ∧
    (closed.receives .console = true ∧ closed.framer.state = .onAir ∧ closed.meter.sitting.isOpen = false ∧
      closed.MicLaw ∧ closed.TurnLaw ∧ closed.TablesLaw) ∧
    (after .standby closed).framer.closing.isSome = true ∧ closed.framer.closing = none :=
  ⟨by decide, by decide, by decide, ⟨by decide, by decide, by decide, State.micLaw_of_check (by decide),
    State.turnLaw_of_check (by decide), State.tablesLaw_of_check (by decide)⟩, by decide +kernel, by decide⟩

theorem witness_SettleIntervalEndsWithFirstFrame :
    plenary.framer.state ≠ .starting ∧
    ((after (.start 1) morning).framer.state = .starting ∧ 1 < (after (.start 1) morning).framer.settle) ∧
    settling.framer.state = .starting ∧ settling.framer.settle = 1 ∧ settling.MicLaw ∧ settling.TablesLaw :=
  ⟨by decide, by decide, by decide, by decide, State.micLaw_of_check (by decide), State.tablesLaw_of_check (by decide)⟩

/-- Without a switch, and with one that an override holds up. -/
theorem witness_FrameBoundaryContinuesThePlan :
    morning.framer.state ≠ .onAir ∧ (plenary.framer.state = .onAir ∧ plenary.framer.pendingSwitch = none) ∧
      delayed.framer.state = .onAir ∧ delayed.framer.override = .on ∧ delayed.framer.pendingSwitch = some 2 := by decide

theorem witness_SwitchTakenAtBoundary :
    switching.PlanLaw ∧ switching.MicLaw ∧ switching.framer.state = .onAir ∧ switching.framer.override ≠ .on ∧
      switching.framer.pendingSwitch = some 2 ∧ (switching.bank 1).status = .onAir :=
  ⟨State.planLaw_of_check (by decide), State.micLaw_of_check (by decide), by decide, by decide, by decide, by decide⟩

/-- Booth 3 is carried over and booth 4 is not; booth 5 has no live desk. -/
theorem witness_CarryOverFollowsTheNewPlan :
    switching.PlanLaw ∧ switching.MicLaw ∧ switching.TurnLaw ∧ switching.TablesLaw ∧
      switching.framer.state = .onAir ∧ switching.framer.override ≠ .on ∧ switching.framer.pendingSwitch = some 2 ∧
      (switching.booth 5).live = none ∧ (switching.booth 3).live = some (1, 3) ∧ (switching.booth 4).live = some (1, 4) :=
  ⟨State.planLaw_of_check (by decide), State.micLaw_of_check (by decide), State.turnLaw_of_check (by decide),
    State.tablesLaw_of_check (by decide), by decide, by decide, by decide, by decide, by decide, by decide⟩

theorem witness_AnnounceCutsTheFrame :
    (morning.receives .console = true ∧ morning.framer.state = .standby) ∧
    (settling.receives .console = true ∧ settling.framer.state = .starting) ∧
    (switching.receives .console = true ∧ switching.framer.state = .onAir ∧ switching.framer.override ≠ .off) ∧
    plenary.receives .console = true ∧ plenary.framer.state = .onAir ∧ plenary.framer.override = .off := by decide

/-- Fragment 0 with the floor, two enabled channels and, in fragment 1, a channel that is not enabled; the last entry of
the last fragment. -/
theorem witness_HeaderLayout :
    plenary.framer.Law ∧ (0 : Nat) = 4 * plenary.framer.fragment + 0 ∧
      (plenary.enabled 3 = true ∧ plenary.planPlace 3 = some ⟨6, 2⟩ ∧ (3 : Nat) = 4 * plenary.framer.fragment + 3) ∧
      ({ plenary.framer with fragment := 7 } : Framer).Law ∧ plenary.enabled 31 = false ∧ (31 : Nat) = 4 * 7 + 3 :=
  ⟨Framer.law_of_check (by decide), by decide, by decide, Framer.law_of_check (by decide), by decide, by decide⟩

/-- Slot 8 of channel 4, the last of the plan, slots 9 and 47 of none; a ramp, a live desk and no desk. -/
theorem witness_SlotsCarryTheirChannel :
    ((1 : Nat) < 2) ∧ (∀ c ∈ Config.channelNumbers, ∀ x ∈ plenary.planPlace c, ¬ (x.first ≤ 9 ∧ 9 < x.first + x.count)) ∧
    (∀ c ∈ Config.channelNumbers, ∀ x ∈ plenary.planPlace c, ¬ (x.first ≤ 47 ∧ 47 < x.first + x.count)) ∧
    (4 ∈ Config.channelNumbers ∧ plenary.planPlace 4 = some ⟨8, 1⟩ ∧
      (∀ e ∈ Config.channelNumbers, e < 4 → ∀ y ∈ plenary.planPlace e, ¬ (y.first ≤ 8 ∧ 8 < y.first + y.count)) ∧
      (plenary.carriage 4).ramp = none ∧ (plenary.carriage 4).live = some ⟨4, 1⟩) ∧
    ((after (.micOff 2 1) offered).planPlace 2 = some ⟨4, 2⟩ ∧
      ((after (.micOff 2 1) offered).carriage 2).ramp = some ⟨⟨2, 1⟩, ⟨2, 2⟩, 256, 0, 12⟩) ∧
    freed.planPlace 1 = some ⟨2, 2⟩ ∧ (freed.carriage 1).ramp = none ∧ (freed.carriage 1).live = none := by
  decide +kernel

/-! ### Mixing, settings and reads -/

/-- A ramp at its start, within and at its end, from full gain and from 85. -/
theorem witness_RampGainsStayWithinFullScale :
    ∀ k ∈ [0, 5, 12], ∀ g ∈ [85, 256], ∃ r : Ramp, r.k = k ∧ r.g0 = g ∧ r.len = 12 ∧ 0 < r.len ∧ r.k ≤ r.len ∧ r.g0 ≤ 256 :=
  fun k hk g hg => ⟨⟨⟨2, 1⟩, ⟨2, 2⟩, g, k, 12⟩, rfl, rfl, rfl, by
    simp only [List.mem_cons, List.not_mem_nil, or_false] at hk hg
    rcases hk with rfl | rfl | rfl <;> rcases hg with rfl | rfl <;> decide⟩

theorem witness_SettingsStoredClamped : plenary.receives .console = true ∧ (2 : Nat) ≤ 2 := by decide

theorem witness_ReadsAnswerTheState :
    (plenary.accepts (.bankRead 3 0 255) ∧ plenary.accepts (.bankRead 3 1 31) ∧ plenary.accepts (.bankRead 0 2 1)) ∧
    plenary.receives .console = true ∧ plenary.accepts (.sittingRead 1 31) ∧ plenary.accepts (.channelRead 31) ∧
    plenary.accepts (.boothRead 31) ∧
    (morning.accepts (.poll 1 0) ∧ morning.framer.state ≠ .onAir) ∧
    (plenary.accepts (.poll 31 255) ∧ plenary.framer.state = .onAir ∧ plenary.planBooth 31 = none) ∧
    plenary.accepts (.poll 4 0) ∧ plenary.planBooth 4 = some ⟨true, some 4, none, [44, 352], 2⟩ := by
  refine ⟨⟨?_, ?_, ?_⟩, by decide, ?_, ?_, ?_, ⟨?_, by decide⟩, ⟨?_, by decide, by decide⟩, ?_, by decide⟩ <;>
    exact State.accepts_of (by decide) (by simp [Instr.paramsInRange])

/-- A desk for each lamp; an output without a channel, one that nobody holds, one that its booth and one that another
holds; a channel not enabled, and channels in a frame that carries a live desk, the floor and silence. -/
theorem witness_ReadsAnswerTheState_records :
    ((plenary.booth 2) = { live := some (1, 2) } ∧ (offered.booth 2).live = some (1, 2) ∧
      (offered.booth 2).offer = some (2, .a) ∧ waiting.booth 1 = { pending := some (1, .b) } ∧
      (plenary.desk 5 1).refused = false ∧ (after (.forceOff 2) offered).booth 2 = {} ∧
      ((after (.forceOff 2) offered).desk 2 2).refused = true) ∧
    (plenary.planChannel 2 .b = none ∧ (freed.planChannel 1 .a = some 1 ∧ (freed.chan 1).holder = none) ∧
      hallB.planChannel 1 .a = some 1 ∧ (hallB.chan 1).holder = some ⟨1, 1⟩ ∧
      hallB.planChannel 1 .b = some 2 ∧ (hallB.chan 2).holder = some ⟨2, 1⟩) ∧
    (let s := after .frameBoundary freed;
      s.framer.state = .onAir ∧ s.enabled 31 = false ∧ (s.enabled 1 = true ∧ s.planPlace 1 = some ⟨2, 2⟩) ∧
        (s.enabled 2 = true ∧ s.planPlace 2 = some ⟨4, 2⟩) ∧
        (s.framer.frame.bind fun f => f.slots[2]?) = some .floor ∧
        (s.framer.frame.bind fun f => f.slots[4]?) = some (.desk ⟨2, 1⟩)) := by decide +kernel

/-! ### Relay resolution -/

theorem witness_FloorLanguagePlacesBooths :
    (morning.accepts (.floorLang 999) ∧ morning.framer.state ≠ .onAir) ∧
    plenary.accepts (.floorLang 0) ∧ plenary.framer.state = .onAir ∧ plenary.MicLaw ∧ plenary.RelayLaw :=
  ⟨⟨State.accepts_of (by decide) (by simp [Instr.paramsInRange]), by decide⟩,
    State.accepts_of (by decide) (by simp [Instr.paramsInRange]), by decide, State.micLaw_of_check (by decide),
    State.relayLaw_of_check (by decide)⟩

theorem witness_SourceSetsTheMode :
    (plenary.accepts (.source 4 2 2 4) ∧ plenary.framer.state = .onAir ∧ plenary.deskInUse 4 2 = true ∧
      plenary.planChannel 4 .a = some 4) ∧
    (plenary.accepts (.source 4 2 2 31) ∧ plenary.planChannel 4 .a ≠ some 31 ∧ plenary.planChannel 4 .b ≠ some 31) ∧
    (plenary.accepts (.source 4 2 0 0) ∧ plenary.accepts (.source 4 2 1 4) ∧ plenary.MicLaw ∧ plenary.RelayLaw) ∧
    heldOut.accepts (.source 4 2 1 0) ∧ heldOut.framer.state = .onAir ∧ heldOut.deskInUse 4 2 = true ∧ heldOut.MicLaw ∧
      heldOut.RelayLaw ∧ (heldOut.relayRec 3).status = .holding ∧ (heldOut.planBooth 3).isSome = true := by
  refine ⟨⟨?_, by decide, by decide, by decide⟩, ⟨?_, by decide, by decide⟩, ⟨?_, ?_, State.micLaw_of_check (by decide),
    State.relayLaw_of_check (by decide)⟩, ?_, by decide, by decide, State.micLaw_of_check (by decide +kernel),
    State.relayLaw_of_check (by decide +kernel), by decide +kernel, by decide⟩ <;>
    exact State.accepts_of (by decide) (by simp [Instr.paramsInRange])

theorem witness_OwnChannelNeverRelayed :
    let s := State.queued switching .frameBoundary
    s.PlanLaw ∧ s.MicLaw ∧ s.RelayLaw ∧ s.TablesLaw ∧ s.OwnLaw ∧ ∃ t, step s = .next t :=
  ⟨State.planLaw_of_check (by decide), State.micLaw_of_check (by decide), State.relayLaw_of_check (by decide),
    State.tablesLaw_of_check (by decide), State.ownLaw_of_check (by decide), _, rfl⟩

/-! ### Sittings and metering -/

theorem witness_SittingOpens :
    (plenary.receives .console = true ∧ plenary.meter.sitting.isOpen = true) ∧
    (morning.receives .console = true ∧ morning.meter.sitting.isOpen = false ∧ morning.framer.state ≠ .onAir) ∧
    closed.receives .console = true ∧ closed.meter.sitting.isOpen = false ∧ closed.framer.state = .onAir ∧
      closed.MicLaw ∧ closed.TurnLaw ∧ (closed.booth 5).live = none ∧ (closed.booth 4).live = some (1, 4) :=
  ⟨by decide, by decide, by decide, by decide, by decide, State.micLaw_of_check (by decide),
    State.turnLaw_of_check (by decide), by decide, by decide⟩

/-- With a return grace and without; four open turns with room in the journal for all five entries, for the turns but not
the SITTING entry, for three turns, and for none. -/
theorem witness_SittingCloses :
    (closed.receives .console = true ∧ closed.meter.sitting.isOpen = false) ∧
    ∀ e ∈ [(1019, 0), (1020, 240), (1021, 0), (1024, 240)], ∃ s : State, s.meter.graceSetting = e.2 ∧
      s.room = 1024 - e.1 ∧ (s.metered Config.boothNumbers).length = 4 ∧ s.receives .console = true ∧
      s.meter.sitting.isOpen = true ∧ s.MicLaw ∧ s.TurnLaw := by
  refine ⟨by decide, fun e he => ⟨ringed e.1 e.2, rfl, by simp [State.room, ringed], ?_⟩⟩
  simp only [List.mem_cons, List.not_mem_nil, or_false] at he
  rcases he with rfl | rfl | rfl | rfl <;>
    exact ⟨by decide, by decide, by decide, State.micLaw_of_check (by decide), State.turnLaw_of_check (by decide)⟩

/-- The pin held and not; a return grace in its last second, and none; a booth without a turn and one with; meter time at
its end. -/
theorem witness_MeterSecondCounts :
    (after .resetPin plenary).resetHeld = true ∧ plenary.resetHeld = false ∧ plenary.meter.sitting.onAir ≤ 4294967295 ∧
    (lapsing.resetHeld = false ∧ lapsing.meter.graceTimer = some 1 ∧ plenary.meter.graceTimer ≠ some 1) ∧
    plenary.turn 5 = none ∧ (4294967295 ≤ (State.at plenary 4294967295).meter.time) ∧
    4 ∈ Config.boothNumbers ∧ plenary.turn 4 = some ⟨1, none, 4, .narrow, 30000, 1800, 0, 1800⟩ ∧
      plenary.meter.time < 4294967295 := by decide

theorem witness_GraceExpirySweeps :
    plenary.meter.graceTimer ≠ some 1 ∧ lapsing.meter.graceTimer = some 1 := by decide

/-! ### Live microphones -/

theorem witness_MicOnGrantsAFreeChannel :
    freed.accepts (.micOn 1 2) ∧ freed.MicLaw ∧ freed.RelayLaw ∧ freed.TurnLaw ∧ freed.framer.state = .onAir ∧
      freed.deskInUse 1 2 = true ∧ (freed.booth 1).live = none ∧ (freed.booth 1).pending = none ∧
      freed.planChannel 1 (freed.desk 1 2).output = some 1 ∧ (freed.chan 1).holder = none :=
  ⟨State.accepts_of (by decide) (by simp [Instr.paramsInRange]), State.micLaw_of_check (by decide),
    State.relayLaw_of_check (by decide), State.turnLaw_of_check (by decide), by decide, by decide, by decide, by decide,
    by decide, by decide⟩

/-- The cases of MIC_ON: from the live desk, the offering desk, a desk without a channel, a desk beside an offer, a
first offer, the waiting desk, a desk beside it, and a desk whose channel is held, its queue full or not. -/
theorem witness_MicOnOffersOrWaits :
    (∀ s ∈ [plenary, offered, hallB, waiting], s.framer.state = .onAir ∧ s.deskInUse 1 2 = true ∧
      s.deskInUse 2 1 = true ∧ s.receives .desk = true) ∧
    ((plenary.booth 2).live = some (1, 2) ∧ (offered.booth 2).offer = some (2, .a)) ∧
    ((∀ c, (offered.booth 2).live ≠ some (2, c)) ∧ (offered.booth 2).live ≠ none ∧ (offered.booth 2).offer ≠ none) ∧
    ((plenary.booth 2).live ≠ none ∧ (plenary.booth 2).offer = none ∧ plenary.planChannel 2 .a = some 2) ∧
    plenary.planChannel 2 .b = none ∧
    ((waiting.booth 1).pending = some (1, .b) ∧ (waiting.booth 1).live = none ∧ waiting.planChannel 1 .a = some 1) ∧
    (let s := after (.micOff 1 1) waiting;
      (s.booth 1).live = none ∧ (s.booth 1).pending = none ∧ (s.desk 1 1).output = .b ∧
        s.planChannel 1 .b = some 2 ∧ (s.chan 2).holder ≠ none ∧ (s.chan 2).queue.length < 4) ∧
    (let s : State := { waiting with bdc := { waiting.bdc with
        booths := [], channels := [(2, ⟨some ⟨2, 1⟩, [⟨1, 1⟩, ⟨3, 1⟩, ⟨4, 1⟩, ⟨5, 1⟩]⟩)] } };
      (s.booth 1).live = none ∧ (s.booth 1).pending = none ∧ (s.desk 1 1).output = .b ∧
        s.planChannel 1 .b = some 2 ∧ (s.chan 2).holder ≠ none ∧ 4 ≤ (s.chan 2).queue.length) := by
  refine ⟨by decide, by decide, ⟨fun c h => ?_, by decide, by decide⟩, by decide, by decide, by decide, by decide,
    by decide⟩
  rw [show (offered.booth 2).live = some (1, 2) by decide] at h
  cases h

/-- An offer for the same channel, with the ramp length 12, with it 0, and with a ramp already running. -/
theorem witness_MicOffHandsOver :
    (offered.accepts (.micOff 2 1) ∧ offered.MicLaw ∧ offered.TurnLaw ∧ offered.framer.state = .onAir ∧
      offered.deskInUse 2 1 = true ∧ (offered.booth 2).live = some (1, 2) ∧ (offered.booth 2).offer = some (2, .a) ∧
      offered.planChannel 2 .a = some 2 ∧ offered.mixer.rampLength ≠ 0 ∧ (offered.carriage 2).ramp = none) ∧
    (after (.handoverSet 0 30) offered).mixer.rampLength = 0 ∧
    (let s := after (.micOn 2 1) (after (.micOff 2 1) offered);
      s.MicLaw ∧ s.TurnLaw ∧ (s.booth 2).live = some (2, 2) ∧ (s.booth 2).offer = some (1, .a) ∧
        (s.carriage 2).ramp = some ⟨⟨2, 1⟩, ⟨2, 2⟩, 256, 0, 12⟩) :=
  ⟨⟨State.accepts_of (by decide) (by simp [Instr.paramsInRange]), State.micLaw_of_check (by decide),
    State.turnLaw_of_check (by decide), by decide, by decide, by decide, by decide, by decide, by decide, by decide⟩,
    by decide, State.micLaw_of_check (by decide), State.turnLaw_of_check (by decide), by decide, by decide, by decide⟩

/-- With nobody waiting, and with desk 1/1 waiting. -/
theorem witness_MicOffReleases :
    ∀ s ∈ [plenary, waiting], s.accepts (.micOff 2 1) ∧ s.MicLaw ∧ s.RelayLaw ∧ s.TurnLaw ∧ s.framer.state = .onAir ∧
      s.deskInUse 2 1 = true ∧ (s.booth 2).live = some (1, 2) ∧ (s.booth 2).offer = none ∧
      ((s.chan 2).queue = [] ∨ (s.chan 2).queue = [⟨1, 1⟩]) := by
  intro s hs
  simp only [List.mem_cons, List.not_mem_nil, or_false] at hs
  rcases hs with rfl | rfl <;>
    exact ⟨State.accepts_of (by decide) (by simp [Instr.paramsInRange]), State.micLaw_of_check (by decide),
      State.relayLaw_of_check (by decide), State.turnLaw_of_check (by decide), by decide, by decide, by decide,
      by decide, by decide⟩

/-- A desk with an offer, one that waits, one with neither; and an offer for another channel: free, held with room in
its queue, and held with four desks waiting, with and without a desk that waits for the released channel. -/
theorem witness_MicOffWithdrawsOrCrosses :
    (offered.accepts (.micOff 2 2) ∧ offered.MicLaw ∧ (offered.booth 2).live.map Prod.fst ≠ some 2 ∧
      (offered.booth 2).offer = some (2, .a)) ∧
    (waiting.accepts (.micOff 1 1) ∧ waiting.MicLaw ∧ (waiting.booth 1).live = none ∧
      (waiting.booth 1).pending = some (1, .b)) ∧
    (plenary.accepts (.micOff 2 2) ∧ plenary.MicLaw ∧ (plenary.booth 2) = { live := some (1, 2) }) ∧
    ∀ s ∈ [crossed, crossFree, throng [5] [] false, throng [5] [6, 7, 8] true, throng [5] [6, 7, 8, 9] true],
      s.accepts (.micOff 1 1) ∧ s.MicLaw ∧ s.framer.state = .onAir ∧
      s.deskInUse 1 1 = true ∧ (s.booth 1).live = some (1, 1) ∧ (s.booth 1).offer = some (2, .b) ∧
      s.planChannel 1 .b = some 2 ∧ s.RelayLaw ∧ s.TurnLaw ∧
      ((s.chan 2).holder = none ∨ (s.chan 2).holder ≠ none ∧ (s.chan 2).queue.length < 4 ∨
        (s.chan 2).holder ≠ none ∧ 4 ≤ (s.chan 2).queue.length) := by
  refine ⟨⟨State.accepts_of (by decide) (by simp [Instr.paramsInRange]), State.micLaw_of_check (by decide), by decide,
    by decide⟩, ⟨State.accepts_of (by decide) (by simp [Instr.paramsInRange]), State.micLaw_of_check (by decide),
    by decide, by decide⟩, ⟨State.accepts_of (by decide) (by simp [Instr.paramsInRange]),
    State.micLaw_of_check (by decide), by decide⟩, ?_⟩
  intro s hs
  simp only [List.mem_cons, List.not_mem_nil, or_false] at hs
  rcases hs with rfl | rfl | rfl | rfl | rfl <;>
    exact ⟨State.accepts_of (by decide) (by simp [Instr.paramsInRange]), State.micLaw_of_check (by decide), by decide,
      by decide, by decide, by decide, by decide, State.relayLaw_of_check (by decide),
      State.turnLaw_of_check (by decide), by decide⟩

/-- The output selected already; a desk that offers, one that waits; a live desk without the channel; and one that moves
to a free channel, to one with room in its queue and to one with four desks waiting, with an offer against it, and with
and without a desk that waits for its old channel. -/
theorem witness_OutputMovesTheDesk :
    (plenary.accepts (.output 2 2 0) ∧ (plenary.desk 2 2).output = .a ∧ plenary.MicLaw ∧
      plenary.framer.state = .onAir ∧ plenary.deskInUse 2 2 = true) ∧
    (offered.accepts (.output 2 2 1) ∧ offered.MicLaw ∧ (offered.booth 2).offer = some (2, .a) ∧
      (offered.desk 2 2).output ≠ .b) ∧
    (waiting.accepts (.output 1 1 0) ∧ waiting.MicLaw ∧ (waiting.booth 1).pending = some (1, .b) ∧
      (waiting.desk 1 1).output ≠ .a) ∧
    (plenary.accepts (.output 2 1 1) ∧ (plenary.booth 2).live = some (1, 2) ∧ plenary.planChannel 2 .b = none) ∧
    ∀ s ∈ [crossed, crossFree, throng [5] [] false, throng [5] [6, 7, 8] true, throng [5] [6, 7, 8, 9] true],
      s.accepts (.output 1 1 1) ∧ s.MicLaw ∧ s.framer.state = .onAir ∧
      s.deskInUse 1 1 = true ∧ (s.desk 1 1).output ≠ .b ∧ (s.booth 1).live = some (1, 1) ∧
      s.planChannel 1 .b = some 2 ∧ s.RelayLaw ∧ s.TurnLaw ∧
      (s.booth 1).offer = some (2, .b) ∧
      ((s.chan 2).holder = none ∨ (s.chan 2).holder ≠ none ∧ (s.passedQueue 1 2).length < 4 ∨
        (s.chan 2).holder ≠ none ∧ 4 ≤ (s.passedQueue 1 2).length) := by
  refine ⟨⟨State.accepts_of (by decide) (by simp [Instr.paramsInRange]), by decide, State.micLaw_of_check (by decide),
    by decide, by decide⟩, ⟨State.accepts_of (by decide) (by simp [Instr.paramsInRange]),
    State.micLaw_of_check (by decide), by decide, by decide⟩,
    ⟨State.accepts_of (by decide) (by simp [Instr.paramsInRange]), State.micLaw_of_check (by decide), by decide,
    by decide⟩, ⟨State.accepts_of (by decide) (by simp [Instr.paramsInRange]), by decide, by decide⟩, ?_⟩
  intro s hs
  simp only [List.mem_cons, List.not_mem_nil, or_false] at hs
  rcases hs with rfl | rfl | rfl | rfl | rfl <;>
    exact ⟨State.accepts_of (by decide) (by simp [Instr.paramsInRange]), State.micLaw_of_check (by decide), by decide,
      by decide, by decide, by decide, by decide, State.relayLaw_of_check (by decide),
      State.turnLaw_of_check (by decide), by decide, by decide⟩

/-- A live desk and another; a number in use, a new number, the same number again, and a sign-off. -/
theorem witness_CoughAndSignOn :
    (plenary.framer.state = .onAir ∧ plenary.deskInUse 2 1 = true ∧ plenary.deskInUse 2 2 = true) ∧
    (plenary.accepts (.coughOn 2 1) ∧ plenary.accepts (.coughOff 2 1) ∧ (plenary.booth 2).live = some (1, 2)) ∧
    (plenary.accepts (.coughOn 2 2) ∧ (plenary.booth 2).live.map Prod.fst ≠ some 2) ∧
    (let s := after (.signOn 2 1 9999) plenary;
      s.accepts (.signOn 2 2 9999) ∧ s.TablesLaw ∧ deskKey 2 1 ≠ deskKey 2 2 ∧
        (s.desk 2 1).interpreter = some 9999 ∧ s.accepts (.signOn 2 1 9999) ∧ s.accepts (.signOff 2 1)) ∧
    plenary.accepts (.signOn 2 1 1) ∧ plenary.TablesLaw ∧
      ∀ x y, deskKey x y ≠ deskKey 2 1 → (plenary.desk x y).interpreter ≠ some 1 := by
  refine ⟨by decide, ⟨?_, ?_, by decide⟩, ⟨?_, by decide⟩,
    ⟨?_, State.tablesLaw_of_check (by decide), by decide, by decide, ?_, ?_⟩, ?_,
    State.tablesLaw_of_check (by decide), fun x y _ h => by cases h⟩ <;>
    exact State.accepts_of (by decide) (by simp [Instr.paramsInRange])

/-- Off air; an absent booth; a desk beyond the desks in use. -/
theorem witness_DeskRequestsRefusedOffAir :
    ((Instr.micOn 31 3).request = some ⟨.desk, Code.micOn, [31, 3]⟩ ∧ morning.accepts (.micOn 31 3) ∧
      morning.framer.state ≠ .onAir) ∧
    (plenary.accepts (.signOn 31 1 1) ∧ plenary.framer.state = .onAir ∧ plenary.planBooth 31 = none) ∧
    plenary.accepts (.source 4 3 1 0) ∧ plenary.planBooth 4 = some ⟨true, some 4, none, [44, 352], 2⟩ ∧ 2 < 3 := by
  refine ⟨⟨rfl, ?_, by decide⟩, ⟨?_, by decide, by decide⟩, ?_, by decide, by decide⟩ <;>
    exact State.accepts_of (by decide) (by simp [Instr.paramsInRange])

/-- Off air; a booth without a live desk; a release with nobody waiting, with an offer, and with a waiting desk. -/
theorem witness_ForceOffReleases :
    (morning.accepts (.forceOff 31) ∧ morning.framer.state ≠ .onAir) ∧
    (plenary.accepts (.forceOff 31) ∧ plenary.framer.state = .onAir ∧ (plenary.booth 31).live = none) ∧
    ∀ s ∈ [plenary, offered, waiting], s.accepts (.forceOff 2) ∧ s.framer.state = .onAir ∧
      (s.booth 2).live = some (1, 2) ∧ s.MicLaw ∧ s.RelayLaw ∧ s.TurnLaw ∧
      (((s.booth 2).offer = none ∧ (s.chan 2).queue = []) ∨
        ((s.booth 2).offer = some (2, .a) ∧ (s.chan 2).queue = []) ∨ (s.chan 2).queue = [⟨1, 1⟩]) := by
  refine ⟨⟨State.accepts_of (by decide) (by simp [Instr.paramsInRange]), by decide⟩,
    ⟨State.accepts_of (by decide) (by simp [Instr.paramsInRange]), by decide, by decide⟩, ?_⟩
  intro s hs
  simp only [List.mem_cons, List.not_mem_nil, or_false] at hs
  rcases hs with rfl | rfl | rfl <;>
    exact ⟨State.accepts_of (by decide) (by simp [Instr.paramsInRange]), by decide, by decide,
      State.micLaw_of_check (by decide), State.relayLaw_of_check (by decide), State.turnLaw_of_check (by decide),
      by decide⟩

/-- Four open turns with room in the journal for all, for three, and for none. -/
theorem witness_LiveResetClearsTheDesks :
    ∀ n ∈ [1020, 1021, 1024], ∃ s : State, s.room = 1024 - n ∧ (s.metered Config.boothNumbers).length = 4 ∧
      s.receives .console = true ∧ s.MicLaw ∧ s.TurnLaw ∧ s.TablesLaw ∧ s.RelayLaw := by
  refine fun n hn => ⟨ringed n 30, by simp [State.room, ringed], ?_⟩
  simp only [List.mem_cons, List.not_mem_nil, or_false] at hn
  rcases hn with rfl | rfl | rfl <;>
    exact ⟨by decide, by decide, State.micLaw_of_check (by decide), State.turnLaw_of_check (by decide),
      State.tablesLaw_of_check (by decide), State.relayLaw_of_check (by decide)⟩

theorem witness_TimersExpire :
    (offered.booth 2).offerTimer ≠ some 0 ∧
    (let s := { offered with bdc := { offered.bdc with booths := [(2, ⟨some (1, 2), none, some (2, .a), some 0⟩)] } };
      (s.booth 2).offerTimer = some 0 ∧ (s.booth 2).offer = some (2, .a)) ∧
    (plenary.relayRec 4).timer ≠ some 0 ∧ (heldOut.relayRec 4).timer = some 0 ∧ heldOut.MicLaw ∧ heldOut.RelayLaw ∧
      (heldOut.relayRec 3).status = .holding ∧ (heldOut.planBooth 3).isSome = true :=
  ⟨by decide, by decide, by decide, by decide +kernel, State.micLaw_of_check (by decide +kernel),
    State.relayLaw_of_check (by decide +kernel), by decide +kernel, by decide⟩

/-! ### The register -/

/-- A serial registered already, a new one, a window without a free slot, a walk with and without an occupied slot. -/
theorem witness_RegistrationTakesAFreeSlot :
    (plenary.accepts (.rxRegister 7230 0) ∧ plenary.accepts (.rxRegisterNext 7230 1) ∧
      plenary.receiver 7230 ≠ none) ∧
    (plenary.accepts (.rxRegister 65535 1) ∧ plenary.accepts (.rxRegisterNext 1 0) ∧
      plenary.receiver 65535 = none ∧ plenary.receiver 1 = none ∧
      (List.range 2048).find? (fun x => (Table.fetch? plenary.register.slots x).isNone) = some 3) ∧
    (List.range' 0 3).find? (fun x => (Table.fetch? plenary.register.slots x).isNone) = none ∧
    (plenary.accepts (.rxWindow 0 2047 1) ∧ plenary.accepts (.rxWindow 2047 2047 0)) ∧
    (plenary.receives .counter = true ∧ Table.fetch? plenary.register.slots 0 ≠ none ∧
      (List.range' 3 10).find? (fun x => (Table.fetch? plenary.register.slots x).isSome) = none) ∧
    plenary.HireLaw ∧ plenary.TablesLaw := by
  refine ⟨⟨?_, ?_, by decide⟩, ⟨?_, ?_, by decide, by decide, by decide +kernel⟩, by decide, ⟨?_, ?_⟩, by decide,
    State.hireLaw_of_check (by decide), State.tablesLaw_of_check (by decide)⟩ <;>
    exact State.accepts_of (by decide) (by simp [Instr.paramsInRange])

/-- A register full up to its last slot has no free one. -/
theorem witness_RegistrationTakesAFreeSlot_full :
    ∃ s : State, s.receives .counter = true ∧ s.receiver 65535 = none ∧
      (List.range 2048).find? (fun x => (Table.fetch? s.register.slots x).isNone) = none := by
  refine ⟨{ register := { slots := (List.range 2048).map fun x => (x, ⟨x + 1, .standard, .charging, none, false, 0, .none⟩) } },
    by decide, by decide +kernel, ?_⟩
  rw [List.find?_eq_none]
  intro x hx
  rw [Bool.not_eq_true, Option.isNone_eq_false_iff]
  exact Table.fetch?_of_mem _ _ (by simpa using hx)

/-- A receiver in each of the states, 1 to 6, by its serial. -/
def serviced : State :=
  { register := { slots := [RxState.charging, .available, .lost, .faulty, .overdue, .onHire].zipIdx.map fun e =>
      (e.2, ⟨e.2 + 1, .standard, e.1, none, false, 0, .none⟩) } }

theorem witness_ReceiverService :
    (serviced.receiver 9 = none ∧ (Instr.rxQuery .console 9).request = some ⟨.console, Code.rxQuery, [9]⟩ ∧
      serviced.accepts (.rxQuery .console 9) ∧ serviced.accepts (.rxPreset 9 999) ∧ serviced.accepts (.issue 9 1 0 0)) ∧
    (∀ n ∈ [1, 2, 3, 4, 5, 6], serviced.accepts (.rxQuery .counter n) ∧ serviced.accepts (.rxWithdraw n) ∧
      serviced.accepts (.repaired n) ∧ serviced.accepts (.rackReport n 0) ∧ serviced.accepts (.rackReport n 1) ∧
      serviced.accepts (.found n)) ∧
    ([1, 2, 3, 4, 5, 6].map fun n => (serviced.receiver n).map fun e => e.2.state) =
      [some .charging, some .available, some .lost, some .faulty, some .overdue, some .onHire] ∧
    32 < serviced.journal.free ∧ crowded.journal.free ≤ 32 := by
  refine ⟨⟨by decide, rfl, ?_, ?_, ?_⟩, ?_, by decide, by decide, by decide +kernel⟩
  · exact State.accepts_of (by decide) (by simp [Instr.paramsInRange])
  · exact State.accepts_of (by decide) (by simp [Instr.paramsInRange])
  · exact State.accepts_of (by decide) (by simp [Instr.paramsInRange])
  · intro n hn
    simp only [List.mem_cons, List.not_mem_nil, or_false] at hn
    rcases hn with rfl | rfl | rfl | rfl | rfl | rfl <;>
      exact ⟨State.accepts_of (by decide) (by simp [Instr.paramsInRange]),
        State.accepts_of (by decide) (by simp [Instr.paramsInRange]),
        State.accepts_of (by decide) (by simp [Instr.paramsInRange]),
        State.accepts_of (by decide) (by simp [Instr.paramsInRange]),
        State.accepts_of (by decide) (by simp [Instr.paramsInRange]),
        State.accepts_of (by decide) (by simp [Instr.paramsInRange])⟩

/-! ### Accounts, hires and charges -/

theorem witness_AccountRequests :
    (plenary.accepts (.acctOpen 501 0 0 0) ∧ plenary.account 501 ≠ none) ∧
    (plenary.accepts (.acctOpen 65535 1 255 16777215) ∧ plenary.account 65535 = none ∧
      plenary.hire.accounts.length < 512) ∧
    (plenary.accepts (.acctLimit 1 0 0) ∧ plenary.accepts (.acctPay 1 0) ∧ plenary.accepts (.acctClose 1) ∧
      plenary.accepts (.acctQuery .console 1) ∧ plenary.account 1 = none) ∧
    (plenary.accepts (.acctLimit 501 1 0) ∧ plenary.account 501 = some ⟨.personal, false, 2, 2, 0, 0, 10000⟩ ∧
      min 2 (max 1 1) < 2) ∧
    (plenary.accepts (.acctLimit 4400 1 0) ∧ plenary.account 4400 = some ⟨.delegation, false, 9, 1, 0, 10000, 0⟩ ∧
      1 ≤ min 255 (max 1 1)) ∧
    (plenary.accepts (.acctPay 501 9999999) ∧ plenary.accepts (.acctClose 501) ∧ 0 < 2) ∧
    (let s : State := { hire := { accounts := [(7, ⟨.personal, true, 2, 0, 5, 0, 0⟩)] } };
      s.accepts (.acctClose 7) ∧ s.account 7 = some ⟨.personal, true, 2, 0, 5, 0, 0⟩ ∧ 32 < s.journal.free) ∧
    crowded.journal.free ≤ 32 ∧
    (plenary.receives .console = true ∧ 0 < (plenary.hire.tally.langs.map Prod.snd).sum + plenary.hire.tally.other) ∧
    (morning.hire.tally.langs.map Prod.snd).sum + morning.hire.tally.other = 0 := by
  refine ⟨⟨?_, by decide⟩, ⟨?_, by decide, by decide⟩, ⟨?_, ?_, ?_, ?_, by decide⟩, ⟨?_, by decide, by decide⟩,
    ⟨?_, by decide, by decide⟩, ⟨?_, ?_, by decide⟩, ⟨?_, by decide, by decide⟩, by decide +kernel, by decide,
    by decide⟩ <;> exact State.accepts_of (by decide) (by simp [Instr.paramsInRange])

/-- A table with 512 accounts, none of them number 65,535; and an account with nobody out, the journal closed. -/
theorem witness_AccountRequests_full :
    ∃ s : State, s.account 65535 = none ∧ 512 ≤ s.hire.accounts.length ∧
      s.account 1 = some ⟨.personal, false, 1, 0, 0, 0, 0⟩ ∧ s.journal.free ≤ 32 :=
  ⟨{ crowded with hire := { accounts := (List.range' 1 512).map fun n => (n, ⟨.personal, false, 1, 0, 0, 0, 0⟩) } },
    by decide +kernel, by decide +kernel, by decide +kernel, by decide +kernel⟩

/-- One AVAILABLE receiver, and an account of each condition that ISSUE tells apart. -/
def shop : State :=
  { register := { slots := [(0, { serial := 5, cls := .standard, state := .available })] }
    hire :=
      { accounts := [(1, ⟨.personal, false, 2, 0, 0, 0, 0⟩), (2, ⟨.delegation, false, 255, 254, 0, 0, 0⟩),
          (3, ⟨.personal, true, 2, 0, 9, 0, 0⟩), (4, ⟨.personal, false, 1, 1, 0, 0, 0⟩)]
        tariff := { deposit := 5000 } } }

theorem witness_IssueAndPreset :
    (shop.receiver 5 = some (0, { serial := 5, cls := .standard, state := .available }) ∧
      shop.accepts (.issue 5 1 0 5000) ∧ shop.account 1 = some ⟨.personal, false, 2, 0, 0, 0, 0⟩ ∧
      shop.inLanguageList 0 = true ∧ shop.hire.tariff.deposit ≤ 5000) ∧
    (shop.accepts (.issue 5 2 0 0) ∧ shop.account 2 = some ⟨.delegation, false, 255, 254, 0, 0, 0⟩) ∧
    (plenary.accepts (.issue 7231 501 0 0) ∧ (plenary.receiver 7231).map (fun e => e.2.state) = some .onHire) ∧
    (shop.accepts (.issue 5 65535 0 0) ∧ shop.account 65535 = none) ∧
    (shop.accepts (.issue 5 3 0 0) ∧ shop.account 3 = some ⟨.personal, true, 2, 0, 9, 0, 0⟩) ∧
    (shop.accepts (.issue 5 4 0 0) ∧ shop.account 4 = some ⟨.personal, false, 1, 1, 0, 0, 0⟩) ∧
    (shop.accepts (.issue 5 1 999 0) ∧ shop.inLanguageList 999 = false) ∧
    (shop.accepts (.issue 5 1 0 4999) ∧ 4999 < shop.hire.tariff.deposit) ∧
    (shop.accepts (.rxPreset 5 0) ∧
      ({ serial := 5, cls := .standard, state := .available } : Receiver).onHire = false) ∧
    (plenary.accepts (.rxPreset 7231 999) ∧ plenary.inLanguageList 999 = false) ∧
    (plenary.accepts (.rxPreset 7231 44) ∧ plenary.accepts (.rxPreset 7231 352) ∧ plenary.inLanguageList 44 = true ∧
      plenary.inLanguageList 352 = true ∧
      plenary.receiver 7231 = some (1, { serial := 7231, cls := .standard, state := .onHire, hire := some ⟨4400, 44, 30660, 1, true, 0⟩ })) := by
  refine ⟨⟨by decide, ?_, by decide, by decide, by decide⟩, ⟨?_, by decide⟩, ⟨?_, by decide⟩, ⟨?_, by decide⟩,
    ⟨?_, by decide⟩, ⟨?_, by decide⟩, ⟨?_, by decide⟩, ⟨?_, by decide⟩, ⟨?_, by decide⟩, ⟨?_, by decide⟩,
    ?_, ?_, by decide, by decide, by decide⟩ <;> exact State.accepts_of (by decide) (by simp [Instr.paramsInRange])

theorem witness_LanguageList : plenary.PlanLaw ∧ morning.PlanLaw :=
  ⟨State.planLaw_of_check (by decide), State.planLaw_of_check (by decide)⟩

/-- A receiver that is not on hire; one on hire with the journal open, with a free count of 33, and closed. -/
theorem witness_ReceiverLeavesHire :
    (shop.receiver 5 = some (0, { serial := 5, cls := .standard, state := .available }) ∧
      shop.accepts (.rxReturn 5) ∧ shop.accepts (.lost 5)) ∧
    (swept.receiver 7232 = some (2, { serial := 7232, cls := .standard, state := .overdue, hire := some ⟨501, 81, 30720, 1, true, 5000⟩, orphaned := true }) ∧
      swept.account 501 = some ⟨.personal, false, 2, 2, 0, 0, 10000⟩ ∧ 32 < swept.journal.free ∧
      swept.accepts (.rxReturn 7232) ∧ swept.accepts (.lost 7232) ∧ swept.accepts (.rackReport 7232 1)) ∧
    (⟨List.replicate 991 ⟨1, 0, .found 1⟩, 2000⟩ : Journal).free = 33 ∧
    crowded.journal.free ≤ 32 ∧ crowded.accepts (.rxReturn 7231) ∧ crowded.accepts (.lost 7231) ∧
      crowded.accepts (.rackReport 7231 0) ∧
      crowded.receiver 7231 = some (1, { serial := 7231, cls := .standard, state := .onHire, hire := some ⟨4400, 44, 30660, 1, true, 0⟩ }) ∧
      crowded.account 4400 = some ⟨.delegation, false, 9, 1, 0, 10000, 0⟩ := by
  refine ⟨⟨by decide, ?_, ?_⟩, ⟨by decide, by decide, by decide, ?_, ?_, ?_⟩, by decide +kernel, by decide +kernel, ?_,
    ?_, ?_, by decide, by decide⟩ <;> exact State.accepts_of (by decide) (by simp [Instr.paramsInRange])

/-- Within the grace and beyond it by one second; a cap and none; a total over the greatest charge. -/
theorem witness_ChargeFollowsTheTariff :
    let u := plenary.hire.tariff
    (60 * u.grace < 601 ∧ 600 ≤ 60 * u.grace) ∧ (u.billable 600 = 0 ∧ u.billable 601 ≠ 0) ∧
      (5 ≤ u.unit ∧ 4294967295 ≤ 4294967295 ∧ u.rate ≤ 65535) ∧ (0 < u.cap ∧ morning.hire.tariff.cap = 0) ∧
      (u.cap ≤ 999999 ∧ 65536 ≤ 65536 ∧ 65535 ≤ 65535) ∧
      999999 < ({ u with loss := 999999 } : Tariff).cappedTime .standard 700 1 + 0 + 999999 := by decide

/-! ### Journal, flags and links -/

theorem witness_JournalReadAndAcknowledge :
    (plenary.receives .console = true ∧ plenary.journal.entries = []) ∧
    crowded.receives .console = true ∧
      crowded.journal.entries = ⟨1, 0, .found 1⟩ :: List.replicate 1020 ⟨1, 0, .found 1⟩ ∧ 4294967295 ≠ 1 :=
  ⟨by decide, by decide, rfl, by decide⟩

/-- The last number before the counter comes round; 1,023 entries and 1,024; a booth with a turn. -/
theorem witness_JournalWritesAndFolds :
    ({ plenary with journal := ⟨[], 4294967295⟩ } : State).journal.next = 4294967295 ∧
    (List.replicate 1023 (⟨1, 0, .found 1⟩ : Entry)).length < 1024 ∧
    1024 ≤ (List.replicate 1024 (⟨1, 0, .found 1⟩ : Entry)).length ∧ (plenary.turn 4).isSome = true := by
  exact ⟨rfl, by rw [List.length_replicate]; omega, by rw [List.length_replicate], by decide⟩

theorem witness_FlagRequests :
    (plenary.accepts (.flagsRead .console) ∧ plenary.accepts (.flagsRead .counter)) ∧
    (plenary.accepts (.maskSet .console 0x07FF) ∧ plenary.accepts (.maskSet .counter 0x000F)) ∧
    (plenary.receives .console = true ∧ 0x07FF < 0x0800) ∧ (plenary.receives .counter = true ∧ 0x000F < 0x0010) ∧
    (plenary.accepts (.flagsClear .console 0x07FF) ∧ plenary.accepts (.flagsClear .counter 0)) ∧
    15 < 16 ∧ 0 < 65535 ∧ (plenary.flags .console).mask.getLsbD 10 = true := by
  refine ⟨⟨?_, ?_⟩, ⟨?_, ?_⟩, by decide, by decide, ⟨?_, ?_⟩, by decide, by decide, by decide⟩ <;>
    exact State.accepts_of (by decide) (by simp [Instr.paramsInRange])

/-- The pin held and not; a select period used and not; a gap byte that is no start byte, and a FIFO that is full. -/
theorem witness_LinkEventsDiscard :
    (after .resetPin plenary).resetHeld = true ∧ plenary.resetHeld = false ∧
      ((after .framerRead plenary).resetHeld = false ∧ (after .framerRead plenary).links.console.period = true) ∧
      plenary.links.console.period = false ∧ ((0x5C : Byte) ≠ 0xC5 ∧ (plenary.uart .desk).fifo.length < 4) ∧
      (({ plenary with links := { plenary.links with desk := ⟨.hunting, List.replicate 4 ⟨58, .done, []⟩⟩ } } :
        State).uart .desk).fifo.length = 4 := by decide

/-- A hunting receiver, one that waits for the length, one within a body and one at the last CRC byte of a frame; a
request and a body turned away whose frames a receiving link takes, and a UART link that does not receive. -/
theorem witness_LinkEventsDiscard_bytes :
    (plenary.hears .console = true ∧ plenary.receiverOf .console = .hunting ∧ plenary.receives .console = true) ∧
    (let s := heard .console [0xC5] plenary; s.hears .console = true ∧ s.receiverOf .console = .begun) ∧
    (let s := heard .desk [0xC5, 255] plenary; s.hears .desk = true ∧ s.receiverOf .desk = .body 255 [] ∧
      ([] : List Byte).length + 1 < (255 : Byte).toNat + 2) ∧
    (let frame := requestFrame (Request.body ⟨.console, Code.jnlRead, []⟩);
      (heard .console (frame.take 4) plenary).receiverOf .console = .body 1 ((frame.drop 2).take 2) ∧
        ((frame.drop 2).take 2).length + 1 = (1 : Byte).toNat + 2 ∧
        readCounted .console (1 :: ((frame.drop 2).take 2 ++ frame.drop 4)) = some .jnlRead) ∧
    (Instr.jnlRead.request = some ⟨.console, Code.jnlRead, []⟩ ∧
      Request.wellFormed ⟨.console, Code.jnlRead, []⟩ = true ∧ turnedAway .desk 255 [] = true) ∧
    (let s := after .resetPin plenary; s.receiverOf .desk = .hunting ∧ s.receives .desk = false) := by decide +kernel

/-- An answer of seven bytes with its filler, none of them shifted out and all but the last; no answer on the console;
and an answer's body as long as the length byte can tell. -/
theorem witness_LinkEventsDiscard_output :
    (answering.resetHeld = false ∧ answering.links.console.period = true ∧
      answering.links.console.answer = some ⟨Code.standby, .wrongState, []⟩ ∧ answering.links.console.sent = 0) ∧
    (let x := (heard .console (List.replicate 6 0xC5) answering).links.console;
      x.answer = some ⟨Code.standby, .wrongState, []⟩ ∧ x.sent = 6 ∧
        x.sent + 1 = x.filler + (Answer.bytes ⟨Code.standby, .wrongState, []⟩).length) ∧
    Answer.bytes ⟨Code.standby, .wrongState, []⟩ ≠ [] ∧ plenary.links.console.answer = none ∧
    (Answer.body ⟨Code.jnlRead, .done, List.replicate 253 (f1 0)⟩).length = 255 := by decide +kernel

/-! ### Laws -/

theorem witness_JournalLawKept :
    let s := State.queued { plenary with journal := ⟨[⟨4294967294, 5, .found 1⟩, ⟨4294967295, 6, .found 2⟩], 1⟩ } .sittingClose
    s.journal.Law ∧ ∃ t, step s = .next t :=
  ⟨Journal.law_of_check (by decide), _, rfl⟩

theorem witness_PlanLawKept : let s := State.queued switching .frameBoundary; s.PlanLaw ∧ ∃ t, step s = .next t :=
  ⟨State.planLaw_of_check (by decide), _, rfl⟩

theorem witness_MicLawKept : let s := State.queued waiting (.micOff 2 1); s.MicLaw ∧ ∃ t, step s = .next t :=
  ⟨State.micLaw_of_check (by decide), _, rfl⟩

theorem witness_RelayLawKept : let s := State.queued heldOut (.holdTimerExpiry 4); s.RelayLaw ∧ ∃ t, step s = .next t :=
  ⟨State.relayLaw_of_check (by decide +kernel), _, rfl⟩

theorem witness_TurnLawKept :
    let s := State.queued offered (.micOff 2 1); s.TablesLaw ∧ s.MicLaw ∧ s.TurnLaw ∧ ∃ t, step s = .next t :=
  ⟨State.tablesLaw_of_check (by decide), State.micLaw_of_check (by decide), State.turnLaw_of_check (by decide), _, rfl⟩

theorem witness_HireLawKept : let s := State.queued plenary (.rxReturn 7231); s.HireLaw ∧ ∃ t, step s = .next t :=
  ⟨State.hireLaw_of_check (by decide), _, rfl⟩

theorem witness_TablesLawKept : let s := State.queued plenary .meterSecond; s.TablesLaw ∧ ∃ t, step s = .next t :=
  ⟨State.tablesLaw_of_check (by decide), _, rfl⟩

end Sys2Proof.Tests
end

section
/-! The charge (R159 to R165). The rounded-up units are the least number that covers the billable time
(`Tariff.units_le_iff`); their bounds and the width of the time part follow from that. -/

namespace Sys2Proof.Machine

/-! ## The billable time and the units -/

theorem Tariff.billable_le_duration (u : Tariff) (d : Nat) : u.billable d ≤ d := Nat.sub_le ..

theorem Tariff.billable_eq (u : Tariff) (d : Nat) : u.billable d = d - 60 * u.grace := rfl

theorem Tariff.billable_of_le_grace {u : Tariff} {d : Nat} (h : d ≤ 60 * u.grace) : u.billable d = 0 :=
  Nat.sub_eq_zero_of_le h

theorem Tariff.units_of_billable_zero {u : Tariff} {d : Nat} (h : u.billable d = 0) : u.units d = 0 := if_pos h

theorem Tariff.units_of_billable {u : Tariff} {d : Nat} (h : u.billable d ≠ 0) :
    u.units d = (u.billable d + 60 * u.unit - 1) / (60 * u.unit) := if_neg h

/-- Rounding up: the units are at most `n` exactly when `n` units of time cover the billable time. -/
theorem Tariff.units_le_iff {u : Tariff} (hu : 0 < u.unit) (d n : Nat) :
    u.units d ≤ n ↔ u.billable d ≤ n * (60 * u.unit) := by
  by_cases hb : u.billable d = 0
  · simp [Tariff.units_of_billable_zero hb, hb]
  · rw [Tariff.units_of_billable hb, Nat.div_le_iff_le_mul (by omega)]
    omega

theorem Tariff.billable_le_units_mul {u : Tariff} (hu : 0 < u.unit) (d : Nat) :
    u.billable d ≤ u.units d * (60 * u.unit) := (Tariff.units_le_iff hu d _).mp (Nat.le_refl _)

/-- One unit fewer would not reach beyond the billable time. -/
theorem Tariff.units_pred_mul_le_billable {u : Tariff} (hu : 0 < u.unit) (d : Nat) :
    (u.units d - 1) * (60 * u.unit) ≤ u.billable d := by
  by_cases hz : u.units d = 0
  · simp [hz]
  · have hmore : ¬ u.units d ≤ u.units d - 1 := by omega
    rw [Tariff.units_le_iff hu] at hmore
    omega

/-- The greatest duration of 32 bits, without a grace and with the shortest unit, comes to 14,316,558 units. -/
theorem Tariff.units_le_max {u : Tariff} {d : Nat} (hu : 5 ≤ u.unit) (hd : d ≤ 4294967295) :
    u.units d ≤ 14316558 := by
  rw [Tariff.units_le_iff (by omega)]
  have hb := u.billable_le_duration d
  omega

/-! ## The time part -/

theorem Tariff.rawTime_lt {u : Tariff} {d : Nat} (hu : 5 ≤ u.unit) (hd : d ≤ 4294967295) (hr : u.rate ≤ 65535)
    (cls : RxClass) : u.rawTime cls d < 2 ^ 40 := by
  cases cls with
  | standard =>
    calc u.units d * u.rate ≤ 14316558 * 65535 := Nat.mul_le_mul (Tariff.units_le_max hu hd) hr
      _ < 2 ^ 40 := by decide
  | assistive => exact Nat.two_pow_pos 40

theorem Tariff.cap_mul_sittings_lt {u : Tariff} {sittings : Nat} (hc : u.cap ≤ 999999) (hs : sittings ≤ 65536) :
    u.cap * sittings < 2 ^ 36 :=
  calc u.cap * sittings ≤ 999999 * 65536 := Nat.mul_le_mul hc hs
    _ < 2 ^ 36 := by decide

theorem Tariff.cappedTime_of_cap {u : Tariff} (hc : 0 < u.cap) (cls : RxClass) (d sittings : Nat) :
    u.cappedTime cls d sittings = min (u.rawTime cls d) (u.cap * sittings) := if_neg (Nat.ne_of_gt hc)

theorem Tariff.cappedTime_of_no_cap {u : Tariff} (hc : u.cap = 0) (cls : RxClass) (d sittings : Nat) :
    u.cappedTime cls d sittings = u.rawTime cls d := if_pos hc

/-! ## The charge and the sittings spanned -/

theorem Tariff.charge_eq (u : Tariff) (cls : RxClass) (d sittings : Nat) (state : RxState) (way : Leaving) :
    u.charge cls d sittings state way =
      min 999999 (u.cappedTime cls d sittings + u.feePart state + u.lossPart way) := rfl

theorem Tariff.charge_le_max (u : Tariff) (cls : RxClass) (d sittings : Nat) (state : RxState) (way : Leaving) :
    u.charge cls d sittings state way ≤ 999999 := Nat.min_le_left ..

theorem Tariff.charge_of_total {u : Tariff} {cls : RxClass} {d sittings : Nat} {state : RxState} {way : Leaving}
    {total : Nat} (h : total = u.cappedTime cls d sittings + u.feePart state + u.lossPart way) :
    u.charge cls d sittings state way = if 999999 < total then 999999 else total := by
  rw [Tariff.charge_eq, ← h]
  split <;> omega

theorem sittingsSpanned_eq (si sr : Nat) (opened : Bool) : sittingsSpanned si sr opened =
    if sr - si + (if opened then 1 else 0) = 0 then 1 else sr - si + (if opened then 1 else 0) := by
  rw [sittingsSpanned]
  generalize sr - si + (if opened then 1 else 0) = spanned
  split <;> omega

theorem sittingsSpanned_le {sr : Nat} (h : sr ≤ 65535) (si : Nat) (opened : Bool) :
    sittingsSpanned si sr opened ≤ 65536 := by
  have hopen : (if opened then 1 else 0) ≤ 1 := by cases opened <;> decide
  rw [sittingsSpanned]
  omega

/-- Settles O48: the units by `Tariff.units_le_iff`, the widths by the greatest units, rate, cap and sittings, and the
figures of the entry by `State.hireBody`. -/
theorem chargeFollowsTheTariff : Obligations.ChargeFollowsTheTariff := by
  intro u cls d sittings state way
  have hunits (hu : 5 ≤ u.unit) (hd : d ≤ 4294967295) : u.units d ≤ 14316558 ∧
      (u.units d - 1) * (60 * u.unit) ≤ u.billable d ∧ u.billable d ≤ u.units d * (60 * u.unit) :=
    have hpos : 0 < u.unit := by omega
    ⟨Tariff.units_le_max hu hd, Tariff.units_pred_mul_le_billable hpos d, Tariff.billable_le_units_mul hpos d⟩
  exact ⟨fun _ _ => rfl, fun _ => u.billable_eq d, Tariff.billable_of_le_grace, Tariff.units_of_billable_zero,
    Tariff.units_of_billable, hunits, rfl, rfl, fun hu hd hr => Tariff.rawTime_lt hu hd hr cls,
    Tariff.cap_mul_sittings_lt, fun hc => Tariff.cappedTime_of_cap hc cls d sittings,
    fun hc => Tariff.cappedTime_of_no_cap hc cls d sittings, rfl, rfl, fun _ => Tariff.charge_of_total,
    u.charge_le_max cls d sittings state way,
    fun s r h => ⟨s.hireBody r h way, by cases way <;> rfl, rfl, rfl, rfl, rfl⟩,
    fun si sr opened => ⟨sittingsSpanned_eq si sr opened, fun h => sittingsSpanned_le h si opened⟩⟩

end Sys2Proof.Machine
end

section
/-! The journal's own requests (R175, R176): the reply of JNL_READ and of JNL_ACK for each state of the ring, and that
a write of the journal leaves every other block as it was. -/

namespace Sys2Proof.Machine

/-! ## The answer of a journal request on a receiving console -/

theorem exec_jnlRead_received {s : State} (h : s.receives .console = true) : exec .jnlRead s =
    .next ((jnlReadReply s).st.post .console ⟨Code.jnlRead, (jnlReadReply s).code, (jnlReadReply s).fields⟩) :=
  serve_received .console Code.jnlRead jnlReadReply s h

theorem exec_jnlAck_received {s : State} (h : s.receives .console = true) (n : Nat) : exec (.jnlAck n) s =
    .next ((jnlAckReply n s).st.post .console ⟨Code.jnlAck, (jnlAckReply n s).code, (jnlAckReply n s).fields⟩) :=
  serve_received .console Code.jnlAck (jnlAckReply n) s h

/-! ## The replies -/

theorem jnlReadReply_of_empty {s : State} (h : s.journal.entries = []) :
    jnlReadReply s = ⟨s, .empty, [f2 0, f4 s.journal.next]⟩ := by
  simp only [jnlReadReply, h]

theorem jnlReadReply_of_oldest {s : State} {e : Entry} {rest : List Entry} (h : s.journal.entries = e :: rest) :
    jnlReadReply s = ⟨s, .done, fBytes e.bytes ++ [f2 (rest.length + 1), f4 s.journal.next]⟩ := by
  simp only [jnlReadReply, h, List.length_cons]

theorem jnlAckReply_of_empty {s : State} (h : s.journal.entries = []) (n : Nat) :
    jnlAckReply n s = ⟨s, .empty, []⟩ := by
  simp only [jnlAckReply, h]

theorem jnlAckReply_of_own_number {s : State} {e : Entry} {rest : List Entry} (h : s.journal.entries = e :: rest) :
    jnlAckReply e.seq s = ⟨s.setJournal ⟨rest, s.journal.next⟩, .done,
      [fOpt 4 (rest.head?.map Entry.seq), f2 rest.length]⟩ := by
  simp only [jnlAckReply, h, if_true]

theorem jnlAckReply_of_other_number {s : State} {e : Entry} {rest : List Entry} {n : Nat}
    (h : s.journal.entries = e :: rest) (hn : n ≠ e.seq) :
    jnlAckReply n s = ⟨s, .sequenceMismatch, [f4 e.seq, f2 (rest.length + 1)]⟩ := by
  simp only [jnlAckReply, h, if_neg hn.symm, List.length_cons]

theorem State.setJournal_onlyChanges (s : State) (x : Journal) : s.onlyChanges (s.setJournal x) [.journal] := by
  intro b hb
  cases b with
  | journal => exact absurd List.mem_cons_self hb
  | _ => rfl

/-- Settles O49: on a receiving console both requests give their reply, and the reply follows from the head of the ring
and, for JNL_ACK, from whether the number is the oldest entry's own. -/
theorem journalReadAndAcknowledge : Obligations.JournalReadAndAcknowledge := by
  intro s hs
  refine ⟨fun hempty => ⟨?readEmpty, fun n => ?ackEmpty⟩,
    fun e rest hold => ⟨?readOldest, ⟨s.setJournal ⟨rest, s.journal.next⟩, ?ackOwn,
      s.setJournal_onlyChanges _, rfl⟩, fun n hn => ?ackOther⟩⟩
  case readEmpty => rw [exec_jnlRead_received hs, jnlReadReply_of_empty hempty]
  case ackEmpty => rw [exec_jnlAck_received hs, jnlAckReply_of_empty hempty]
  case readOldest => rw [exec_jnlRead_received hs, jnlReadReply_of_oldest hold]; rfl
  case ackOwn => rw [exec_jnlAck_received hs, jnlAckReply_of_own_number hold]; rfl
  case ackOther => rw [exec_jnlAck_received hs, jnlAckReply_of_other_number hold hn]

end Sys2Proof.Machine
end

section
/-! Every request in one shape: the checks of its parameters and its own rule, tied to `exec` by `exec_request`. What
follows from this shape for all requests at once (R187, R188) settles O2, O5 and O6, and gives every statement about an
accepted request its start (`exec_accepted`). -/

namespace Sys2Proof

open Sys2Proof.Machine

/-! ## Checks and rule of each request -/

/-- The parameter checks of a request, in the order in which R187 counts them. -/
def Instr.checks (s : State) : Instr → List Bool
  | .chSet bank channel enabled lang quality fill =>
    [okBank bank, okChannel channel, okYesNo enabled, okLang lang, inRange 0 2 quality, okYesNo fill]
  | .boothSet bank booth present a b count c1 c2 c3 c4 desks =>
    [okBank bank, okBooth booth, okYesNo present, okOptChannel a, okOptChannel b,
      okPrefs count [c1, c2, c3, c4], inRange 1 s.desksPerBooth desks]
  | .bankClear bank | .bankCheck bank | .start bank | .switch bank => [okBank bank]
  | .bankCopy origin target => [okBank origin, okBank target && decide (origin ≠ target)]
  | .bankRead bank kind item =>
    [okBank bank, decide (kind = 0) || ((decide (kind = 1) || decide (kind = 2)) && inRange 1 31 item)]
  | .lineMode mode => [inRange 0 2 mode]
  | .channelRead channel => [okChannel channel]
  | .forceOff booth | .boothRead booth => [okBooth booth]
  | .floorLang code => [okLang code]
  | .sittingRead kind item => [decide (kind = 0) || (decide (kind = 1) && okBooth item)]
  | .rxQuery _ serial | .rxWithdraw serial | .repaired serial | .rxReturn serial | .lost serial | .found serial =>
    [okSerial serial]
  | .acctQuery _ account | .acctLimit account _ _ | .acctClose account => [okAccount account]
  | .flagsClear link n | .maskSet link n => [okBits link n]
  | .rxRegister serial cls | .rxRegisterNext serial cls => [okSerial serial, inRange 0 1 cls]
  | .rxWindow first last mode => [okSlot first, okSlot last && decide (first ≤ last), inRange 0 1 mode]
  | .rackReport serial result => [okSerial serial, inRange 0 1 result]
  | .acctOpen account kind _ _ => [okAccount account, inRange 0 1 kind]
  | .acctPay account amount => [okAccount account, inRange 0 Config.maxBalance amount]
  | .issue serial account preset deposit =>
    [okSerial serial, okAccount account, okLang preset, inRange 0 65535 deposit]
  | .rxPreset serial lang => [okSerial serial, okLang lang]
  | .micOn booth desk | .micOff booth desk | .coughOn booth desk | .coughOff booth desk | .signOff booth desk =>
    [okBooth booth, okDesk desk]
  | .output booth desk out => [okBooth booth, okDesk desk, inRange 0 1 out]
  | .signOn booth desk interpreter => [okBooth booth, okDesk desk, inRange 1 9999 interpreter]
  | .source booth desk mode channel =>
    [okBooth booth, okDesk desk, inRange 0 1 mode || (decide (mode = 2) && okChannel channel)]
  | .poll booth _ => [okBooth booth]
  | _ => []

/-- R63: the rule of a desk request behind its checks of the plan, the lamp joined to the answer. -/
def deskRule (b d : Nat) (rule : State → Claim) (s : State) : Reply :=
  withLamp b d (if !s.onAir then ⟨s, .notOnAir⟩ else if !s.deskInUse b d then ⟨s, .badDesk⟩ else rule s)

/-- The rule of a request whose parameters are in range: its effect and its answer. -/
def Instr.rule (i : Instr) (s : State) : Reply :=
  match i with
  | .chSet bank channel enabled lang quality fill =>
    editBank bank s { s.bank bank with
      status := .edited
      channels := Table.store {} (s.bank bank).channels channel (ChannelEntry.ofParams enabled lang quality fill) }
  | .boothSet bank booth present a b count c1 c2 c3 c4 desks =>
    editBank bank s { s.bank bank with
      status := .edited
      booths := Table.store (BoothEntry.cleared s.desksPerBooth) (s.bank bank).booths booth
        (BoothEntry.ofParams present a b ([c1, c2, c3, c4].take count) desks) }
  | .bankClear bank => editBank bank s {}
  | .bankCopy origin target => editBank target s (s.bank origin).copy
  | .bankCheck bank => bankCheckReply bank s
  | .bankRead bank kind item =>
    ⟨s, .done,
      if kind = 0 then headerFields s (s.bank bank)
      else if kind = 1 then channelFields (s.bank bank) item
      else boothFields (s.boothEntry (s.bank bank) item)⟩
  | .start bank => startReply bank s
  | .standby => standbyReply s
  | .switch bank => switchReply bank s
  | .announce => announceReply s
  | .announceEnd => announceEndReply s
  | .lineMode mode => ⟨s.setFramer { s.framer with lineMode := LineMode.ofPlace mode }, .done, []⟩
  | .framerRead => ⟨s, .done, framerFields s⟩
  | .handoverSet ramp offer =>
    ⟨s.setMixer { s.mixer with rampLength := clamp 0 50 ramp, offerTimeout := clamp 5 120 offer }, .done,
      [f1 (clamp 0 50 ramp), f1 (clamp 5 120 offer)]⟩
  | .channelRead channel => ⟨s, .done, channelReadFields s channel⟩
  | .forceOff booth => forceOffReply booth s
  | .liveReset => ⟨s.liveReset, .done, []⟩
  | .boothRead booth => ⟨s, .done, boothReadFields s booth⟩
  | .floorLang code => ⟨s.floorLanguage code, .done, []⟩
  | .relaySet hold => ⟨s.setRelay { s.relay with hold := clamp 0 30 hold }, .done, [f1 (clamp 0 30 hold)]⟩
  | .sittingOpen =>
    if s.meter.sitting.isOpen then ⟨s, .sittingOpen, []⟩
    else if !s.onAir then ⟨s, .notOnAir, []⟩
    else ⟨s.openSitting, .done, [f2 s.meter.opened.number, f4 s.meter.time]⟩
  | .sittingClose =>
    if s.meter.sitting.isOpen then ⟨s.closeSitting, .done, sittingFields s.closeSitting.meter.sitting⟩
    else ⟨s, .sittingClosed, []⟩
  | .returnGrace minutes =>
    ⟨s.setMeter { s.meter with graceSetting := clamp 0 240 minutes }, .done, [f2 (clamp 0 240 minutes)]⟩
  | .sittingRead kind item => ⟨s, .done, if kind = 0 then summaryFields s.meter else boothTotalFields s item⟩
  | .tariffSet grace unit rate cap fee loss deposit =>
    if 0 < s.hire.tally.total then ⟨s, .tariffInUse, []⟩
    else ⟨s.setHire { s.hire with tariff := Tariff.ofParams grace unit rate cap fee loss deposit }, .done,
      tariffFields (Tariff.ofParams grace unit rate cap fee loss deposit)⟩
  | .tallyRead => ⟨s, .done, tallyFields s.hire⟩
  | .jnlRead => jnlReadReply s
  | .jnlAck sequence => jnlAckReply sequence s
  | .rxQuery _ serial => queryReply serial s
  | .acctQuery _ account => acctQueryReply account s
  | .flagsRead link => ⟨s, .done, flagFields link (s.flags link)⟩
  | .flagsClear link selection => flagsClearReply link (BitVec.ofNat 16 selection) s
  | .maskSet link mask =>
    ⟨s.setFlags link { s.flags link with mask := BitVec.ofNat 16 mask }, .done, [f2 mask, f2 (s.flags link).states.toNat]⟩
  | .rxRegister serial cls => registerReply serial (RxClass.ofPlace cls) s
  | .rxRegisterNext serial cls => registerNextReply serial (RxClass.ofPlace cls) s
  | .rxWindow first last mode => ⟨s.setWindow (Window.ofParams first last mode), .done, []⟩
  | .rxReadNext => readNextReply s
  | .rxWithdraw serial => withdrawReply serial s
  | .repaired serial => repairedReply serial s
  | .rackReport serial result => rackReportReply serial (RackResult.ofPlace result) s
  | .acctOpen account kind limit credit =>
    acctOpenReply account (Account.opened (AccountKind.ofPlace kind) limit credit) s
  | .acctLimit account limit credit => acctLimitReply account limit credit s
  | .acctPay account amount => acctPayReply account amount s
  | .acctClose account => acctCloseReply account s
  | .issue serial account preset deposit => issueReply serial account preset deposit s
  | .rxPreset serial lang => presetReply serial lang s
  | .rxReturn serial => leaveReply serial .counter s
  | .lost serial => leaveReply serial .lost s
  | .found serial => foundReply serial s
  | .micOn booth desk => deskRule booth desk (fun s => (s.setRefused booth desk false).micOn booth desk) s
  | .micOff booth desk => deskRule booth desk (fun s => ⟨s.micOff booth desk, .done⟩) s
  | .output booth desk out => deskRule booth desk (fun s => s.changeOutput booth desk (Output.ofPlace out)) s
  | .coughOn booth desk => deskRule booth desk (fun s => s.setCough booth desk true) s
  | .coughOff booth desk => deskRule booth desk (fun s => s.setCough booth desk false) s
  | .signOn booth desk interpreter =>
    deskRule booth desk (fun s =>
      if s.idElsewhere booth desk interpreter then ⟨s, .idInUse⟩
      else ⟨s.setInterpreter booth desk (some interpreter), .done⟩) s
  | .signOff booth desk => deskRule booth desk (fun s => ⟨s.setInterpreter booth desk none, .done⟩) s
  | .source booth desk mode channel =>
    deskRule booth desk (fun s => s.changeSource booth (SourceMode.ofPlace mode channel)) s
  | .poll booth _ =>
    if !s.onAir then ⟨s, .notOnAir, []⟩
    else if (s.planBooth booth).isNone then ⟨s, .badDesk, []⟩
    else ⟨s, .done, pollFields s booth⟩
  | _ => ⟨s, .done, []⟩

end Sys2Proof

namespace Sys2Proof.Machine

open Sys2Proof

/-- Every request is served on its own link under its own code: its checks, then its rule (R187). -/
theorem exec_request {i : Instr} {r : Request} (h : i.request = some r) (s : State) :
    exec i s = serve r.link r.code (fun u => checked (i.checks u) u (i.rule u)) s := by
  cases i <;> cases h
  case rxQuery l _ => cases l <;> rfl
  case acctQuery l _ => cases l <;> rfl
  case flagsRead l => cases l <;> rfl
  case flagsClear l _ => cases l <;> rfl
  case maskSet l _ => cases l <;> rfl
  all_goals rfl

/-! ## The checks say what the ranges say -/

theorem inRange_iff (low high n : Nat) : inRange low high n = true ↔ low ≤ n ∧ n ≤ high := by
  simp [inRange]

theorem okPrefs_iff (count : Nat) (codes : List Nat) : okPrefs count codes = true ↔
    count ≤ 4 ∧ (∀ c ∈ codes.take count, 1 ≤ c ∧ c ≤ 999) ∧ (codes.take count).Nodup := by
  simp [okPrefs, inRange_iff, and_assoc]

/-- Each check of a request is the range that its rule gives the parameter. -/
theorem checks_iff_ranges (s : State) (i : Instr) :
    List.Forall₂ (fun ok q => ok = true ↔ q) (i.checks s) (Instr.paramsInRange s i) := by
  cases i
  case flagsClear l n => cases l <;> simp [Instr.checks, Instr.paramsInRange, okBits, inRange_iff, MasterLink.assigned]
  case maskSet l n => cases l <;> simp [Instr.checks, Instr.paramsInRange, okBits, inRange_iff, MasterLink.assigned]
  case sittingRead => simp [Instr.checks, Instr.paramsInRange, okBooth, inRange_iff]
  case bankRead => simp [Instr.checks, Instr.paramsInRange, okBank, inRange_iff]
  case source => simp [Instr.checks, Instr.paramsInRange, okBooth, okDesk, okChannel, inRange_iff]
  case boothSet =>
    simp [Instr.checks, Instr.paramsInRange, okBank, okBooth, okYesNo, okOptChannel, inRange_iff, okPrefs_iff]
  all_goals simp [Instr.checks, Instr.paramsInRange, okBank, okBooth, okYesNo, okDesk, okChannel, okLang, okSerial,
    okAccount, okSlot, inRange_iff, Config.maxBalance]

/-- Where every parameter is in range, no check finds one out of range. -/
theorem firstBad_checks_of_ranges {s : State} {i : Instr} (h : ∀ q ∈ Instr.paramsInRange s i, q) :
    firstBad (i.checks s) 1 = none := by
  have hall := checks_iff_ranges s i
  rw [firstBad_none_iff]
  generalize i.checks s = oks at hall
  generalize Instr.paramsInRange s i = qs at hall h
  induction hall with
  | nil => simp
  | cons hok _ ih =>
    intro ok hmem
    rcases List.mem_cons.mp hmem with rfl | hmem
    · exact hok.mpr (h _ List.mem_cons_self)
    · exact ih (fun q hq => h q (List.mem_cons_of_mem _ hq)) ok hmem

/-- The first check that fails is reported by its place. -/
theorem firstBad_of_forall₂ {oks : List Bool} {qs : List Prop} (hall : List.Forall₂ (fun ok q => ok = true ↔ q) oks qs)
    {p : Nat} {q : Prop} (n : Nat) (hp : qs[p]? = some q) (hq : ¬ q)
    (hbefore : ∀ (j : Nat) (q' : Prop), j < p → qs[j]? = some q' → q') : firstBad oks n = some (n + p) := by
  induction hall generalizing p n with
  | nil => simp at hp
  | @cons ok q₀ oks qs hok _ ih =>
    cases p with
    | zero =>
      obtain rfl : q₀ = q := by simpa using hp
      have : ok = false := by simpa using (not_congr hok).mpr hq
      simp [firstBad, this]
    | succ p =>
      have hok' : ok = true := hok.mpr (hbefore 0 q₀ (Nat.succ_pos p) rfl)
      simp only [firstBad, hok', if_true]
      rw [ih (n + 1) (by simpa using hp) fun j q' hj hq' => hbefore (j + 1) q' (by omega) (by simpa using hq')]
      congr 1
      omega

/-! ## Accepted and refused requests -/

/-- A request that its link receives and whose parameters are in range is answered by its rule. -/
theorem exec_accepted {i : Instr} {r : Request} {s : State} (hr : i.request = some r) (h : s.accepts i) :
    exec i s = .next ((i.rule s).st.post r.link ⟨r.code, (i.rule s).code, (i.rule s).fields⟩) := by
  rw [exec_request hr, serve_received _ _ _ _ (h.1 r hr), checked_ok _ _ _ (firstBad_checks_of_ranges h.2)]

/-- A request without parameters to check needs only be received. -/
theorem accepts_of_receives {i : Instr} {r : Request} {s : State} (hr : i.request = some r)
    (hrec : s.receives r.link = true) (hq : Instr.paramsInRange s i = []) : s.accepts i := by
  refine ⟨fun r' hr' => ?_, by simp [hq]⟩
  obtain rfl : r = r' := by simpa [hr] using hr'
  exact hrec

theorem exec_not_received {i : Instr} {r : Request} {s : State} (hr : i.request = some r)
    (h : s.receives r.link = false) : exec i s = .next s := by
  rw [exec_request hr]
  simp [serve, h]

theorem exec_received {i : Instr} {r : Request} {s : State} (hr : i.request = some r) (h : s.receives r.link = true) :
    ∃ u code fields, exec i s = .next (u.post r.link ⟨r.code, code, fields⟩) ∧
      (u = s ∨ u = (i.rule s).st ∧ firstBad (i.checks s) 1 = none) := by
  rw [exec_request hr, serve_received _ _ _ _ h]
  cases hb : firstBad (i.checks s) 1 with
  | some p => exact ⟨s, _, _, by rw [checked_bad _ _ _ _ hb], .inl rfl⟩
  | none => exact ⟨_, _, _, by rw [checked_ok _ _ _ hb], .inr ⟨rfl, rfl⟩⟩

/-- A body that LNK turns away is answered with the code that its check gives. -/
theorem exec_unknownRequest_of_turnsAway {l : Link} {code : Nat} {params : List Byte} {answer : AnswerCode} {s : State}
    (hrec : s.receives l = true) (h : l.turnsAway code params.length = some answer) :
    exec (.unknownRequest l code params) s = .next (s.post l ⟨code, answer, []⟩) := by
  show execUnknownRequest l code params s = _
  simp only [execUnknownRequest, h]
  exact serve_received l code _ s hrec

/-- Settles O6: checks 2 and 3 by `Link.turnsAway`; check 4 by `firstBad_of_forall₂`, since the checks are the ranges. -/
theorem badRequestsChangeNothing : Obligations.BadRequestsChangeNothing := by
  refine ⟨fun l code params s hrec => ⟨fun htakes => ?_, fun htakes hlen => ?_⟩,
    fun i r s p q hr hrec hp hq hbefore => ?_⟩
  · exact exec_unknownRequest_of_turnsAway hrec (by simp [Link.turnsAway, htakes])
  · exact exec_unknownRequest_of_turnsAway hrec (by simp [Link.turnsAway, htakes, hlen])
  · have hbad := firstBad_of_forall₂ (checks_iff_ranges s i) 1 hp hq hbefore
    rw [exec_request hr, serve_received _ _ _ _ hrec, checked_bad _ _ _ _ hbad, Nat.add_comm 1 p]

end Sys2Proof.Machine
end

section
/-! The records after each shared operation. First what a reading of the state depends on; then, operation by operation,
what the booths', channels' and carriage records, the producers and the turns are after it, and that no operation of a
block changes what is on the links' wires. -/

namespace Sys2Proof.Machine

/-! ## What each reading depends on -/

theorem State.bank_congr {s t : State} (h : t.banks = s.banks) : t.bank = s.bank := by
  funext k
  simp only [State.bank, h]

theorem State.onAirBank_congr {s t : State} (h : t.banks = s.banks) : t.onAirBank = s.onAirBank := by
  simp only [State.onAirBank, State.bank_congr h]

theorem State.plan_congr {s t : State} (h : t.banks = s.banks) : t.plan = s.plan := by
  simp only [State.plan, State.onAirBank_congr h, State.bank_congr h]

theorem State.boothEntry_congr {s t : State} (h : t.straps = s.straps) (p : Bank) (b : Nat) :
    t.boothEntry p b = s.boothEntry p b := by
  simp only [State.boothEntry, State.desksPerBooth, h]

theorem State.planBooth_congr {s t : State} (hs : t.straps = s.straps) (hb : t.banks = s.banks) (b : Nat) :
    t.planBooth b = s.planBooth b := by
  simp only [State.planBooth, State.plan_congr hb, State.boothEntry_congr hs]

theorem State.planChannel_congr {s t : State} (hs : t.straps = s.straps) (hb : t.banks = s.banks) (b : Nat)
    (x : Output) : t.planChannel b x = s.planChannel b x := by
  simp only [State.planChannel, State.planBooth_congr hs hb]

theorem State.planEntry_congr {s t : State} (h : t.banks = s.banks) (c : Nat) : t.planEntry c = s.planEntry c := by
  simp only [State.planEntry, State.plan_congr h]

theorem State.enabled_congr {s t : State} (h : t.banks = s.banks) (c : Nat) : t.enabled c = s.enabled c := by
  simp only [State.enabled, State.planEntry_congr h]

theorem State.planPlace_congr {s t : State} (h : t.banks = s.banks) (c : Nat) : t.planPlace c = s.planPlace c := by
  simp only [State.planPlace, State.plan_congr h]

theorem State.carriedQuality_congr {s t : State} (h : t.banks = s.banks) (c : Nat) :
    t.carriedQuality c = s.carriedQuality c := by
  simp only [State.carriedQuality, State.planPlace_congr h]

theorem State.deskInUse_congr {s t : State} (hs : t.straps = s.straps) (hb : t.banks = s.banks) (b d : Nat) :
    t.deskInUse b d = s.deskInUse b d := by
  simp only [State.deskInUse, State.planBooth_congr hs hb]

theorem State.onAir_congr {s t : State} (h : t.framer = s.framer) : t.onAir = s.onAir := by
  simp only [State.onAir, h]

theorem State.onAir_iff (s : State) : s.onAir = true ↔ s.framer.state = .onAir := by simp [State.onAir]

theorem State.booth_congr {s t : State} (h : t.bdc = s.bdc) (b : Nat) : t.booth b = s.booth b := by
  simp only [State.booth, h]

theorem State.chan_congr {s t : State} (h : t.bdc = s.bdc) (c : Nat) : t.chan c = s.chan c := by
  simp only [State.chan, h]

theorem State.desk_congr {s t : State} (h : t.bdc = s.bdc) (b d : Nat) : t.desk b d = s.desk b d := by
  simp only [State.desk, h]

theorem State.carriage_congr {s t : State} (h : t.mixer = s.mixer) (c : Nat) : t.carriage c = s.carriage c := by
  simp only [State.carriage, h]

theorem State.feedSource_congr {s t : State} (h : t.mixer = s.mixer) (c : Nat) : t.feedSource c = s.feedSource c := by
  simp only [State.feedSource, h]

theorem State.relayRec_congr {s t : State} (h : t.relay = s.relay) (c : Nat) : t.relayRec c = s.relayRec c := by
  simp only [State.relayRec, h]

theorem State.producer_congr {s t : State} (h : t.relay = s.relay) (c : Nat) : t.producer c = s.producer c := by
  simp only [State.producer, h]

theorem State.turn_congr {s t : State} (h : t.meter = s.meter) (b : Nat) : t.turn b = s.turn b := by
  simp only [State.turn, h]

theorem State.totals_congr {s t : State} (h : t.meter = s.meter) (b : Nat) : t.totals b = s.totals b := by
  simp only [State.totals, h]

/-- What a frame says, block by block. -/
theorem State.onlyChanges_iff (s t : State) (bs : List Block) : s.onlyChanges t bs ↔
    (.straps ∉ bs → t.straps = s.straps) ∧ (.banks ∉ bs → t.banks = s.banks) ∧ (.framer ∉ bs → t.framer = s.framer) ∧
    (.mixer ∉ bs → t.mixer = s.mixer) ∧ (.bdc ∉ bs → t.bdc = s.bdc) ∧ (.relay ∉ bs → t.relay = s.relay) ∧
    (.meter ∉ bs → t.meter = s.meter) ∧ (.register ∉ bs → t.register = s.register) ∧ (.hire ∉ bs → t.hire = s.hire) ∧
    (.journal ∉ bs → t.journal = s.journal) ∧ (.links ∉ bs → t.links = s.links) ∧
    (.held ∉ bs → t.resetHeld = s.resetHeld) ∧ (.free ∉ bs → t.freeIndex = s.freeIndex) ∧
    (.pending ∉ bs → t.pending = s.pending) ∧ (.arriving ∉ bs → t.arriving = s.arriving) := by
  constructor
  · intro h
    exact ⟨h _, h _, h _, h _, h _, h _, h _, h _, h _, h _, h _, h _, h _, h _, h _⟩
  · rintro ⟨h1, h2, h3, h4, h5, h6, h7, h8, h9, h10, h11, h12, h13, h14, h15⟩ x hx
    cases x
    exacts [h1 hx, h2 hx, h3 hx, h4 hx, h5 hx, h6 hx, h7 hx, h8 hx, h9 hx, h10 hx, h11 hx, h12 hx, h13 hx, h14 hx,
      h15 hx]

/-! ## Numbers -/

theorem mem_channelNumbers (c : Nat) : c ∈ Config.channelNumbers ↔ 1 ≤ c ∧ c ≤ 31 := by
  simp only [Config.channelNumbers, List.mem_range'_1]
  omega

theorem mem_boothNumbers (b : Nat) : b ∈ Config.boothNumbers ↔ 1 ≤ b ∧ b ≤ 31 := by
  simp only [Config.boothNumbers, List.mem_range'_1]
  omega

theorem mem_bankNumbers (k : Nat) : k ∈ Config.bankNumbers ↔ k ≤ 3 := by
  simp only [Config.bankNumbers, List.mem_cons, List.not_mem_nil, or_false]
  omega

theorem boothNumbers_nodup : Config.boothNumbers.Nodup := List.nodup_range'

theorem channelNumbers_nodup : Config.channelNumbers.Nodup := List.nodup_range'

/-! ## The links' wires: what is neither a flag nor a mask -/

/-- The links' frames, answers and receivers. -/
def Links.wire (x : Links) : ConsoleLink × UartState × UartState := (x.console, x.counter, x.desk)

theorem State.sameLinks_iff_wire (s t : State) : s.sameLinks t ↔ t.links.wire = s.links.wire := by
  simp [State.sameLinks, Links.wire]

@[simp] theorem State.setFlags_wire (s : State) (l : MasterLink) (f : FlagSet) : (s.setFlags l f).links.wire = s.links.wire := by
  cases l <;> rfl
@[simp] theorem State.raise_wire (s : State) (f : ConsoleFlag) (n : Nat) : (s.raise f n).links.wire = s.links.wire := rfl
@[simp] theorem State.raiseCounter_wire (s : State) (f : CounterFlag) (n : Nat) :
    (s.raiseCounter f n).links.wire = s.links.wire := rfl
@[simp] theorem State.raiseLevel_wire (s : State) : s.raiseLevel.links.wire = s.links.wire := by
  unfold State.raiseLevel; (repeat' split) <;> simp
@[simp] theorem State.writeEntry_wire (s : State) (b : EntryBody) : (s.writeEntry b).links.wire = s.links.wire := by
  simp [State.writeEntry]
@[simp] theorem State.handOver_wire (s : State) (b : EntryBody) : (s.handOver b).links.wire = s.links.wire := by
  unfold State.handOver; split <;> simp
@[simp] theorem State.endTurn_wire (s : State) (b : Nat) (t : Turn) (r : Reason) : (s.endTurn b t r).links.wire = s.links.wire := by
  unfold State.endTurn; split <;> simp
@[simp] theorem State.closeTurn_wire (s : State) (b : Nat) (r : Reason) : (s.closeTurn b r).links.wire = s.links.wire := by
  unfold State.closeTurn; split <;> simp
@[simp] theorem State.closeTurns_wire (s : State) (r : Reason) : (s.closeTurns r).links.wire = s.links.wire := by
  unfold State.closeTurns; exact foldl_keeps _ (fun t => t.links.wire) (by simp) _ _
@[simp] theorem State.sweep_wire (s : State) : s.sweep.links.wire = s.links.wire := by
  simp [State.sweep]
@[simp] theorem State.startGrace_wire (s : State) : s.startGrace.links.wire = s.links.wire := by
  unfold State.startGrace; split <;> simp
@[simp] theorem State.closeSitting_wire (s : State) : s.closeSitting.links.wire = s.links.wire := by
  simp [State.closeSitting, State.handSitting]
@[simp] theorem State.resolve_wire (s : State) : s.resolve.links.wire = s.links.wire := by
  unfold State.resolve; split <;> simp
@[simp] theorem State.productionStart_wire (s : State) (c p : Nat) : (s.productionStart c p).links.wire = s.links.wire := by
  unfold State.productionStart; split <;> simp
@[simp] theorem State.productionStop_wire (s : State) (c : Nat) : (s.productionStop c).links.wire = s.links.wire := by
  unfold State.productionStop; split <;> simp
@[simp] theorem State.setSource_wire (s : State) (b : Nat) (m : SourceMode) : (s.setSource b m).links.wire = s.links.wire := by
  simp [State.setSource]
@[simp] theorem State.holdExpired_wire (s : State) (b : Nat) : (s.holdExpired b).links.wire = s.links.wire := by
  simp [State.holdExpired]
@[simp] theorem State.floorLanguage_wire (s : State) (c : Nat) : (s.floorLanguage c).links.wire = s.links.wire := by
  unfold State.floorLanguage; split <;> simp [State.endAllHolds]
@[simp] theorem State.grant_wire (s : State) (b d c : Nat) : (s.grant b d c).links.wire = s.links.wire := by
  simp [State.grant]
@[simp] theorem State.release_wire (s : State) (b c : Nat) (r : Reason) : (s.release b c r).links.wire = s.links.wire := by
  simp [State.release]
@[simp] theorem State.passQueue_wire (s : State) (c : Nat) : (s.passQueue c).links.wire = s.links.wire := by
  unfold State.passQueue; split <;> simp
@[simp] theorem State.handover_wire (s : State) (b d e c : Nat) : (s.handover b d e c).links.wire = s.links.wire := by
  simp [State.handover]
@[simp] theorem State.reportCarry_wire (s : State) (x : Carry) : (s.reportCarry x).links.wire = s.links.wire := by
  unfold State.reportCarry; (repeat' split) <;> simp
@[simp] theorem State.carryOver_wire (s : State) : s.carryOver.links.wire = s.links.wire := by
  unfold State.carryOver; simp only []; rw [foldl_keeps _ (fun t => t.links.wire) (by simp)]; simp
@[simp] theorem State.markOrphans_wire (s : State) : s.markOrphans.links.wire = s.links.wire := by
  simp [State.markOrphans]
@[simp] theorem State.planTaken_wire (s : State) : s.planTaken.links.wire = s.links.wire := by
  simp [State.planTaken, State.endAllHolds]
@[simp] theorem State.releaseBooth_wire (s : State) (b : Nat) : (s.releaseBooth b).links.wire = s.links.wire := by
  unfold State.releaseBooth; split <;> simp
@[simp] theorem State.liveReset_wire (s : State) : s.liveReset.links.wire = s.links.wire := by
  unfold State.liveReset; rw [foldl_keeps _ (fun t => t.links.wire) (by simp)]; simp
@[simp] theorem State.stop_wire (s : State) : s.stop.links.wire = s.links.wire := by simp [State.stop]
@[simp] theorem State.abandonStart_wire (s : State) : s.abandonStart.links.wire = s.links.wire := by
  simp [State.abandonStart]
@[simp] theorem State.takeSwitch_wire (s : State) (k : Nat) : (s.takeSwitch k).links.wire = s.links.wire := by
  simp [State.takeSwitch]
@[simp] theorem State.boundary_wire (s : State) : s.boundary.links.wire = s.links.wire := by
  unfold State.boundary State.nextFrame; split <;> simp
@[simp] theorem State.endSettle_wire (s : State) : s.endSettle.links.wire = s.links.wire := by simp [State.endSettle]
@[simp] theorem State.announce_wire (s : State) : s.announce.links.wire = s.links.wire := by simp [State.announce]
@[simp] theorem State.tickGrace_wire (s : State) : s.tickGrace.links.wire = s.links.wire := by
  rcases s.tickGrace_cases with ⟨-, h⟩ | ⟨-, h⟩ <;> rw [h] <;> simp
@[simp] theorem State.leaveHire_wire (s : State) (k : Nat) (r : Receiver) (h : HireFields) (w : Leaving) :
    (s.leaveHire k r h w).links.wire = s.links.wire := by
  simp [State.leaveHire, State.setTally]

/-! ## Storing twice -/

/-- A record stored over itself is the later one. -/
theorem Table.remove_insert {α : Type} (t : Table α) (k : Nat) (v : α) :
    Table.remove (Table.insert t k v) k = Table.remove t k := by
  have hplace (u : Table α) : Table.remove (Table.place u k v) k = Table.remove u k := by
    induction u with
    | nil => simp [Table.place, Table.remove]
    | cons e u ih =>
      obtain ⟨a, w⟩ := e
      simp only [Table.place]
      split
      · simp [Table.remove]
      · simp only [Table.remove, List.filter_cons] at ih ⊢
        split <;> simp [ih]
  simp only [Table.insert, hplace]
  simp [Table.remove]

end Sys2Proof.Machine
end

section
/-! The records after the operations of the live microphones (R64 to R75): booths, channels, desks, carriage records,
producers and turns after a grant, a release, a handover and a queue passed on. -/

namespace Sys2Proof.Machine

/-! ## Resolutions and reports of production -/

@[simp] theorem State.resolve_carriages (s : State) : s.resolve.mixer.carriage = s.mixer.carriage := by
  unfold State.resolve; split <;> simp [State.placeBooths]
@[simp] theorem State.resolve_feeds (s : State) : s.resolve.mixer.feeds = s.mixer.feeds := by
  unfold State.resolve; split <;> simp [State.placeBooths]
@[simp] theorem State.resolve_rampLength (s : State) : s.resolve.mixer.rampLength = s.mixer.rampLength := by
  unfold State.resolve; split <;> simp [State.placeBooths]
@[simp] theorem State.resolve_offerTimeout (s : State) : s.resolve.mixer.offerTimeout = s.mixer.offerTimeout := by
  unfold State.resolve; split <;> simp [State.placeBooths]
@[simp] theorem State.resolve_producers (s : State) : s.resolve.relay.producers = s.relay.producers := by
  unfold State.resolve; split <;> simp [State.placeBooths]
@[simp] theorem State.resolve_floorLang (s : State) : s.resolve.relay.floorLang = s.relay.floorLang := by
  unfold State.resolve; split <;> simp [State.placeBooths]
@[simp] theorem State.resolve_hold (s : State) : s.resolve.relay.hold = s.relay.hold := by
  unfold State.resolve; split <;> simp [State.placeBooths]

@[simp] theorem State.productionStart_carriages (s : State) (c p : Nat) :
    (s.productionStart c p).mixer.carriage = s.mixer.carriage := by
  unfold State.productionStart; split <;> simp
@[simp] theorem State.productionStart_feeds (s : State) (c p : Nat) :
    (s.productionStart c p).mixer.feeds = s.mixer.feeds := by
  unfold State.productionStart; split <;> simp
@[simp] theorem State.productionStart_rampLength (s : State) (c p : Nat) :
    (s.productionStart c p).mixer.rampLength = s.mixer.rampLength := by
  unfold State.productionStart; split <;> simp
@[simp] theorem State.productionStart_offerTimeout (s : State) (c p : Nat) :
    (s.productionStart c p).mixer.offerTimeout = s.mixer.offerTimeout := by
  unfold State.productionStart; split <;> simp
@[simp] theorem State.productionStart_producers (s : State) (c p : Nat) :
    (s.productionStart c p).relay.producers = Table.insert s.relay.producers c p := by
  unfold State.productionStart; split <;> simp [State.endHolds, State.setProducer]

@[simp] theorem State.productionStop_carriages (s : State) (c : Nat) :
    (s.productionStop c).mixer.carriage = s.mixer.carriage := by
  unfold State.productionStop; split <;> simp
@[simp] theorem State.productionStop_feeds (s : State) (c : Nat) :
    (s.productionStop c).mixer.feeds = s.mixer.feeds := by
  unfold State.productionStop; split <;> simp
@[simp] theorem State.productionStop_rampLength (s : State) (c : Nat) :
    (s.productionStop c).mixer.rampLength = s.mixer.rampLength := by
  unfold State.productionStop; split <;> simp
@[simp] theorem State.productionStop_offerTimeout (s : State) (c : Nat) :
    (s.productionStop c).mixer.offerTimeout = s.mixer.offerTimeout := by
  unfold State.productionStop; split <;> simp
@[simp] theorem State.productionStop_producers (s : State) (c : Nat) :
    (s.productionStop c).relay.producers = Table.remove s.relay.producers c := by
  unfold State.productionStop; split <;> simp [State.beginHolds, State.clearProducer]

/-! ## Turns -/

theorem State.openTurn_turn (s : State) (b d c x : Nat) :
    (s.openTurn b d c).turn x =
      if x = b ∧ s.meter.sitting.isOpen = true then
        some { desk := d, interpreter := (s.desk b d).interpreter, channel := c, quality := s.carriedQuality c,
               start := s.meter.time }
      else s.turn x := by
  unfold State.openTurn
  split
  · rename_i h
    rw [State.turn_setTurn]
    simp [h]
  · rename_i h
    simp [h]

@[simp] theorem State.openTurn_sitting (s : State) (b d c : Nat) :
    (s.openTurn b d c).meter.sitting = s.meter.sitting := by
  unfold State.openTurn; split <;> rfl

@[simp] theorem State.openTurn_totals (s : State) (b d c : Nat) :
    (s.openTurn b d c).meter.totals = s.meter.totals := by
  unfold State.openTurn; split <;> rfl

@[simp] theorem State.openTurn_time (s : State) (b d c : Nat) : (s.openTurn b d c).meter.time = s.meter.time := by
  unfold State.openTurn; split <;> rfl

@[simp] theorem State.openTurn_graceSetting (s : State) (b d c : Nat) :
    (s.openTurn b d c).meter.graceSetting = s.meter.graceSetting := by
  unfold State.openTurn; split <;> rfl

@[simp] theorem State.openTurn_graceTimer (s : State) (b d c : Nat) :
    (s.openTurn b d c).meter.graceTimer = s.meter.graceTimer := by
  unfold State.openTurn; split <;> rfl

theorem State.endTurn_turn (s : State) (b : Nat) (t : Turn) (r : Reason) (x : Nat) :
    (s.endTurn b t r).turn x = if x = b then none else s.turn x := by
  have h : (s.retireTurn b).turn x = if x = b then none else s.turn x := State.turn_clearTurn _ b x
  unfold State.endTurn
  split <;> rw [← h] <;> simp [State.turn, State.foldTurn, State.setSitting, State.setTotals]

/-- A turn closed leaves its booth's place empty and the others as they were. -/
theorem State.closeTurn_turn (s : State) (b : Nat) (r : Reason) (x : Nat) :
    (s.closeTurn b r).turn x = if x = b then none else s.turn x := by
  unfold State.closeTurn
  split
  · rename_i h
    split
    · rename_i hx
      rw [hx, h]
    · rfl
  · exact State.endTurn_turn s b _ r x

@[simp] theorem State.closeTurn_time (s : State) (b : Nat) (r : Reason) :
    (s.closeTurn b r).meter.time = s.meter.time := by
  unfold State.closeTurn State.endTurn
  (repeat' split) <;> simp [State.foldTurn, State.setSitting, State.setTotals, State.retireTurn, State.clearTurn]

@[simp] theorem State.closeTurn_graceSetting (s : State) (b : Nat) (r : Reason) :
    (s.closeTurn b r).meter.graceSetting = s.meter.graceSetting := by
  unfold State.closeTurn State.endTurn
  (repeat' split) <;> simp [State.foldTurn, State.setSitting, State.setTotals, State.retireTurn, State.clearTurn]

@[simp] theorem State.closeTurn_graceTimer (s : State) (b : Nat) (r : Reason) :
    (s.closeTurn b r).meter.graceTimer = s.meter.graceTimer := by
  unfold State.closeTurn State.endTurn
  (repeat' split) <;> simp [State.foldTurn, State.setSitting, State.setTotals, State.retireTurn, State.clearTurn]

@[simp] theorem State.closeTurn_isOpen (s : State) (b : Nat) (r : Reason) :
    (s.closeTurn b r).meter.sitting.isOpen = s.meter.sitting.isOpen := by
  unfold State.closeTurn State.endTurn
  (repeat' split) <;>
    simp [State.foldTurn, State.setSitting, State.setTotals, State.retireTurn, State.clearTurn, Sitting.countTurn]

@[simp] theorem State.closeTurn_number (s : State) (b : Nat) (r : Reason) :
    (s.closeTurn b r).meter.sitting.number = s.meter.sitting.number := by
  unfold State.closeTurn State.endTurn
  (repeat' split) <;>
    simp [State.foldTurn, State.setSitting, State.setTotals, State.retireTurn, State.clearTurn, Sitting.countTurn]

/-! ## Grants -/

@[simp] theorem State.setLive_desks (s : State) (b d c : Nat) : (s.setLive b d c).bdc.desks = s.bdc.desks := rfl

theorem State.setLive_booth (s : State) (b d c x : Nat) :
    (s.setLive b d c).booth x = if x = b then { s.booth b with live := some (d, c) } else s.booth x := by
  unfold State.setLive
  rw [State.booth_setBooth]
  split <;> rfl

theorem State.setLive_chan (s : State) (b d c x : Nat) :
    (s.setLive b d c).chan x = if x = c then { s.chan c with holder := some ⟨b, d⟩ } else s.chan x := by
  unfold State.setLive
  rw [State.chan_setBooth, State.chan_setChan]

@[simp] theorem State.grantRecords_desks (s : State) (b d c : Nat) :
    (s.grantRecords b d c).bdc.desks = s.bdc.desks := rfl

/-- R66: the channel records of a grant: the holder, and the booth's entries gone from the queues. -/
theorem State.grantRecords_chan (s : State) (b d c x : Nat) :
    (s.grantRecords b d c).chan x =
      if x ∈ Config.channelNumbers then
        { holder := if x = c then some ⟨b, d⟩ else (s.chan x).holder
          queue := (s.chan x).queue.filter fun e => e.booth != b }
      else if x = c then { s.chan c with holder := some ⟨b, d⟩ } else s.chan x := by
  unfold State.grantRecords
  rw [State.chan_setBooth, State.leaveQueues_chan, State.setLive_chan]
  by_cases hx : x = c
  · subst hx
    simp
  · simp [hx]

theorem State.grant_booth (s : State) (b d c x : Nat) :
    (s.grant b d c).booth x =
      if x = b then { s.booth b with live := some (d, c), pending := none } else s.booth x := by
  rw [State.booth_congr (s.grant_bdc b d c), State.grantRecords_booth]

theorem State.grant_chan (s : State) (b d c x : Nat) :
    (s.grant b d c).chan x =
      if x ∈ Config.channelNumbers then
        { holder := if x = c then some ⟨b, d⟩ else (s.chan x).holder
          queue := (s.chan x).queue.filter fun e => e.booth != b }
      else if x = c then { s.chan c with holder := some ⟨b, d⟩ } else s.chan x := by
  rw [State.chan_congr (s.grant_bdc b d c), State.grantRecords_chan]

@[simp] theorem State.grant_desks (s : State) (b d c : Nat) : (s.grant b d c).bdc.desks = s.bdc.desks := by
  rw [State.grant_bdc, State.grantRecords_desks]

@[simp] theorem State.grant_desk (s : State) (b d c x y : Nat) : (s.grant b d c).desk x y = s.desk x y := by
  simp [State.desk]

theorem State.grant_carriage (s : State) (b d c x : Nat) :
    (s.grant b d c).carriage x = if x = c then { live := some ⟨b, d⟩, ramp := none } else s.carriage x := by
  have h : (s.grant b d c).carriage x = ((s.grantRecords b d c).mixGrant c ⟨b, d⟩).carriage x := by
    simp [State.grant, State.carriage]
  rw [h, State.mixGrant, State.carriage_setCarriage]
  split
  · rfl
  · exact State.carriage_congr (by simp) x

@[simp] theorem State.grant_feeds (s : State) (b d c : Nat) : (s.grant b d c).mixer.feeds = s.mixer.feeds := by
  simp [State.grant, State.mixGrant, State.setCarriage]
@[simp] theorem State.grant_rampLength (s : State) (b d c : Nat) :
    (s.grant b d c).mixer.rampLength = s.mixer.rampLength := by
  simp [State.grant, State.mixGrant, State.setCarriage]
@[simp] theorem State.grant_offerTimeout (s : State) (b d c : Nat) :
    (s.grant b d c).mixer.offerTimeout = s.mixer.offerTimeout := by
  simp [State.grant, State.mixGrant, State.setCarriage]

theorem State.grant_producer (s : State) (b d c x : Nat) :
    (s.grant b d c).producer x = if x = c then some b else s.producer x := by
  simp [State.grant, State.producer, Table.fetch?_insert]

theorem State.grant_meter (s : State) (b d c : Nat) : (s.grant b d c).meter = (s.openTurn b d c).meter := by
  unfold State.grant
  rw [State.productionStart_meter]
  have hd : (s.grantRecords b d c).desk b d = s.desk b d := rfl
  unfold State.openTurn
  split
  · rename_i h
    simp only [State.mixGrant_meter, State.grantRecords_meter] at h
    simp only [State.setTurn, State.setMeter_meter, h, if_true, State.mixGrant_meter, State.grantRecords_meter]
    rw [State.carriedQuality_congr (t := (s.grantRecords b d c).mixGrant c ⟨b, d⟩) (s := s) (by simp),
      State.desk_congr (t := (s.grantRecords b d c).mixGrant c ⟨b, d⟩) (s := s.grantRecords b d c) (by simp), hd]
  · rename_i h
    simp only [State.mixGrant_meter, State.grantRecords_meter] at h ⊢
    simp [h]

theorem State.grant_turn (s : State) (b d c x : Nat) :
    (s.grant b d c).turn x = (s.openTurn b d c).turn x := State.turn_congr (s.grant_meter b d c) x

/-! ## Releases -/

@[simp] theorem State.clearLive_desks (s : State) (b c : Nat) : (s.clearLive b c).bdc.desks = s.bdc.desks := rfl

theorem State.release_booth (s : State) (b c : Nat) (r : Reason) (x : Nat) :
    (s.release b c r).booth x = if x = b then { s.booth b with live := none } else s.booth x := by
  rw [State.booth_congr (s.release_bdc b c r), State.clearLive_booth]

theorem State.release_chan (s : State) (b c : Nat) (r : Reason) (x : Nat) :
    (s.release b c r).chan x = if x = c then { s.chan c with holder := none } else s.chan x := by
  rw [State.chan_congr (s.release_bdc b c r), State.clearLive_chan]

@[simp] theorem State.release_desks (s : State) (b c : Nat) (r : Reason) :
    (s.release b c r).bdc.desks = s.bdc.desks := by
  rw [State.release_bdc, State.clearLive_desks]

@[simp] theorem State.release_desk (s : State) (b c : Nat) (r : Reason) (x y : Nat) :
    (s.release b c r).desk x y = s.desk x y := by
  simp [State.desk]

theorem State.release_carriage (s : State) (b c : Nat) (r : Reason) (x : Nat) :
    (s.release b c r).carriage x = if x = c then {} else s.carriage x := by
  have h : (s.release b c r).carriage x = ((s.clearLive b c).mixRelease c).carriage x := by
    simp [State.release, State.carriage]
  rw [h, State.mixRelease, State.carriage_setCarriage]
  split
  · rfl
  · exact State.carriage_congr (by simp) x

@[simp] theorem State.release_feeds (s : State) (b c : Nat) (r : Reason) :
    (s.release b c r).mixer.feeds = s.mixer.feeds := by
  simp [State.release, State.mixRelease, State.setCarriage]
@[simp] theorem State.release_rampLength (s : State) (b c : Nat) (r : Reason) :
    (s.release b c r).mixer.rampLength = s.mixer.rampLength := by
  simp [State.release, State.mixRelease, State.setCarriage]
@[simp] theorem State.release_offerTimeout (s : State) (b c : Nat) (r : Reason) :
    (s.release b c r).mixer.offerTimeout = s.mixer.offerTimeout := by
  simp [State.release, State.mixRelease, State.setCarriage]

theorem State.release_producer (s : State) (b c : Nat) (r : Reason) (x : Nat) :
    (s.release b c r).producer x = if x = c then none else s.producer x := by
  simp [State.release, State.producer, Table.fetch?_remove]

theorem State.release_turn (s : State) (b c : Nat) (r : Reason) (x : Nat) :
    (s.release b c r).turn x = if x = b then none else s.turn x := by
  have h : (s.release b c r).turn x = (((s.clearLive b c).mixRelease c).closeTurn b r).turn x :=
    State.turn_congr (by simp [State.release]) x
  rw [h, State.closeTurn_turn]
  split
  · rfl
  · exact State.turn_congr (by simp) x

@[simp] theorem State.release_isOpen (s : State) (b c : Nat) (r : Reason) :
    (s.release b c r).meter.sitting.isOpen = s.meter.sitting.isOpen := by simp [State.release]
@[simp] theorem State.release_time (s : State) (b c : Nat) (r : Reason) :
    (s.release b c r).meter.time = s.meter.time := by simp [State.release]
@[simp] theorem State.release_graceSetting (s : State) (b c : Nat) (r : Reason) :
    (s.release b c r).meter.graceSetting = s.meter.graceSetting := by simp [State.release]
@[simp] theorem State.release_graceTimer (s : State) (b c : Nat) (r : Reason) :
    (s.release b c r).meter.graceTimer = s.meter.graceTimer := by simp [State.release]

/-! ## Offers, queues and desks -/

theorem State.dropOffer_booth (s : State) (b x : Nat) :
    (s.dropOffer b).booth x = if x = b then { s.booth b with offer := none, offerTimer := none } else s.booth x :=
  State.booth_setBooth s b x _

@[simp] theorem State.dropOffer_chan (s : State) (b x : Nat) : (s.dropOffer b).chan x = s.chan x := rfl
@[simp] theorem State.dropOffer_desks (s : State) (b : Nat) : (s.dropOffer b).bdc.desks = s.bdc.desks := rfl
@[simp] theorem State.dropOffer_desk (s : State) (b x y : Nat) : (s.dropOffer b).desk x y = s.desk x y := rfl

theorem State.recordOffer_booth (s : State) (b d : Nat) (y : Output) (x : Nat) :
    (s.recordOffer b d y).booth x =
      if x = b then { s.booth b with offer := some (d, y), offerTimer := some s.mixer.offerTimeout } else s.booth x :=
  State.booth_setBooth s b x _

@[simp] theorem State.recordOffer_chan (s : State) (b d : Nat) (y : Output) (x : Nat) :
    (s.recordOffer b d y).chan x = s.chan x := rfl
@[simp] theorem State.recordOffer_desks (s : State) (b d : Nat) (y : Output) :
    (s.recordOffer b d y).bdc.desks = s.bdc.desks := rfl

theorem State.joinQueue_booth (s : State) (b d c : Nat) (y : Output) (x : Nat) :
    (s.joinQueue b d c y).booth x = if x = b then { s.booth b with pending := some (d, y) } else s.booth x := by
  unfold State.joinQueue
  rw [State.booth_setBooth]
  split <;> rfl

theorem State.joinQueue_chan (s : State) (b d c : Nat) (y : Output) (x : Nat) :
    (s.joinQueue b d c y).chan x =
      if x = c then { s.chan c with queue := (s.chan c).queue ++ [⟨b, d⟩] } else s.chan x := by
  unfold State.joinQueue
  rw [State.chan_setBooth, State.chan_setChan]

@[simp] theorem State.joinQueue_desks (s : State) (b d c : Nat) (y : Output) :
    (s.joinQueue b d c y).bdc.desks = s.bdc.desks := rfl

theorem State.withdraw_booth (s : State) (b x : Nat) :
    (s.withdraw b).booth x = if x = b then { s.booth b with pending := none } else s.booth x := by
  unfold State.withdraw
  rw [State.booth_setBooth]
  split <;> rfl

theorem State.withdraw_chan (s : State) (b x : Nat) :
    (s.withdraw b).chan x =
      if x ∈ Config.channelNumbers then { s.chan x with queue := (s.chan x).queue.filter fun e => e.booth != b }
      else s.chan x := by
  unfold State.withdraw
  rw [State.chan_setBooth, State.leaveQueues_chan]

@[simp] theorem State.withdraw_desks (s : State) (b : Nat) : (s.withdraw b).bdc.desks = s.bdc.desks := rfl

@[simp] theorem State.setDesk_booths (s : State) (b d : Nat) (x : Desk) :
    (s.setDesk b d x).bdc.booths = s.bdc.booths := rfl
@[simp] theorem State.setDesk_channels (s : State) (b d : Nat) (x : Desk) :
    (s.setDesk b d x).bdc.channels = s.bdc.channels := rfl
@[simp] theorem State.setRefused_booth (s : State) (b d : Nat) (r : Bool) (x : Nat) :
    (s.setRefused b d r).booth x = s.booth x := rfl
@[simp] theorem State.setRefused_chan (s : State) (b d : Nat) (r : Bool) (x : Nat) :
    (s.setRefused b d r).chan x = s.chan x := rfl
@[simp] theorem State.select_booth (s : State) (b d : Nat) (y : Output) (x : Nat) :
    (s.select b d y).booth x = s.booth x := rfl
@[simp] theorem State.select_chan (s : State) (b d : Nat) (y : Output) (x : Nat) :
    (s.select b d y).chan x = s.chan x := rfl

theorem State.setRefused_desk (s : State) (b d : Nat) (r : Bool) (x y : Nat) :
    (s.setRefused b d r).desk x y =
      if deskKey x y = deskKey b d then { s.desk b d with refused := r } else s.desk x y :=
  State.desk_setDesk s b d x y _

theorem State.select_desk (s : State) (b d : Nat) (o : Output) (x y : Nat) :
    (s.select b d o).desk x y = if deskKey x y = deskKey b d then { s.desk b d with output := o } else s.desk x y :=
  State.desk_setDesk s b d x y _

/-- Where a booth has no offer, cancelling it changes nothing; else it is dropped and the desk's latch set. -/
theorem State.cancelOffer_cases (s : State) (b : Nat) :
    ((s.booth b).offer = none ∧ s.cancelOffer b = s) ∨
      ∃ e y, (s.booth b).offer = some (e, y) ∧ s.cancelOffer b = (s.dropOffer b).setRefused b e true := by
  unfold State.cancelOffer
  split
  · rename_i e y h
    exact .inr ⟨e, y, h, rfl⟩
  · rename_i h
    exact .inl ⟨h, rfl⟩

@[simp] theorem State.cancelOffer_chan (s : State) (b x : Nat) : (s.cancelOffer b).chan x = s.chan x := by
  rcases s.cancelOffer_cases b with ⟨-, h⟩ | ⟨e, y, -, h⟩ <;> rw [h]
  simp

/-! ## A queue passed on -/

/-- R72: the oldest entry of a channel's queue is granted the channel, or nothing happens. -/
theorem State.passQueue_cases (s : State) (c : Nat) :
    ((s.chan c).queue = [] ∧ s.passQueue c = s) ∨
      ∃ e rest, (s.chan c).queue = e :: rest ∧
        s.passQueue c = (s.setChan c { s.chan c with queue := rest }).grant e.booth e.desk c := by
  unfold State.passQueue
  split
  · rename_i h
    exact .inl ⟨h, rfl⟩
  · rename_i e rest h
    exact .inr ⟨e, rest, h, rfl⟩

@[simp] theorem State.passQueue_desks (s : State) (c : Nat) : (s.passQueue c).bdc.desks = s.bdc.desks := by
  rcases s.passQueue_cases c with ⟨-, h⟩ | ⟨e, rest, -, h⟩ <;> rw [h]
  simp [State.setChan]

@[simp] theorem State.passQueue_desk (s : State) (c x y : Nat) : (s.passQueue c).desk x y = s.desk x y := by
  simp [State.desk]

theorem State.passQueue_booth_of_ne (s : State) (c x : Nat) (h : ∀ e ∈ (s.chan c).queue.head?, x ≠ e.booth) :
    (s.passQueue c).booth x = s.booth x := by
  rcases s.passQueue_cases c with ⟨-, hs⟩ | ⟨e, rest, hq, hs⟩ <;> rw [hs]
  rw [State.grant_booth, if_neg (h e (by simp [hq]))]
  rfl

/-! ## Handovers -/

theorem State.handover_bdc (s : State) (b d e c : Nat) :
    (s.handover b d e c).bdc = ((s.setLive b e c).dropOffer b).bdc := by simp [State.handover]

theorem State.handover_booth (s : State) (b d e c x : Nat) :
    (s.handover b d e c).booth x =
      if x = b then { s.booth b with live := some (e, c), offer := none, offerTimer := none } else s.booth x := by
  rw [State.booth_congr (s.handover_bdc b d e c), State.dropOffer_booth, State.setLive_booth]
  by_cases hx : x = b
  · simp [hx]
  · simp [hx, State.setLive_booth]

theorem State.handover_chan (s : State) (b d e c x : Nat) :
    (s.handover b d e c).chan x = if x = c then { s.chan c with holder := some ⟨b, e⟩ } else s.chan x := by
  rw [State.chan_congr (s.handover_bdc b d e c), State.dropOffer_chan, State.setLive_chan]

@[simp] theorem State.handover_desks (s : State) (b d e c : Nat) : (s.handover b d e c).bdc.desks = s.bdc.desks := by
  rw [State.handover_bdc]
  rfl

theorem State.handover_carriage (s : State) (b d e c x : Nat) :
    (s.handover b d e c).carriage x =
      if x = c then { live := some ⟨b, e⟩, ramp := s.newRamp c ⟨b, d⟩ ⟨b, e⟩ } else s.carriage x := by
  have h : (s.handover b d e c).carriage x =
      (((s.setLive b e c).dropOffer b).mixHandover c ⟨b, d⟩ ⟨b, e⟩).carriage x := by
    simp [State.handover, State.carriage]
  rw [h, State.mixHandover, State.carriage_setCarriage]
  rfl

theorem State.handover_turn (s : State) (b d e c x : Nat) :
    (s.handover b d e c).turn x = if x = b then s.newTurn b e c else s.turn x := by
  have hq : ((((s.setLive b e c).dropOffer b).mixHandover c ⟨b, d⟩ ⟨b, e⟩).closeTurn b .handover).carriedQuality c =
      s.carriedQuality c := State.carriedQuality_congr (by simp) c
  have hd : ((((s.setLive b e c).dropOffer b).mixHandover c ⟨b, d⟩ ⟨b, e⟩).closeTurn b .handover).desk b e =
      s.desk b e := by simp [State.desk]
  have ht : (((s.setLive b e c).dropOffer b).mixHandover c ⟨b, d⟩ ⟨b, e⟩).turn x = s.turn x :=
    State.turn_congr (by simp) x
  unfold State.handover
  rw [State.openTurn_turn, State.closeTurn_turn, hq, hd, ht]
  by_cases hx : x = b <;> by_cases ho : s.meter.sitting.isOpen = true <;> simp [hx, ho, State.newTurn]

end Sys2Proof.Machine
end

section
/-! Everything that a command can do, said once: a command is a reset, or a chain of the acts of `Act`, up to what is on
the links' wires and in the queues (`exec_acts`, `step_acts`). Each law that every step keeps is proved act by act. -/

namespace Sys2Proof.Machine

/-! ## Two states alike but for wires and queues -/

/-- `t` is `s` but for the links' frames, answers and receivers, the count of free values and the queues. -/
def State.alike (s t : State) : Prop :=
  ∃ con cou dk f p a, t = { s with
    links := { s.links with console := con, counter := cou, desk := dk }, freeIndex := f, pending := p, arriving := a }

theorem State.alike_refl (s : State) : s.alike s := ⟨_, _, _, _, _, _, rfl⟩

theorem State.alike_trans {s t u : State} (h : s.alike t) (h' : t.alike u) : s.alike u := by
  obtain ⟨_, _, _, _, _, _, rfl⟩ := h
  obtain ⟨_, _, _, _, _, _, rfl⟩ := h'
  exact ⟨_, _, _, _, _, _, rfl⟩

theorem State.alike_setPending (s : State) (p : List Instr) : s.alike (s.setPending p) := ⟨_, _, _, _, _, _, rfl⟩
theorem State.alike_setArriving (s : State) (a : List Arrival) : s.alike (s.setArriving a) := ⟨_, _, _, _, _, _, rfl⟩
theorem State.alike_setUart (s : State) (l : UartLink) (x : UartState) : s.alike (s.setUart l x) := by
  cases l <;> exact ⟨_, _, _, _, _, _, rfl⟩
theorem State.alike_setConsole (s : State) (x : ConsoleLink) :
    s.alike (s.setLinks { s.links with console := x }) := ⟨_, _, _, _, _, _, rfl⟩
theorem State.alike_setReceiver (s : State) (l : Link) (r : Receive) : s.alike (s.setReceiver l r) := by
  cases l
  · exact s.alike_setConsole _
  · exact s.alike_setUart .counter _
  · exact s.alike_setUart .desk _
theorem State.alike_shiftOut (s : State) (l : Link) : s.alike (s.shiftOut l) := by
  cases l
  · exact s.alike_setConsole _
  · exact s.alike_refl
  · exact s.alike_refl
theorem State.alike_post (s : State) (l : Link) (a : Answer) : s.alike (s.post l a) := by
  cases l
  · exact ⟨_, _, _, _, _, _, rfl⟩
  · exact s.alike_setUart .counter _
  · exact s.alike_setUart .desk _
theorem State.alike_setReceive (s : State) (l : UartLink) (r : Receive) : s.alike (s.setReceive l r) := by
  unfold State.setReceive
  split
  · exact s.alike_refl
  · exact s.alike_setUart _ _

/-! ## Acts -/

/-- One act of the part on the state `s`, with what the rules that lead to it have checked. `x` is a booth whose offer may
for the moment stand without a live desk (R71, R75); `L` is what may be supposed of the state that the command found. -/
inductive Act (x : Option Nat) (L : Prop) (s : State) : State → Prop
  | edit {k : Nat} {p : Bank} (number : k ∈ Config.bankNumbers) (editable : (s.bank k).status.editable = true)
      (status : p.status.editable = true) (alloc : p.alloc = (s.bank k).alloc ∨ p.alloc = none)
      (entries : (∀ j b, (s.boothEntry (s.bank j) b).inRange) → ∀ b, (s.boothEntry p b).inRange) :
      Act x L s (s.setBank k p)
  | check {k : Nat} (number : k ∈ Config.bankNumbers) :
      Act x L s (s.setBank k { s.bank k with status := (s.bank k).status.checked })
  | start {k : Nat} (number : k ∈ Config.bankNumbers) (standby : s.framer.state = .standby) :
      Act x L s ((s.commitBank k .onAir).beginSettle)
  | abandonStart (starting : s.framer.state = .starting) : Act x L s s.abandonStart
  | stop (onAir : s.framer.state = .onAir) (closed : s.meter.sitting.isOpen = false) : Act x L s s.stop
  | closeFinal : Act x L s s.closeFinal
  | settle (starting : s.framer.state = .starting) (more : s.framer.settle - 1 ≠ 0) :
      Act x L s (s.setFramer { s.framer with settle := s.framer.settle - 1 })
  | endSettle (starting : s.framer.state = .starting) : Act x L s s.endSettle
  | acceptSwitch {k : Nat} (number : k ∈ Config.bankNumbers) (onAir : s.framer.state = .onAir)
      (free : s.framer.pendingSwitch = none) (other : s.onAirBank ≠ some k) : Act x L s (s.acceptSwitch k)
  | boundary (onAir : s.framer.state = .onAir) : Act x L s s.boundary
  | announce (onAir : s.framer.state = .onAir) : Act x L s s.announce
  | announceEnd (on : s.framer.override = .on) : Act x L s (s.setFramer { s.framer with override := .ending })
  | lineMode {m : LineMode} : Act x L s (s.setFramer { s.framer with lineMode := m })
  | handoverSet {ramp offer : Nat} :
      Act x L s (s.setMixer { s.mixer with rampLength := ramp, offerTimeout := offer })
  | desk {b d : Nat} {y : Desk} (interpreter : y.interpreter = (s.desk b d).interpreter) : Act x L s (s.setDesk b d y)
  | recordOffer {b d : Nat} {o : Output} (onAir : s.framer.state = .onAir) (booth : b ∈ Config.boothNumbers)
      (desk : d ∈ [1, 2, 3]) (live : (s.booth b).live.isSome = true) (other : (s.booth b).liveDesk d = false) :
      Act x L s (s.recordOffer b d o)
  | dropOffer {b : Nat} : Act x L s (s.dropOffer b)
  | joinQueue {b d c : Nat} {o : Output} (onAir : s.framer.state = .onAir) (booth : b ∈ Config.boothNumbers)
      (desk : L → d ∈ [1, 2, 3]) (channel : s.planChannel b o = some c) (live : L → (s.booth b).live = none)
      (pending : L → (s.booth b).pending = none) (room : (s.chan c).queue.length < Config.queueSize) :
      Act x L s (s.joinQueue b d c o)
  | withdraw {b : Nat} : Act x L s (s.withdraw b)
  | grant {b d c : Nat} {o : Output} (onAir : s.framer.state = .onAir) (booth : b ∈ Config.boothNumbers)
      (desk : L → d ∈ [1, 2, 3]) (channel : s.planChannel b o = some c) (live : L → (s.booth b).live = none)
      (free : (s.chan c).holder = none) : Act x L s (s.grant b d c)
  | passQueue {c : Nat} (onAir : s.framer.state = .onAir) (free : (s.chan c).holder = none) :
      Act x L s (s.passQueue c)
  | release {b d c : Nat} {r : Reason} (live : (s.booth b).live = some (d, c))
      (offer : (s.booth b).offer = none ∨ x = some b) : Act x L s (s.release b c r)
  | handover {b d e c : Nat} {y : Output} (live : (s.booth b).live = some (d, c))
      (offer : (s.booth b).offer = some (e, y)) : Act x L s (s.handover b d e c)
  | clearWaits : Act x L s s.clearWaits
  | interpreter {b d : Nat} {who : Option Nat} (desk : d ∈ [1, 2, 3]) : Act x L s (s.setInterpreter b d who)
  | setSource {b : Nat} {m : SourceMode} (onAir : s.framer.state = .onAir) (booth : b ∈ Config.boothNumbers)
      (present : (s.planBooth b).isSome = true) : Act x L s (s.setSource b m)
  | holdExpired {b : Nat} (due : (s.relayRec b).timer = some 0) : Act x L s (s.holdExpired b)
  | floorLanguage {code : Nat} : Act x L s (s.floorLanguage code)
  | relaySet {hold : Nat} : Act x L s (s.setRelay { s.relay with hold := hold })
  | openSitting (onAir : s.framer.state = .onAir) (closed : s.meter.sitting.isOpen = false) : Act x L s s.openSitting
  | closeSitting (opened : s.meter.sitting.isOpen = true) : Act x L s s.closeSitting
  | returnGrace {minutes : Nat} (range : minutes ≤ 240) :
      Act x L s (s.setMeter { s.meter with graceSetting := minutes })
  | countSecond : Act x L s s.countSecond
  | tickGrace : Act x L s s.tickGrace
  | tickTimers : Act x L s s.tickTimers
  | tariff {u : Tariff} : Act x L s (s.setHire { s.hire with tariff := u })
  | acctOpen {n : Nat} {kind : AccountKind} {limit credit : Nat} (new : s.account n = none) :
      Act x L s (s.setAccount n (Account.opened kind limit credit))
  | acctChange {n : Nat} {a a' : Account} (found : s.account n = some a)
      (change : (∃ limit credit, a' = a.withLimits limit credit ∧ a.outCount ≤ a'.limit) ∨
        ∃ amount, a' = a.paid amount) : Act x L s (s.setAccount n a')
  | acctClose {n : Nat} {a : Account} (found : s.account n = some a) (out : a.outCount = 0)
      (room : s.hireSideRoom = true) :
      Act x L s ((s.writeEntry (.account n a.kind a.balance)).removeAccount n)
  | register {serial slot : Nat} {cls : RxClass} (new : s.receiver serial = none)
      (free : Table.fetch? s.register.slots slot = none) :
      Act x L s (s.setSlot slot (Receiver.fresh serial cls))
  | window {w : Window} : Act x L s (s.setWindow w)
  | freeSlot {serial slot : Nat} {r : Receiver} (found : s.receiver serial = some (slot, r)) (off : r.onHire = false) :
      Act x L s (s.freeSlot slot)
  | service {slot : Nat} {r r' : Receiver} (found : (slot, r) ∈ s.register.slots) (serial : r'.serial = r.serial)
      (hire : r'.hire = r.hire) (onHire : r'.onHire = r.onHire) (orphaned : r'.orphaned = r.orphaned) :
      Act x L s (s.setSlot slot r')
  | found {serial slot : Nat} {r : Receiver} (found : s.receiver serial = some (slot, r)) (lost : r.state = .lost)
      (room : s.hireSideRoom = true) :
      Act x L s ((s.writeEntry (.found r.serial)).setSlot slot { r with state := .charging })
  | issue {serial slot n preset : Nat} {r : Receiver} {a : Account} (found : s.receiver serial = some (slot, r))
      (available : r.state = .available) (account : s.account n = some a) (limit : a.outCount ≠ a.limit) :
      Act x L s (s.issue slot r n preset a)
  | changePreset {serial slot lang : Nat} {r : Receiver} {h : HireFields} (found : s.receiver serial = some (slot, r))
      (onHire : r.onHire = true) (hire : r.hire = some h) : Act x L s (s.changePreset slot r h lang)
  | leaveHire {serial slot : Nat} {r : Receiver} {h : HireFields} {way : Leaving}
      (found : s.receiver serial = some (slot, r)) (onHire : r.onHire = true) (hire : r.hire = some h)
      (room : s.hireSideRoom = true) : Act x L s (s.leaveHire slot r h way)
  | acknowledge {e : Entry} {rest : List Entry} (oldest : s.journal.entries = e :: rest) :
      Act x L s (s.setJournal { s.journal with entries := rest })
  | flags {l : MasterLink} {f : FlagSet} (counts : Table.wf 0 (s.flags l).counts = true → Table.wf 0 f.counts = true) :
      Act x L s (s.setFlags l f)

/-- A chain of acts. -/
abbrev Acts (x : Option Nat) (L : Prop) : State → State → Prop := Relation.ReflTransGen (Act x L)

theorem Acts.of {x : Option Nat} {L : Prop} {s t : State} (h : Act x L s t) : Acts x L s t := .single h

/-- What every act keeps, a chain of acts keeps. -/
theorem Acts.keeps {x : Option Nat} {L : Prop} {P : State → Prop} (h : ∀ s t, Act x L s t → P s → P t) {s t : State}
    (hst : Acts x L s t) (hs : P s) : P t := by
  induction hst with
  | refl => exact hs
  | tail _ ha ih => exact h _ _ ha ih

/-- An identity set leaves the state as it is, or is a desk record written with or without a live desk's report. -/
theorem State.setInterpreter_cases (s : State) (b d : Nat) (who : Option Nat) :
    ((s.desk b d).interpreter = who ∧ s.setInterpreter b d who = s) ∨
      ((s.desk b d).interpreter ≠ who ∧
        (((∀ c, (s.booth b).live ≠ some (d, c)) ∧
            s.setInterpreter b d who = s.setDesk b d { s.desk b d with interpreter := who }) ∨
          ∃ c, (s.booth b).live = some (d, c) ∧ s.setInterpreter b d who =
            ((s.setDesk b d { s.desk b d with interpreter := who }).closeTurn b .signOn).openTurn b d c)) := by
  unfold State.setInterpreter State.reportIdentity
  split
  · rename_i h
    exact .inl ⟨h, rfl⟩
  · rename_i h
    refine .inr ⟨h, ?_⟩
    simp only [State.booth_setDesk]
    rcases hl : (s.booth b).live with _ | ⟨e, c⟩
    · exact .inl ⟨by simp, rfl⟩
    · by_cases he : e = d
      · subst he
        exact .inr ⟨c, rfl, by simp⟩
      · exact .inl ⟨by simp [he], by simp [he]⟩

/-- No act touches the straps, the pin, the queues or what is on the links' wires. -/
theorem Act.frame {x : Option Nat} {L : Prop} {s t : State} (h : Act x L s t) :
    t.straps = s.straps ∧ t.resetHeld = s.resetHeld ∧ t.pending = s.pending ∧ t.arriving = s.arriving ∧
      t.links.wire = s.links.wire := by
  cases h with
  | start => simp [State.beginSettle, State.commitBank]
  | closeFinal => simp [State.closeFinal]
  | acceptSwitch => simp [State.acceptSwitch, State.commitBank]
  | passQueue => simp
  | @interpreter b d who =>
    rcases s.setInterpreter_cases b d who with ⟨-, h⟩ | ⟨-, ⟨-, h⟩ | ⟨c, -, h⟩⟩ <;> rw [h] <;> simp
  | issue => simp [State.issue, State.setTally]
  | changePreset => simp [State.changePreset, State.setTally]
  | window => simp [State.setWindow]
  | freeSlot => simp [State.freeSlot]
  | acctClose => simp
  | _ => simp

end Sys2Proof.Machine
end

section
/-! Every command is a chain of acts. The rules of the requests block by block, then all commands (`exec_acts`) and all
steps (`step_acts`), and the principle by which a law is kept (`step_keeps`). -/

namespace Sys2Proof.Machine

/-- R60: booth `b`'s offer stands beside another live desk. -/
def State.offerOk (s : State) (b : Nat) : Prop :=
  ∀ e y, (s.booth b).offer = some (e, y) → ∃ d c, (s.booth b).live = some (d, c) ∧ d ≠ e

theorem State.offerOk_of_none {s : State} {b : Nat} (h : (s.booth b).offer = none) : s.offerOk b := by
  intro e y he
  simp [h] at he

/-! ## Ranges -/

theorem okBank_iff (n : Nat) : okBank n = true ↔ n ∈ Config.bankNumbers := by
  simp [okBank, inRange_iff, mem_bankNumbers]
theorem okBooth_iff (n : Nat) : okBooth n = true ↔ n ∈ Config.boothNumbers := by
  simp [okBooth, inRange_iff, mem_boothNumbers]
theorem okDesk_iff (n : Nat) : okDesk n = true ↔ n ∈ [1, 2, 3] := by
  simp only [okDesk, inRange_iff, List.mem_cons, List.not_mem_nil, or_false]
  omega

/-! ## Edits of a bank -/

section Edits

variable {x : Option Nat} {L : Prop} {s : State} {k : Nat}

theorem editBank_acts {p : Bank} (number : k ∈ Config.bankNumbers) (status : p.status.editable = true)
    (alloc : p.alloc = (s.bank k).alloc ∨ p.alloc = none)
    (entries : (∀ j b, (s.boothEntry (s.bank j) b).inRange) → ∀ b, (s.boothEntry p b).inRange) :
    Acts x L s (editBank k s p).st := by
  unfold editBank
  split
  · rename_i h
    exact .of (.edit number h status alloc entries)
  · exact .refl

theorem BoothEntry.cleared_inRange (desks : Nat) : (BoothEntry.cleared desks).inRange := by
  intro o c h
  cases o <;> cases h

theorem optChannel_inRange {n c : Nat} (hn : okOptChannel n = true) (h : optChannel n = some c) :
    c ∈ Config.channelNumbers := by
  simp only [okOptChannel, inRange_iff] at hn
  rw [mem_channelNumbers]
  unfold optChannel at h
  split at h <;> cases h
  omega

theorem BoothEntry.ofParams_inRange {present a b desks : Nat} {prefs : List Nat} (ha : okOptChannel a = true)
    (hb : okOptChannel b = true) : (BoothEntry.ofParams present a b prefs desks).inRange := by
  intro o c h
  cases o
  · exact optChannel_inRange ha h
  · exact optChannel_inRange hb h

theorem boothEntry_of_booths_store (p : Bank) (b y : Nat) (e : BoothEntry) :
    s.boothEntry { p with
        status := .edited
        booths := Table.store (BoothEntry.cleared s.desksPerBooth) p.booths b e } y =
      if y = b then e else s.boothEntry p y := Table.fetch_store _ _ _ _ _

theorem Bank.copy_editable (p : Bank) : p.copy.status.editable = true := by
  unfold Bank.copy
  split <;> rfl

theorem Bank.copy_alloc (p : Bank) : p.copy.alloc = none := by
  unfold Bank.copy
  split <;> rfl

theorem Bank.copy_inRange {p : Bank} (h : ∀ b, (s.boothEntry p b).inRange) (b : Nat) :
    (s.boothEntry p.copy b).inRange := by
  unfold Bank.copy
  split
  · exact BoothEntry.cleared_inRange _
  · exact h b

end Edits

/-! ## The framer's requests -/

theorem startReply_acts {x : Option Nat} {L : Prop} {s : State} {k : Nat} (number : k ∈ Config.bankNumbers) :
    Acts x L s (startReply k s).st := by
  unfold startReply
  split
  · exact .refl
  · rename_i h
    split
    · exact .refl
    · exact .of (.start number (by simpa using h))

theorem standbyReply_acts {x : Option Nat} {L : Prop} {s : State} : Acts x L s (standbyReply s).st := by
  unfold standbyReply
  split
  · exact .refl
  · rename_i h
    exact .of (.abandonStart h)
  · rename_i h
    split
    · exact .refl
    · rename_i ho
      exact .of (.stop h (by simpa using ho))

theorem switchReply_acts {x : Option Nat} {L : Prop} {s : State} {k : Nat} (number : k ∈ Config.bankNumbers) :
    Acts x L s (switchReply k s).st := by
  unfold switchReply
  split
  · exact .refl
  rename_i ha
  split
  · exact .refl
  rename_i hp
  split
  · exact .refl
  rename_i ho
  split
  · exact .refl
  · exact .of (.acceptSwitch number (s.onAir_iff.mp (by simpa using ha)) (by simpa using hp) ho)

theorem announceReply_acts {x : Option Nat} {L : Prop} {s : State} : Acts x L s (announceReply s).st := by
  unfold announceReply
  split
  · exact .refl
  · exact .refl
  · rename_i h
    split
    · exact .of (.announce h)
    · exact .refl

theorem announceEndReply_acts {x : Option Nat} {L : Prop} {s : State} : Acts x L s (announceEndReply s).st := by
  unfold announceEndReply
  split
  · exact .refl
  · rename_i h
    exact .of (.announceEnd h)
  · exact .refl

/-! ## The live microphones' requests -/

section Mics

variable {x : Option Nat} {L : Prop} {s : State} {b d c : Nat}

@[simp] theorem State.passQueue_offer (s : State) (c y : Nat) :
    ((s.passQueue c).booth y).offer = (s.booth y).offer := by
  rcases s.passQueue_cases c with ⟨-, h⟩ | ⟨e, rest, -, h⟩ <;> rw [h]
  rw [State.grant_booth]
  split
  · rename_i hy
    simp [hy]
  · simp

/-- R65, case 8, R68: a claim grants a free channel, finds the queue full, or joins the queue. -/
theorem State.claimChannel_cases (s : State) (b d c : Nat) (o : Output) :
    ((s.chan c).holder = none ∧ s.claimChannel b d c o = ⟨s.grant b d c, .done⟩) ∨
      ((s.chan c).holder ≠ none ∧ 4 ≤ (s.chan c).queue.length ∧ s.claimChannel b d c o = ⟨s, .queueFull⟩) ∨
      ((s.chan c).holder ≠ none ∧ (s.chan c).queue.length < 4 ∧
        s.claimChannel b d c o = ⟨s.joinQueue b d c o, .waiting⟩) := by
  unfold State.claimChannel
  split
  · rename_i h
    exact .inl ⟨h, rfl⟩
  rename_i h
  split
  · rename_i hq
    exact .inr (.inl ⟨h, hq, rfl⟩)
  · rename_i hq
    exact .inr (.inr ⟨h, Nat.lt_of_not_le hq, rfl⟩)

@[simp] theorem State.claimChannel_offer (s : State) (b d c : Nat) (o : Output) (y : Nat) :
    ((s.claimChannel b d c o).st.booth y).offer = (s.booth y).offer := by
  rcases s.claimChannel_cases b d c o with ⟨-, h⟩ | ⟨-, -, h⟩ | ⟨-, -, h⟩ <;> rw [h]
  · rw [State.grant_booth]
    split
    · rename_i hy
      simp [hy]
    · rfl
  · rw [State.joinQueue_booth]
    split
    · rename_i hy
      simp [hy]
    · rfl

theorem claimChannel_acts {o : Output} (onAir : s.framer.state = .onAir) (booth : b ∈ Config.boothNumbers)
    (desk : L → d ∈ [1, 2, 3]) (channel : s.planChannel b o = some c) (live : L → (s.booth b).live = none)
    (pending : L → (s.booth b).pending = none) : Acts x L s (s.claimChannel b d c o).st := by
  rcases s.claimChannel_cases b d c o with ⟨hf, h⟩ | ⟨-, -, h⟩ | ⟨-, hq, h⟩ <;> rw [h]
  · exact .of (.grant onAir booth desk channel live hf)
  · exact .of (.joinQueue onAir booth desk channel live pending hq)

/-- R65, cases 4 to 8, for a desk that is not live. -/
theorem ask_acts {o : Output} (onAir : s.framer.state = .onAir) (booth : b ∈ Config.boothNumbers)
    (desk : L → d ∈ [1, 2, 3]) (deskLive : (s.booth b).live.isSome = true → d ∈ [1, 2, 3])
    (other : (s.booth b).liveDesk d = false) : Acts x L s (s.ask b d o).st := by
  unfold State.ask
  split
  · exact .refl
  rename_i c hc
  unfold State.askChannel
  split
  · rename_i hl
    split
    · exact .refl
    · exact .of (.recordOffer onAir booth (deskLive hl) hl other)
  rename_i hl
  split
  · exact .refl
  · rename_i hp
    exact claimChannel_acts onAir booth desk hc (fun _ => by simpa using hl) fun _ => by simpa using hp

theorem micOn_acts (onAir : s.framer.state = .onAir) (booth : b ∈ Config.boothNumbers) (desk : d ∈ [1, 2, 3]) :
    Acts x L s ((s.setRefused b d false).micOn b d).st := by
  refine .head (b := s.setRefused b d false) (.desk rfl) ?_
  unfold State.micOn
  split
  · exact .refl
  rename_i hl
  split
  · exact .refl
  split
  · exact .refl
  exact ask_acts (by simpa using onAir) booth (fun _ => desk) (fun _ => desk) (by simpa using hl)

/-- R71: a release and the cross-output start of its booth's offer. -/
theorem release_crossStart_acts {e : Nat} {y : Output} (onAir : s.framer.state = .onAir)
    (booth : b ∈ Config.boothNumbers) (live : (s.booth b).live = some (d, c)) (desk : L → e ∈ [1, 2, 3]) :
    Acts (some b) L s ((s.release b c .release).crossStart b e y) := by
  refine .head (.release live (.inr rfl)) (.head (b := (s.release b c .release).dropOffer b) .dropOffer ?_)
  have hl : (((s.release b c .release).dropOffer b).booth b).live = none := by
    simp [State.dropOffer_booth, State.release_booth]
  refine ask_acts (by simpa using onAir) booth desk (by simp [hl]) (by simp [BoothRun.liveDesk, hl])

theorem State.crossStart_offer (s : State) (b e : Nat) (y : Output) (h : (s.booth b).live = none) :
    ((s.crossStart b e y).booth b).offer = none := by
  have hd : ((s.dropOffer b).booth b).offer = none := by simp [State.dropOffer_booth]
  have hl : ((s.dropOffer b).booth b).live = none := by simp [State.dropOffer_booth, h]
  unfold State.crossStart State.ask
  split
  · exact hd
  unfold State.askChannel
  simp only [hl, Option.isSome_none, Bool.false_eq_true, if_false]
  split
  · exact hd
  · rw [State.claimChannel_offer, hd]

/-- A cross-output start for another channel leaves channel `c` without a holder. -/
theorem State.crossStart_holder {s : State} {b e c : Nat} {y : Output} (h : (s.chan c).holder = none)
    (hc : s.planChannel b y ≠ some c) : ((s.crossStart b e y).chan c).holder = none := by
  unfold State.crossStart State.ask
  have hp : (s.dropOffer b).planChannel b y = s.planChannel b y := State.planChannel_congr (by simp) (by simp) b y
  rw [hp]
  split
  · exact h
  rename_i c' hc'
  have hne : c ≠ c' := by
    rintro rfl
    exact hc hc'
  unfold State.askChannel
  split
  · split <;> exact h
  split
  · exact h
  rcases (s.dropOffer b).claimChannel_cases b e c' y with ⟨-, hs⟩ | ⟨-, -, hs⟩ | ⟨-, -, hs⟩ <;> rw [hs]
  · rw [State.grant_chan]
    split <;> simp [hne, h]
  · exact h
  · rw [State.joinQueue_chan, if_neg hne]
    exact h

theorem giveUp_acts (onAir : s.framer.state = .onAir) (booth : b ∈ Config.boothNumbers)
    (live : (s.booth b).live = some (d, c)) (offering : L → ∀ e y, (s.booth b).offer = some (e, y) → e ∈ [1, 2, 3]) :
    ∃ x, Acts x L s (s.giveUp b d c) ∧ ∀ b', x = some b' → (s.giveUp b d c).offerOk b' := by
  have hfree : ((s.release b c .release).chan c).holder = none := by simp [State.release_chan]
  unfold State.giveUp
  split
  · rename_i e y ho
    split
    · exact ⟨none, .of (.handover live ho), by simp⟩
    · rename_i hc
      have hc' : (s.release b c .release).planChannel b y ≠ some c := by
        rwa [State.planChannel_congr (s := s) (by simp) (by simp)]
      refine ⟨some b, .tail (release_crossStart_acts onAir booth live fun hL => offering hL e y ho)
        (.passQueue ?_ (State.crossStart_holder hfree hc')), ?_⟩
      · simp only [State.crossStart]
        have hf : ∀ (u : State) (e : Nat), (u.ask b e y).st.framer = u.framer := by
          intro u e
          unfold State.ask State.askChannel State.claimChannel
          (repeat' split) <;> simp
        rw [hf]
        simpa using onAir
      · rintro b' ⟨rfl⟩
        refine State.offerOk_of_none ?_
        rw [State.passQueue_offer, State.crossStart_offer]
        simp [State.release_booth]
  · rename_i ho
    refine ⟨none, .head (.release live (.inl ho)) (.single (.passQueue (by simpa using onAir) hfree)), by simp⟩

theorem micOff_acts (onAir : s.framer.state = .onAir) (booth : b ∈ Config.boothNumbers)
    (offering : L → ∀ e y, (s.booth b).offer = some (e, y) → e ∈ [1, 2, 3]) :
    ∃ x, Acts x L s (s.micOff b d) ∧ ∀ b', x = some b' → (s.micOff b d).offerOk b' := by
  unfold State.micOff
  split
  · rename_i hl
    split
    · rename_i d' c hlive
      obtain rfl : d' = d := by simpa [BoothRun.liveDesk, hlive] using hl
      exact giveUp_acts onAir booth hlive offering
    · exact ⟨none, .refl, by simp⟩
  split
  · exact ⟨none, .of .dropOffer, by simp⟩
  split
  · exact ⟨none, .of .withdraw, by simp⟩
  · exact ⟨none, .refl, by simp⟩

theorem outputIdle_acts {o : Output} : Acts x L s (s.outputIdle b d o) := by
  unfold State.outputIdle
  split
  · exact .head .withdraw (.single (.desk rfl))
  split
  · exact .head .dropOffer (.single (.desk rfl))
  · exact .of (.desk rfl)

theorem cancelOffer_acts : Acts x L s (s.cancelOffer b) := by
  rcases s.cancelOffer_cases b with ⟨-, h⟩ | ⟨e, y, -, h⟩ <;> rw [h]
  exact .head .dropOffer (.single (.desk rfl))

theorem State.cancelOffer_offer (s : State) (b : Nat) : ((s.cancelOffer b).booth b).offer = none := by
  rcases s.cancelOffer_cases b with ⟨ho, h⟩ | ⟨e, y, -, h⟩ <;> rw [h]
  · exact ho
  · simp [State.dropOffer_booth]

/-- Under the microphones' law the oldest entry of a queue is not of a booth with a live desk. -/
theorem State.MicLaw.head_ne_of_live (h : s.MicLaw) {v : Nat × Nat} (live : (s.booth b).live = some v) (c : Nat) :
    ∀ e ∈ (s.chan c).queue, b ≠ e.booth := by
  rintro e he rfl
  have hp := h.waits c e he
  have : (s.booth e.booth).pending.isSome = true := by
    rw [Option.isSome_iff_exists]
    obtain ⟨p, hp, -⟩ := Option.map_eq_some_iff.mp hp
    exact ⟨p, hp⟩
  rw [h.pending e.booth this] at live
  cases live

theorem State.MicLaw.pending_of_live (h : s.MicLaw) {v : Nat × Nat} (live : (s.booth b).live = some v) :
    (s.booth b).pending = none := by
  by_contra hp
  rw [h.pending b (Option.isSome_iff_ne_none.mpr hp)] at live
  cases live

/-- Under the microphones' law a live desk's booth has no live desk and no request once its channel has passed on. -/
theorem State.MicLaw.passed_booth (h : s.MicLaw) (live : (s.booth b).live = some (d, c)) (r : Reason) :
    ((s.release b c r).passQueue c).booth b = { s.booth b with live := none } := by
  rw [State.passQueue_booth_of_ne, State.release_booth, if_pos rfl]
  intro e he
  rw [State.release_chan, if_pos rfl] at he
  exact h.head_ne_of_live live c e (List.mem_of_mem_head? he)

theorem outputLive_acts {c' : Nat} {o : Output} (law : L → s.MicLaw) (onAir : s.framer.state = .onAir)
    (booth : b ∈ Config.boothNumbers) (desk : d ∈ [1, 2, 3]) (live : (s.booth b).live = some (d, c))
    (channel : s.planChannel b o = some c') :
    Acts (some b) L s (s.outputLive b d c c' o).st ∧ (L → (s.outputLive b d c c' o).st.offerOk b) := by
  have hfree : ((s.release b c .output).chan c).holder = none := by simp [State.release_chan]
  have hmoved : Acts (some b) L s (((s.release b c .output).passQueue c).select b d o) :=
    .head (.release live (.inr rfl)) (.head (.passQueue (by simpa using onAir) hfree) (.single (.desk rfl)))
  unfold State.outputLive
  generalize hu : ((s.release b c .output).passQueue c).select b d o = u at hmoved
  have hbooth : L → u.booth b = { s.booth b with live := none } := fun hL => by
    rw [← hu]
    exact (law hL).passed_booth live .output
  have hclaim : Acts (some b) L u (u.claimChannel b d c' o).st := by
    refine claimChannel_acts ?_ booth (fun _ => desk) ?_ (fun hL => by rw [hbooth hL]) fun hL => by
      rw [hbooth hL]
      exact (law hL).pending_of_live live
    · rw [← hu]
      simpa using onAir
    · rw [State.planChannel_congr (s := s) (by rw [← hu]; simp) (by rw [← hu]; simp)]
      exact channel
  unfold State.claimOther
  split
  · rename_i hf
    refine ⟨hmoved.trans hclaim, fun hL => ?_⟩
    rcases u.claimChannel_cases b d c' o with ⟨-, h⟩ | ⟨hf', -⟩ | ⟨hf', -⟩
    · intro e y he
      rw [h, State.grant_booth, if_pos rfl] at he ⊢
      rw [hbooth hL] at he
      obtain ⟨d', c'', hlive, hne⟩ := (law hL).offer b e y he
      obtain ⟨rfl, rfl⟩ : d' = d ∧ c'' = c := by
        rw [live] at hlive
        cases hlive
        exact ⟨rfl, rfl⟩
      exact ⟨_, _, rfl, hne⟩
    · exact absurd hf hf'
    · exact absurd hf hf'
  · exact ⟨(hmoved.trans hclaim).trans cancelOffer_acts, fun _ => State.offerOk_of_none (State.cancelOffer_offer _ b)⟩

theorem changeOutput_acts {o : Output} (law : L → s.MicLaw) (onAir : s.framer.state = .onAir)
    (booth : b ∈ Config.boothNumbers) (desk : d ∈ [1, 2, 3]) :
    ∃ x, Acts x L s (s.changeOutput b d o).st ∧
      ∀ b', x = some b' → L → (s.changeOutput b d o).st.offerOk b' := by
  unfold State.changeOutput
  split
  · exact ⟨none, .refl, by simp⟩
  split
  · rename_i hl
    split
    · rename_i c' d' c hc hlive
      obtain rfl : d' = d := by simpa [BoothRun.liveDesk, hlive] using hl
      obtain ⟨h, hok⟩ := outputLive_acts law onAir booth desk hlive hc
      exact ⟨some b, h, by rintro b' ⟨rfl⟩; exact hok⟩
    · exact ⟨none, .refl, by simp⟩
  · exact ⟨none, outputIdle_acts, by simp⟩

theorem setCough_acts {on : Bool} : Acts x L s (s.setCough b d on).st := by
  unfold State.setCough
  split
  · exact .of (.desk rfl)
  · exact .refl

theorem isSome_planBooth_of_deskInUse (h : s.deskInUse b d = true) : (s.planBooth b).isSome = true := by
  unfold State.deskInUse at h
  split at h
  · rename_i hp
    rw [hp]
    rfl
  · cases h

theorem changeSource_acts {m : SourceMode} (onAir : s.framer.state = .onAir) (booth : b ∈ Config.boothNumbers)
    (present : (s.planBooth b).isSome = true) : Acts x L s (s.changeSource b m).st := by
  unfold State.changeSource
  split
  · exact .refl
  · exact .of (.setSource onAir booth present)

theorem forceOffReply_acts : Acts x L s (forceOffReply b s).st := by
  unfold forceOffReply
  split
  · exact .refl
  rename_i ha
  have hair : s.framer.state = .onAir := s.onAir_iff.mp (by simpa using ha)
  split
  · exact .refl
  rename_i d c hl
  have hcf : (s.cancelOffer b).framer = s.framer := by simp
  have hcl : ((s.cancelOffer b).booth b).live = some (d, c) := by
    rcases s.cancelOffer_cases b with ⟨-, h⟩ | ⟨e, y, -, h⟩ <;> rw [h]
    · exact hl
    · simpa [State.dropOffer_booth] using hl
  refine .tail (.tail cancelOffer_acts (.release hcl (.inl (s.cancelOffer_offer b))))
    (.passQueue (by simpa [hcf] using hair) (by simp [State.release_chan]))

theorem State.clearWaits_booth (s : State) (b : Nat) :
    s.clearWaits.booth b = if b ∈ Config.boothNumbers then { live := (s.booth b).live } else s.booth b := by
  simp only [State.clearWaits, State.booth, State.setBdc, Table.fetch_fill]

theorem State.clearWaits_chan (s : State) (c : Nat) :
    s.clearWaits.chan c = if c ∈ Config.channelNumbers then { holder := (s.chan c).holder } else s.chan c := by
  simp only [State.clearWaits, State.chan, State.setBdc, Table.fetch_fill]

/-- R83: the releases of LIVE_RESET, booth by booth, each of a booth whose offer has been cleared. -/
theorem liveReset_acts : Acts x L s s.liveReset := by
  refine .head .clearWaits ?_
  have hclear : ∀ y ∈ Config.boothNumbers, (s.clearWaits.booth y).offer = none := fun y hy => by
    simp [State.clearWaits_booth, hy]
  have hstep (bs : List Nat) (hbs : ∀ y ∈ bs, y ∈ Config.boothNumbers) : ∀ u : State,
      (∀ y ∈ Config.boothNumbers, (u.booth y).offer = none) → Acts x L u (bs.foldl State.releaseBooth u) := by
    induction bs with
    | nil => exact fun u _ => .refl
    | cons y bs ih =>
      intro u hu
      rw [List.foldl_cons]
      unfold State.releaseBooth
      split
      · rename_i d c hl
        refine .head (.release hl (.inl (hu y (hbs y List.mem_cons_self))))
          (ih (fun z hz => hbs z (List.mem_cons_of_mem _ hz)) _ fun z hz => ?_)
        rw [State.release_booth]
        split
        · rename_i hzy
          exact hzy ▸ hu z hz
        · exact hu z hz
      · exact ih (fun z hz => hbs z (List.mem_cons_of_mem _ hz)) u hu
  exact hstep Config.boothNumbers (fun _ h => h) _ hclear

end Mics

end Sys2Proof.Machine
end

section
/-! Every command is a chain of acts, continued: the register, the accounts and the journal, then all requests, all
commands and all steps; and the principle by which a law is kept. -/

namespace Sys2Proof.Machine

/-! ## The register's and the accounts' requests -/

section Hires

variable {x : Option Nat} {L : Prop} {s : State} {serial slot n : Nat}

theorem mem_of_findSerial {t : Table Receiver} {r : Receiver} (h : findSerial t serial = some (slot, r)) :
    (slot, r) ∈ t ∧ r.serial = serial := by
  induction t with
  | nil => cases h
  | cons e t ih =>
    obtain ⟨k, q⟩ := e
    unfold findSerial at h
    split at h
    · rename_i hq
      cases h
      exact ⟨List.mem_cons_self, hq⟩
    · exact ⟨List.mem_cons_of_mem _ (ih h).1, (ih h).2⟩

theorem State.mem_of_receiver {r : Receiver} (h : s.receiver serial = some (slot, r)) :
    (slot, r) ∈ s.register.slots := (mem_of_findSerial h).1

theorem firstFree_free {t : Table Receiver} {k m : Nat} (h : firstFree t k m = some slot) :
    Table.fetch? t slot = none := by
  induction m generalizing k with
  | zero => cases h
  | succ m ih =>
    unfold firstFree at h
    split at h
    · rename_i hf
      cases h
      simpa using hf
    · exact ih h

theorem Register.nextFree_free {y : Register} (h : y.nextFree = some slot) : Table.fetch? y.slots slot = none := by
  unfold Register.nextFree Register.searchRound Register.searchForward at h
  split at h
  · split at h
    · rename_i hf
      exact firstFree_free (h ▸ hf)
    · exact firstFree_free h
  · exact firstFree_free h

theorem registerReply_acts {cls : RxClass} : Acts x L s (registerReply serial cls s).st := by
  unfold registerReply
  split
  · exact .refl
  rename_i hn
  split
  · exact .refl
  · rename_i hf
    exact .of (.register hn (firstFree_free hf))

theorem registerNextReply_acts {cls : RxClass} : Acts x L s (registerNextReply serial cls s).st := by
  unfold registerNextReply
  split
  · exact .refl
  rename_i hn
  split
  · exact .refl
  · rename_i hf
    exact .head (.register hn (Register.nextFree_free hf)) (.single .window)

theorem readNextReply_acts : Acts x L s (readNextReply s).st := by
  unfold readNextReply
  split <;> exact .of .window

theorem withdrawReply_acts : Acts x L s (withdrawReply serial s).st := by
  unfold withdrawReply
  split
  · exact .refl
  rename_i hf
  split
  · exact .refl
  · rename_i ho
    exact .of (.freeSlot hf (by simpa using ho))

theorem repairedReply_acts : Acts x L s (repairedReply serial s).st := by
  unfold repairedReply
  split
  · exact .refl
  rename_i hf
  split
  · rename_i hs
    exact .of (.service (State.mem_of_receiver hf) rfl rfl (by simp [Receiver.onHire, hs]) rfl)
  · exact .refl

/-- R132: a rack result changes neither the serial nor the hire of a record that takes it, which is off hire. -/
theorem Receiver.racked_service {r r' : Receiver} {result : RackResult} (h : r.racked result = some r') :
    r'.serial = r.serial ∧ r'.hire = r.hire ∧ r'.onHire = r.onHire ∧ r'.orphaned = r.orphaned := by
  unfold Receiver.racked at h
  split at h <;> cases h <;> rename_i hs <;> simp [Receiver.onHire, hs]

theorem Receiver.autoReturned_service (r : Receiver) (result : RackResult) :
    (r.autoReturned result).serial = (r.offHire .charging).serial ∧
      (r.autoReturned result).hire = (r.offHire .charging).hire ∧
      (r.autoReturned result).onHire = (r.offHire .charging).onHire ∧
      (r.autoReturned result).orphaned = (r.offHire .charging).orphaned := by
  unfold Receiver.autoReturned
  cases h : (r.offHire .charging).racked result with
  | none => simp
  | some r' => exact Receiver.racked_service h

theorem rackReportReply_acts {result : RackResult} : Acts x L s (rackReportReply serial result s).st := by
  unfold rackReportReply
  split
  · exact .refl
  rename_i slot r hf
  have hmem := State.mem_of_receiver hf
  split
  · rename_i h ho hh
    unfold autoReturnReply
    split
    · exact .of (.service hmem rfl rfl rfl rfl)
    · rename_i hroom
      obtain ⟨hs, hi, hon, hor⟩ := r.autoReturned_service result
      refine .head (.leaveHire (way := .rack) hf ho hh (by simpa using hroom))
        (.head (b := (s.leaveHire slot r h .rack).raiseCounter .rackReturn 1) (.flags fun hw => ?_)
          (.single (.service (r := r.offHire .charging) ?_ hs hi hon hor)))
      · show Table.wf 0 (Table.store _ _ _ _) = true
        exact Table.wf_store _ _ _ _ hw
      · rw [State.raiseCounter_register, State.leaveHire_slots]
        exact (Table.mem_place _ _ _ _).mpr (.inl rfl)
  · unfold rackReply
    split
    · rename_i hr
      obtain ⟨hs, hi, hon, hor⟩ := Receiver.racked_service hr
      exact .of (.service hmem hs hi hon hor)
    · exact .refl

theorem foundReply_acts : Acts x L s (foundReply serial s).st := by
  unfold foundReply
  split
  · exact .refl
  rename_i hf
  split
  · exact .refl
  rename_i hs
  split
  · exact .refl
  · rename_i hroom
    exact .of (.found hf (by simpa using hs) (by simpa using hroom))

theorem leaveReply_acts {way : Leaving} : Acts x L s (leaveReply serial way s).st := by
  unfold leaveReply
  split
  · exact .refl
  rename_i hf
  split
  · rename_i ho hh
    split
    · exact .refl
    · rename_i hroom
      exact .of (.leaveHire hf ho hh (by simpa using hroom))
  · exact .refl

theorem presetReply_acts {lang : Nat} : Acts x L s (presetReply serial lang s).st := by
  unfold presetReply
  split
  · exact .refl
  rename_i hf
  split
  · rename_i ho hh
    split
    · exact .refl
    · exact .of (.changePreset hf ho hh)
  · exact .refl

theorem issueReply_acts {preset collected : Nat} : Acts x L s (issueReply serial n preset collected s).st := by
  unfold issueReply
  split
  · exact .refl
  rename_i hf
  split
  · exact .refl
  rename_i hav
  unfold issueToAccount
  split
  · exact .refl
  rename_i a ha
  split
  · exact .refl
  split
  · exact .refl
  rename_i hlimit
  split
  · exact .refl
  split
  · exact .refl
  · exact .of (.issue hf (by simpa using hav) ha hlimit)

theorem acctOpenReply_acts {kind : AccountKind} {limit credit : Nat} :
    Acts x L s (acctOpenReply n (Account.opened kind limit credit) s).st := by
  unfold acctOpenReply
  split
  · exact .refl
  rename_i hn
  split
  · exact .refl
  · exact .of (.acctOpen (by simpa using hn))

theorem acctLimitReply_acts {limit credit : Nat} : Acts x L s (acctLimitReply n limit credit s).st := by
  unfold acctLimitReply
  split
  · exact .refl
  rename_i ha
  split
  · exact .refl
  · rename_i hl
    exact .of (.acctChange ha (.inl ⟨limit, credit, rfl, Nat.le_of_not_lt hl⟩))

theorem acctPayReply_acts {amount : Nat} : Acts x L s (acctPayReply n amount s).st := by
  unfold acctPayReply
  split
  · exact .refl
  · rename_i ha
    exact .of (.acctChange ha (.inr ⟨amount, rfl⟩))

theorem acctCloseReply_acts : Acts x L s (acctCloseReply n s).st := by
  unfold acctCloseReply
  split
  · exact .refl
  rename_i ha
  split
  · exact .refl
  rename_i ho
  split
  · exact .refl
  · rename_i hr
    exact .of (.acctClose ha (by simpa using ho) (by simpa using hr))

theorem jnlAckReply_acts {sequence : Nat} : Acts x L s (jnlAckReply sequence s).st := by
  unfold jnlAckReply
  split
  · exact .refl
  rename_i e rest he
  split
  · exact .of (.acknowledge he)
  · exact .refl

end Hires

/-! ## Every request -/

/-- The flags that a selection clears go; the others stay listed. -/
theorem FlagSet.clear_counts_wf {f : FlagSet} {selection : Half} (h : Table.wf 0 f.counts = true) :
    Table.wf 0 (f.clear selection).counts = true := by
  rw [Table.wf_iff] at h ⊢
  exact ⟨List.Pairwise.filter _ h.1, fun e he => h.2 e (List.mem_of_mem_filter he)⟩

theorem deskRule_acts {x : Option Nat} {L : Prop} {s : State} {b d : Nat} {rule : State → Claim}
    (h : s.framer.state = .onAir → s.deskInUse b d = true → Acts x L s (rule s).st) :
    Acts x L s (deskRule b d rule s).st := by
  unfold deskRule withLamp
  split
  · exact .refl
  rename_i ha
  split
  · exact .refl
  · rename_i hd
    exact h (s.onAir_iff.mp (by simpa using ha)) (by simpa using hd)

theorem State.MicLaw.offerOk {s : State} (h : s.MicLaw) (b : Nat) : s.offerOk b := h.offer b

/-- The requests that may leave an offer without a live desk for a moment: all others never do. -/
def Instr.moves : Instr → Bool
  | .micOff _ _ | .output _ _ _ => true
  | _ => false

/-- Every other request is a chain of acts that leaves no offer without a live desk. -/
theorem rule_acts {i : Instr} {L : Prop} {s : State} (hc : ∀ ok ∈ i.checks s, ok = true) (hm : Instr.moves i = false) :
    Acts none L s (i.rule s).st := by
  cases i <;> simp only [Instr.checks, List.mem_cons, List.not_mem_nil, or_false, forall_eq_or_imp, forall_eq] at hc <;>
    dsimp only [Instr.rule]
  case micOff => cases hm
  case output => cases hm
  case chSet => exact editBank_acts ((okBank_iff _).mp hc.1) rfl (.inl rfl) fun h => h _
  case boothSet =>
    obtain ⟨hk, -, -, ha, hb, -⟩ := hc
    refine editBank_acts ((okBank_iff _).mp hk) rfl (.inl rfl) fun h y => ?_
    rw [boothEntry_of_booths_store]
    split
    · exact BoothEntry.ofParams_inRange ha hb
    · exact h _ y
  case bankClear => exact editBank_acts ((okBank_iff _).mp hc) rfl (.inr rfl) fun _ _ => BoothEntry.cleared_inRange _
  case bankCopy =>
    simp only [Bool.and_eq_true] at hc
    exact editBank_acts ((okBank_iff _).mp hc.2.1) (Bank.copy_editable _) (.inr (Bank.copy_alloc _))
      fun h => Bank.copy_inRange (h _)
  case bankCheck k =>
    unfold bankCheckReply
    split
    · exact .refl
    · exact .of (.check ((okBank_iff _).mp hc))
  case start => exact startReply_acts ((okBank_iff _).mp hc)
  case switch => exact switchReply_acts ((okBank_iff _).mp hc)
  case standby => exact standbyReply_acts
  case announce => exact announceReply_acts
  case announceEnd => exact announceEndReply_acts
  case lineMode => exact .of .lineMode
  case handoverSet => exact .of .handoverSet
  case forceOff => exact forceOffReply_acts
  case liveReset => exact liveReset_acts
  case floorLang => exact .of .floorLanguage
  case relaySet => exact .of .relaySet
  case sittingOpen =>
    split
    · exact .refl
    rename_i ho
    split
    · exact .refl
    · rename_i ha
      dsimp only
      exact .of (.openSitting (s.onAir_iff.mp (by simpa using ha)) (by simpa using ho))
  case sittingClose =>
    split
    · rename_i ho
      dsimp only
      exact .of (.closeSitting ho)
    · exact .refl
  case returnGrace => exact .of (.returnGrace (Nat.min_le_left ..))
  case tariffSet =>
    split
    · exact .refl
    · exact .of .tariff
  case jnlRead =>
    unfold jnlReadReply
    split <;> exact .refl
  case jnlAck => exact jnlAckReply_acts
  case rxQuery l serial =>
    unfold queryReply
    split <;> exact .refl
  case acctQuery l n =>
    unfold acctQueryReply
    split <;> exact .refl
  case flagsClear => exact .of (.flags FlagSet.clear_counts_wf)
  case maskSet => exact .of (.flags id)
  case rxRegister => exact registerReply_acts
  case rxRegisterNext => exact registerNextReply_acts
  case rxWindow => exact .of .window
  case rxReadNext => exact readNextReply_acts
  case rxWithdraw => exact withdrawReply_acts
  case repaired => exact repairedReply_acts
  case rackReport => exact rackReportReply_acts
  case acctOpen => exact acctOpenReply_acts
  case acctLimit => exact acctLimitReply_acts
  case acctPay => exact acctPayReply_acts
  case acctClose => exact acctCloseReply_acts
  case issue => exact issueReply_acts
  case rxPreset => exact presetReply_acts
  case rxReturn => exact leaveReply_acts
  case lost => exact leaveReply_acts
  case found => exact foundReply_acts
  case micOn =>
    exact deskRule_acts fun ha _ => micOn_acts ha ((okBooth_iff _).mp hc.1) ((okDesk_iff _).mp hc.2)
  case coughOn => exact deskRule_acts fun _ _ => setCough_acts
  case coughOff => exact deskRule_acts fun _ _ => setCough_acts
  case signOn =>
    refine deskRule_acts fun _ _ => ?_
    split
    · exact .refl
    · exact .of (.interpreter ((okDesk_iff _).mp hc.2.1))
  case signOff => exact deskRule_acts fun _ _ => .of (.interpreter ((okDesk_iff _).mp hc.2))
  case source =>
    exact deskRule_acts fun ha hd => changeSource_acts ha ((okBooth_iff _).mp hc.1) (isSome_planBooth_of_deskInUse hd)
  case poll =>
    split
    · exact .refl
    split <;> exact .refl
  all_goals exact .refl

/-- Every request is a chain of acts; after MIC_OFF and OUTPUT the desk's booth has no offer without a live desk. -/
theorem rule_acts_moving {i : Instr} {s : State} (hc : ∀ ok ∈ i.checks s, ok = true) :
    ∃ x, Acts x s.MicLaw s (i.rule s).st ∧ ∀ b, x = some b → s.MicLaw → (i.rule s).st.offerOk b := by
  cases hm : Instr.moves i with
  | false => exact ⟨none, rule_acts hc hm, by simp⟩
  | true =>
    cases i <;> simp only [Instr.checks, List.mem_cons, List.not_mem_nil, or_false, forall_eq_or_imp, forall_eq] at hc
    case micOff b d =>
      simp only [Instr.rule, deskRule, withLamp]
      split
      · exact ⟨none, .refl, by simp⟩
      rename_i ha
      split
      · exact ⟨none, .refl, by simp⟩
      · obtain ⟨x, h, hok⟩ := micOff_acts (L := s.MicLaw) (d := d) (s.onAir_iff.mp (by simpa using ha))
          ((okBooth_iff _).mp hc.1) fun hL => hL.offering b
        exact ⟨x, h, fun b' hb _ => hok b' hb⟩
    case output b d place =>
      simp only [Instr.rule, deskRule, withLamp]
      split
      · exact ⟨none, .refl, by simp⟩
      rename_i ha
      split
      · exact ⟨none, .refl, by simp⟩
      · exact changeOutput_acts id (s.onAir_iff.mp (by simpa using ha)) ((okBooth_iff _).mp hc.1)
          ((okDesk_iff _).mp hc.2.1)
    all_goals cases hm

/-! ## Every command -/

/-- Everything that a command can do: power-on, the pin, or a chain of acts, up to wires and queues. -/
theorem exec_acts {c : Instr} {s t : State} (h : exec c s = .next t) :
    (∃ hi de, c = .powerOn hi de ∧ t = s.powered hi de) ∨ (c = .resetPin ∧ t = s.pinReset) ∨
      (c = .resetPinRelease ∧ t = s.setHeld false) ∨
      ∃ x u, Acts x s.MicLaw s u ∧ (∀ b, x = some b → s.MicLaw → u.offerOk b) ∧ u.alike t := by
  have idle {u : State} (hu : s.alike u) (hx : exec c s = .next u) :
      ∃ x u, Acts x s.MicLaw s u ∧ (∀ b, x = some b → s.MicLaw → u.offerOk b) ∧ u.alike t := by
    rw [hx] at h
    cases h
    exact ⟨none, s, .refl, by simp, hu⟩
  have acts {u : State} (hu : Acts none s.MicLaw s u) (hx : exec c s = .next u) :
      ∃ x u, Acts x s.MicLaw s u ∧ (∀ b, x = some b → s.MicLaw → u.offerOk b) ∧ u.alike t := by
    rw [hx] at h
    cases h
    exact ⟨none, _, hu, by simp, State.alike_refl _⟩
  have request {r : Request} (hr : c.request = some r) :
      ∃ x u, Acts x s.MicLaw s u ∧ (∀ b, x = some b → s.MicLaw → u.offerOk b) ∧ u.alike t := by
    cases hrec : s.receives r.link with
    | false => exact idle s.alike_refl (exec_not_received hr hrec)
    | true =>
      obtain ⟨u, code, fields, hx, hu⟩ := exec_received hr hrec
      rw [hx] at h
      cases h
      rcases hu with rfl | ⟨rfl, hbad⟩
      · exact ⟨none, _, .refl, by simp, State.alike_post _ _ _⟩
      · obtain ⟨x, ha, hok⟩ := rule_acts_moving ((firstBad_none_iff _ _).mp hbad)
        exact ⟨x, _, ha, hok, State.alike_post _ _ _⟩
  cases c
  case powerOn hi de => cases h; exact .inl ⟨hi, de, rfl, rfl⟩
  case resetPin => cases h; exact .inr (.inl ⟨rfl, rfl⟩)
  case resetPinRelease => cases h; exact .inr (.inr (.inl ⟨rfl, rfl⟩))
  case standbyFinalFrameEnd =>
    refine .inr (.inr (.inr (acts ?_ rfl)))
    split
    · exact .of .closeFinal
    · exact .refl
  case settleTick =>
    refine .inr (.inr (.inr (acts ?_ rfl)))
    split
    · rename_i hs
      unfold State.settleTick
      split
      · exact .of (.endSettle hs)
      · rename_i hm
        exact .of (.settle hs hm)
    · exact .refl
  case frameBoundary =>
    refine .inr (.inr (.inr (acts ?_ rfl)))
    split
    · rename_i ha
      exact .of (.boundary (s.onAir_iff.mp ha))
    · exact .refl
  case meterSecond =>
    refine .inr (.inr (.inr (acts ?_ rfl)))
    split
    · exact .refl
    · exact .head .countSecond (.head .tickGrace (.single .tickTimers))
  case offerTimerExpiry b =>
    refine .inr (.inr (.inr (acts ?_ rfl)))
    split
    · refine .tail cancelOffer_acts (.flags (s := s.cancelOffer b) (l := .console)
        (f := ((s.cancelOffer b).flags .console).raise ConsoleFlag.offerExpired.bit 1) fun hw => ?_)
      show Table.wf 0 (Table.store _ _ _ _) = true
      exact Table.wf_store _ _ _ _ hw
    · exact .refl
  case holdTimerExpiry b =>
    refine .inr (.inr (.inr (acts ?_ rfl)))
    split
    · rename_i hd
      exact .of (.holdExpired hd)
    · exact .refl
  case returnGraceExpiry =>
    refine .inr (.inr (.inr (acts ?_ rfl)))
    split
    · rename_i hg
      rw [show s.graceExpired = s.tickGrace by simp [State.tickGrace, hg]]
      exact .of .tickGrace
    · exact .refl
  case badCrcFrame l =>
    refine .inr (.inr (.inr ?_))
    cases l
    · refine idle (u := s.consoleDiscard) ?_ rfl
      unfold State.consoleDiscard
      split
      · exact s.alike_refl
      · exact s.alike_setConsole _
    · exact idle (s.alike_setReceive _ _) rfl
    · exact idle (s.alike_setReceive _ _) rfl
  case unknownRequest l code params =>
    refine .inr (.inr (.inr ?_))
    cases hans : l.turnsAway code params.length with
    | none => exact idle s.alike_refl (by show execUnknownRequest l code params s = _; simp [execUnknownRequest, hans])
    | some a =>
      cases hrec : s.receives l with
      | true => exact idle (s.alike_post _ _) (exec_unknownRequest_of_turnsAway hrec hans)
      | false =>
        refine idle s.alike_refl ?_
        show execUnknownRequest l code params s = _
        simp [execUnknownRequest, hans, serve, hrec]
  case zeroLengthFrame l => exact .inr (.inr (.inr (idle (s.alike_setReceive _ _) rfl)))
  case uartGapTimeout l byte => exact .inr (.inr (.inr (idle (s.alike_setReceive _ _) rfl)))
  case uartFramingError l => exact .inr (.inr (.inr (idle (s.alike_setReceive _ _) rfl)))
  case selectDeassert => exact .inr (.inr (.inr (idle (s.alike_setConsole _) rfl)))
  case answerSent l =>
    refine .inr (.inr (.inr ?_))
    cases l
    · exact idle (s.alike_setConsole _) rfl
    · exact idle (s.alike_setUart .counter _) rfl
    · exact idle (s.alike_setUart .desk _) rfl
  all_goals exact .inr (.inr (.inr (request rfl)))

/-! ## Every step -/

/-- What wires and queues, the resets and every command keep, every step keeps. -/
theorem step_keeps {P : State → Prop} (halike : ∀ s t, s.alike t → P s → P t)
    (hexec : ∀ c s t, exec c s = .next t → P s → P t) {s t : State} (hs : P s) (h : step s = .next t) : P t := by
  rcases step_cases h with ⟨c, rest, -, hx⟩ | ⟨-, a, rest, -, hb⟩ | ⟨-, -, rfl⟩
  · exact hexec _ _ _ hx (halike _ _ (s.alike_setPending rest) hs)
  · have ha : P (s.setArriving rest) := halike _ _ (s.alike_setArriving rest) hs
    have hr (r : Receive) : P (((s.setArriving rest).shiftOut a.link).setReceiver a.link r) :=
      halike _ _ (State.alike_trans (State.alike_shiftOut _ _) (State.alike_setReceiver _ _ _)) ha
    rcases State.takeByte_cases hb with ⟨-, rfl⟩ | ⟨-, -, rfl⟩ | ⟨-, -, r, -, ⟨-, rfl⟩ | ⟨f, -, ⟨-, rfl⟩ | ⟨i, -, hi⟩⟩⟩
    · exact ha
    · exact halike _ _ (State.alike_shiftOut _ _) ha
    · exact hr _
    · exact hr _
    · exact hexec _ _ _ hi (hr _)
  · exact hs

/-- A law that power-on and the pin establish or keep, that says nothing of wires and queues, and that every act keeps. -/
theorem exec_keeps_of_acts {P : State → Prop} (halike : ∀ s t, s.alike t → P s → P t)
    (hpower : ∀ s h d, P s → P (s.powered h d)) (hpin : ∀ s, P s → P s.pinReset)
    (hheld : ∀ s, P s → P (s.setHeld false)) (hact : ∀ x L s t, Act x L s t → P s → P t) (c : Instr) (s t : State)
    (h : exec c s = .next t) (hs : P s) : P t := by
  rcases exec_acts h with ⟨hi, de, -, rfl⟩ | ⟨-, rfl⟩ | ⟨-, rfl⟩ | ⟨x, u, hu, -, ha⟩
  · exact hpower s hi de hs
  · exact hpin s hs
  · exact hheld s hs
  · exact halike _ _ ha (Acts.keeps (hact x s.MicLaw) hu hs)

end Sys2Proof.Machine
end

section
/-! O1 and O2: a step and a command; O53: the journal's law is kept, act by act. -/

namespace Sys2Proof.Machine

/-! ## A step, and a command -/

/-- Settles O1: `step` and `takeArrival` case by case. -/
theorem stepTakesFrontCommand : Obligations.StepTakesFrontCommand := by
  refine ⟨fun c rest s h => by simp [step, h], fun s hp => ⟨fun ha => ?_, fun a rest ha => ?_⟩⟩
  · simp [step, hp, State.takeArrival, ha]
  · simp [step, hp, State.takeArrival, ha]

/-- Every command leads to a next state. -/
theorem exec_next (c : Instr) (s : State) : ∃ t, exec c s = .next t := by
  cases h : c.request with
  | some r =>
    rw [exec_request h]
    exact serve_next _ _ _ _
  | none =>
    cases c <;> cases h
    case none.unknownRequest.refl l code params =>
      show ∃ t, execUnknownRequest l code params s = _
      unfold execUnknownRequest
      split
      · exact serve_next _ _ _ _
      · exact ⟨_, rfl⟩
    case none.badCrcFrame.refl l => cases l <;> exact ⟨_, rfl⟩
    case none.answerSent.refl l => cases l <;> exact ⟨_, rfl⟩
    all_goals exact ⟨_, rfl⟩

/-- Two states alike have the same straps and reset pin. -/
theorem State.alike_pins {s t : State} (h : s.alike t) : t.straps = s.straps ∧ t.resetHeld = s.resetHeld := by
  obtain ⟨_, _, _, _, _, _, rfl⟩ := h
  exact ⟨rfl, rfl⟩

/-- No chain of acts touches the straps and the pin. -/
theorem Acts.pins {x : Option Nat} {L : Prop} {s t : State} (h : Acts x L s t) :
    t.straps = s.straps ∧ t.resetHeld = s.resetHeld := by
  refine Acts.keeps (P := fun u => u.straps = s.straps ∧ u.resetHeld = s.resetHeld) (fun u v huv hu => ?_) h ⟨rfl, rfl⟩
  obtain ⟨hst, hheld, -⟩ := huv.frame
  exact ⟨hst.trans hu.1, hheld.trans hu.2⟩

/-! ## The queues -/

@[simp] theorem State.setReceive_queues (s : State) (l : UartLink) (r : Receive) :
    (s.setReceive l r).pending = s.pending ∧ (s.setReceive l r).arriving = s.arriving := by
  unfold State.setReceive
  split <;> cases l <;> exact ⟨rfl, rfl⟩

@[simp] theorem State.consoleDiscard_queues (s : State) :
    s.consoleDiscard.pending = s.pending ∧ s.consoleDiscard.arriving = s.arriving := by
  unfold State.consoleDiscard
  split <;> exact ⟨rfl, rfl⟩

@[simp] theorem State.settleTick_queues (s : State) :
    s.settleTick.pending = s.pending ∧ s.settleTick.arriving = s.arriving := by
  unfold State.settleTick
  split <;> simp [State.endSettle]

/-- No command changes what waits in the queues. -/
theorem exec_queues {c : Instr} {s t : State} (h : exec c s = .next t) :
    t.pending = s.pending ∧ t.arriving = s.arriving := by
  cases hr : c.request with
  | some r =>
    cases hrec : s.receives r.link with
    | false =>
      rw [exec_not_received hr hrec] at h
      cases h
      exact ⟨rfl, rfl⟩
    | true =>
      obtain ⟨u, code, fields, hx, hu⟩ := exec_received hr hrec
      rw [hx] at h
      cases h
      rcases hu with rfl | ⟨rfl, hbad⟩
      · simp
      · obtain ⟨x, ha, -⟩ := rule_acts_moving ((firstBad_none_iff _ _).mp hbad)
        have hq := Acts.keeps (P := fun u => u.pending = s.pending ∧ u.arriving = s.arriving)
          (fun u v huv hu => ⟨huv.frame.2.2.1.trans hu.1, huv.frame.2.2.2.1.trans hu.2⟩) ha ⟨rfl, rfl⟩
        simpa using hq
  | none =>
    cases c <;> cases hr
    case none.unknownRequest.refl l code params =>
      have h' : execUnknownRequest l code params s = .next t := h
      unfold execUnknownRequest at h'
      split at h'
      · rcases serve_cases h' with ⟨-, rfl⟩ | ⟨-, rfl⟩ <;> simp
      · cases h'
        exact ⟨rfl, rfl⟩
    case none.badCrcFrame.refl l => cases l <;> cases h <;> simp
    case none.answerSent.refl l => cases l <;> cases h <;> exact ⟨rfl, rfl⟩
    all_goals cases h
    case none.powerOn.refl | none.resetPin.refl | none.resetPinRelease.refl | none.selectDeassert.refl => exact ⟨rfl, rfl⟩
    case none.zeroLengthFrame.refl | none.uartGapTimeout.refl | none.uartFramingError.refl => simp
    all_goals split <;> simp [State.offerExpired, State.closeFinal]

/-- Settles O2, by `exec_next`, `exec_queues` and the frame of the acts. -/
theorem everyCommandHasANextState : Obligations.EveryCommandHasANextState := by
  intro c s
  obtain ⟨t, ht⟩ := exec_next c s
  obtain ⟨hp, ha⟩ := exec_queues ht
  refine ⟨t, ht, hp, ha, fun hpower => ?_⟩
  rcases exec_acts ht with ⟨hi, de, rfl, -⟩ | ⟨rfl, rfl⟩ | ⟨rfl, rfl⟩ | ⟨x, u, hu, -, halike⟩
  · exact absurd rfl (hpower hi de)
  · exact ⟨rfl, fun hne => absurd rfl hne⟩
  · exact ⟨rfl, fun _ hne => absurd rfl hne⟩
  · obtain ⟨hs1, hs2⟩ := State.alike_pins halike
    obtain ⟨hu1, hu2⟩ := Acts.pins hu
    exact ⟨hs1.trans hu1, fun _ _ => hs2.trans hu2⟩

end Sys2Proof.Machine
end

section
/-! O53: the journal's law is kept, act by act. What an operation does to the journal is said once for each operation that
writes entries: it keeps the law. -/

namespace Sys2Proof.Machine

/-! ## Writing and acknowledging keep the law -/

theorem nextSequence_range {n : Nat} (h : 1 ≤ n ∧ n ≤ Config.max32) :
    1 ≤ nextSequence n ∧ nextSequence n ≤ Config.max32 := by
  unfold nextSequence
  split
  · simp [Config.max32]
  · omega

theorem Journal.numbers_append (j : Journal) (time : Nat) (body : EntryBody) :
    (j.append time body).numbers = j.numbers ++ [nextSequence j.next] := by
  simp [Journal.numbers, Journal.append]

/-- The law after an entry written while one is free. -/
theorem Journal.Law.append {j : Journal} (h : j.Law) (room : j.free ≠ 0) (time : Nat) (body : EntryBody) :
    (j.append time body).Law where
  size := by
    simp only [Journal.append, List.length_append, List.length_cons, List.length_nil]
    simp only [Journal.free] at room
    omega
  range n hn := by
    rw [Journal.numbers_append, List.mem_append, List.mem_singleton] at hn
    rcases hn with hn | rfl
    · exact h.range n hn
    · exact nextSequence_range (h.range _ (by simp [Journal.numbers]))
  unbroken := by
    rw [Journal.numbers_append]
    refine h.unbroken.append (List.isChain_singleton _) fun x hx y hy => ?_
    simp only [Journal.numbers, List.getLast?_append, List.getLast?_singleton, Option.some_or, Option.mem_some_iff] at hx
    simp only [List.head?_cons, Option.mem_some_iff] at hy
    rw [← hx, ← hy]

/-- The law after the oldest entry has been acknowledged. -/
theorem Journal.Law.acknowledge {j : Journal} (h : j.Law) {e : Entry} {rest : List Entry} (he : j.entries = e :: rest) :
    Journal.Law { j with entries := rest } := by
  have hnum : j.numbers = e.seq :: ({ j with entries := rest } : Journal).numbers := by simp [Journal.numbers, he]
  refine ⟨?_, fun n hn => h.range n (by rw [hnum]; exact List.mem_cons_of_mem _ hn), ?_⟩
  · have := h.size
    rw [he] at this
    exact (Nat.le_succ _).trans this
  · have := h.unbroken
    rw [hnum] at this
    exact this.tail

/-! ## Operations that write entries -/

section Operations

variable {s : State}

theorem Journal.Law.writeEntry (h : s.journal.Law) (room : s.journal.free ≠ 0) (body : EntryBody) :
    (s.writeEntry body).journal.Law := by
  rw [State.writeEntry_journal]
  exact h.append room _ _

theorem Journal.Law.handOver (h : s.journal.Law) (body : EntryBody) : (s.handOver body).journal.Law := by
  rw [State.handOver_journal]
  split
  · exact h
  · next room => exact h.append room _ _

theorem Journal.Law.closeTurn (h : s.journal.Law) (b : Nat) (r : Reason) : (s.closeTurn b r).journal.Law := by
  unfold State.closeTurn State.endTurn
  split
  · exact h
  · split <;> exact Journal.Law.handOver (by simpa using h) _

theorem Journal.Law.release (h : s.journal.Law) (b c : Nat) (r : Reason) : (s.release b c r).journal.Law := by
  simpa [State.release] using Journal.Law.closeTurn (s := (s.clearLive b c).mixRelease c) (by simpa using h) b r

theorem Journal.Law.releaseBooth (h : s.journal.Law) (b : Nat) : (s.releaseBooth b).journal.Law := by
  unfold State.releaseBooth
  split
  · exact h.release _ _ _
  · exact h

theorem Journal.Law.liveReset (h : s.journal.Law) : s.liveReset.journal.Law :=
  List.foldlRecOn (motive := fun t : State => t.journal.Law) _ _ (by simpa using h) fun _ ht b _ => ht.releaseBooth b

theorem Journal.Law.leaveOld (h : s.journal.Law) (c : Nat) : (s.leaveOld c).journal.Law := by
  unfold State.leaveOld
  split
  · simpa using h
  · exact h

theorem Journal.Law.reportCarry (h : s.journal.Law) (x : Carry) : (s.reportCarry x).journal.Law := by
  unfold State.reportCarry
  split
  · exact (h.leaveOld _).closeTurn _ _
  · split
    · simpa using h
    · simpa using Journal.Law.closeTurn (s := (s.leaveOld x.old).mixGrant _ _) (by simpa using h.leaveOld x.old) _ _

theorem Journal.Law.planTaken (h : s.journal.Law) : s.planTaken.journal.Law := by
  have hc : (s.dropRamps.endAllHolds).carryOver.journal.Law :=
    List.foldlRecOn (motive := fun t : State => t.journal.Law) _ _
      (by simpa [State.clearLives] using h) fun _ ht x _ => ht.reportCarry x
  simpa [State.planTaken] using hc

theorem Journal.Law.boundary (h : s.journal.Law) : s.boundary.journal.Law := by
  unfold State.boundary State.nextFrame
  split
  · exact Journal.Law.planTaken (by simpa using h)
  · simpa using h

theorem Journal.Law.handover (h : s.journal.Law) (b d e c : Nat) : (s.handover b d e c).journal.Law := by
  simpa [State.handover] using
    Journal.Law.closeTurn (s := ((s.setLive b e c).dropOffer b).mixHandover c ⟨b, d⟩ ⟨b, e⟩) (by simpa using h) b _

theorem Journal.Law.setInterpreter (h : s.journal.Law) (b d : Nat) (who : Option Nat) :
    (s.setInterpreter b d who).journal.Law := by
  rcases s.setInterpreter_cases b d who with ⟨-, hs⟩ | ⟨-, ⟨-, hs⟩ | ⟨c, -, hs⟩⟩ <;> rw [hs]
  · exact h
  · simpa using h
  · simpa using Journal.Law.closeTurn (s := s.setDesk b d { s.desk b d with interpreter := who }) (by simpa using h) b _

theorem Journal.Law.closeSitting (h : s.journal.Law) : s.closeSitting.journal.Law := by
  have hc : (s.closeTurns .sittingClose).journal.Law :=
    List.foldlRecOn (motive := fun t : State => t.journal.Law) _ _ h fun _ ht b _ => ht.closeTurn b _
  have hh := Journal.Law.handOver (s := (s.closeTurns .sittingClose).closeRecord) (by simpa using hc)
    (.sitting (s.closeTurns .sittingClose).closeRecord.meter.sitting.body)
  simpa [State.closeSitting, State.handSitting] using hh

end Operations

/-! ## Every act and every step -/

theorem State.free_ne_zero_of_hireSideRoom {s : State} (h : s.hireSideRoom = true) : s.journal.free ≠ 0 := by
  have : Config.journalReserve < s.journal.free := by simpa [State.hireSideRoom] using h
  omega

theorem Act.journalLaw {x : Option Nat} {L : Prop} {s t : State} (a : Act x L s t) (h : s.journal.Law) :
    t.journal.Law := by
  cases a with
  | stop => simpa [State.stop] using Journal.Law.liveReset (s := s.retireBanks.stopFramer.relayStandby) (by simpa using h)
  | endSettle => exact Journal.Law.planTaken (by simpa using h)
  | boundary => exact h.boundary
  | release => exact h.release _ _ _
  | handover => exact h.handover _ _ _ _
  | interpreter => exact h.setInterpreter _ _ _
  | closeSitting => exact h.closeSitting
  | acctClose _ _ room => simpa using h.writeEntry (State.free_ne_zero_of_hireSideRoom room) _
  | found _ _ room => simpa using h.writeEntry (State.free_ne_zero_of_hireSideRoom room) _
  | leaveHire _ _ _ room =>
    rw [State.leaveHire_journal]
    exact h.append (State.free_ne_zero_of_hireSideRoom room) _ _
  | acknowledge oldest => exact h.acknowledge oldest
  | start | closeFinal | acceptSwitch | window | freeSlot | issue | changePreset =>
    simpa [State.beginSettle, State.commitBank, State.closeFinal, State.acceptSwitch, State.setWindow, State.freeSlot,
      State.issue, State.changePreset, State.setTally] using h
  | _ => simpa using h

/-- Two states alike have the same blocks but wires and queues. -/
theorem State.alike_journal {s t : State} (h : s.alike t) : t.journal = s.journal := by
  obtain ⟨_, _, _, _, _, _, rfl⟩ := h
  rfl

theorem Journal.law_empty : Journal.Law {} where
  size := by decide
  range := by simp [Journal.numbers, Config.max32]
  unbroken := by simp [Journal.numbers]

/-- Settles O53, act by act. -/
theorem journalLawKept : Obligations.JournalLawKept := by
  intro s t hs h
  have halike : ∀ s t : State, s.alike t → s.journal.Law → t.journal.Law := fun s t ha hl => by
    rw [State.alike_journal ha]
    exact hl
  refine step_keeps (P := fun s => s.journal.Law) halike (exec_keeps_of_acts halike ?_ ?_ ?_ ?_) hs h
  · intro s hi de _
    exact Journal.law_empty
  · intro s hl
    exact hl
  · intro s hl
    exact hl
  · intro x L s t a hl
    exact a.journalLaw hl

end Sys2Proof.Machine
end

section
/-! O54: the plan's law is kept, act by act. First the banks and the framer after the operations that write them. -/

namespace Sys2Proof.Machine

/-! ## Banks and framer after an operation -/

theorem State.commitBank_bank (s : State) (k j : Nat) (st : BankStatus) :
    (s.commitBank k st).bank j =
      if j = k then { s.bank k with status := st, alloc := some (s.allocation (s.bank k)) } else s.bank j :=
  s.bank_setBank k j _

theorem State.retireBanks_bank (s : State) (k : Nat) :
    s.retireBanks.bank k = if k ∈ Config.bankNumbers then (s.bank k).offAir else s.bank k :=
  Table.fetch_fill _ _ _ _ _

theorem State.exchangeBanks_bank {s : State} {j : Nat} (h : s.onAirBank = some j) (k i : Nat) :
    (s.exchangeBanks k).bank i =
      if i = k then { s.bank k with status := .onAir }
      else if i = j then (s.bank j).retired else s.bank i := by
  simp only [State.exchangeBanks, h, State.bank_setBank]

@[simp] theorem State.beginFrame_framer (s : State) (t o m : Bool) :
    (s.beginFrame t o m).framer = { s.framer with frame := some (s.advanceRamps.newFrame t o m) } := by
  simp [State.beginFrame]

@[simp] theorem State.endFrame_framer (s : State) :
    s.endFrame.framer = { s.framer with trailer := some (trailerBytes false s.slots) } := rfl

@[simp] theorem State.endOverride_framer (s : State) :
    s.endOverride.framer = { s.framer with override := s.framer.override.atBoundary } := rfl

@[simp] theorem State.takeSwitch_banks (s : State) (k : Nat) : (s.takeSwitch k).banks = (s.exchangeBanks k).banks := by
  simp [State.takeSwitch]

/-- The framer's record of a switch taken, but for the frame begun. -/
theorem State.takeSwitch_framer (s : State) (k : Nat) :
    ∃ f, (s.takeSwitch k).framer = { s.framer.switched with frame := f } := by
  simp [State.takeSwitch]

/-- The framer's record at the end of the settle interval, but for the frame begun. -/
theorem State.endSettle_framer (s : State) : ∃ f, s.endSettle.framer = { s.framer.started with frame := f } := by
  simp [State.endSettle]

/-- The framer's record after a cut-in, but for the frame begun and the trailer. -/
theorem State.announce_framer (s : State) :
    ∃ f x, s.announce.framer = { s.framer.overridden with frame := f, trailer := x } :=
  ⟨_, _, by simp [State.announce, State.cutFrame, Framer.overridden, Framer.continued]; exact ⟨rfl, rfl⟩⟩

/-- Everything that a boundary can do to banks and framer: it takes the switch that is due, or continues the plan. -/
theorem State.boundary_cases (s : State) :
    (∃ k, s.framer.pendingSwitch = some k ∧ s.framer.override ≠ .on ∧
        s.boundary = s.endFrame.endOverride.takeSwitch k) ∨
      ((s.framer.pendingSwitch = none ∨ s.framer.override = .on) ∧
        s.boundary = (s.endFrame.endOverride.setFramer s.endFrame.endOverride.framer.continued).beginFrame false
          (decide (s.framer.override.atBoundary ≠ .off)) (decide (s.framer.override = .ending))) := by
  have hdue : s.endFrame.endOverride.dueSwitch =
      if s.framer.override = .on then none else s.framer.pendingSwitch := by
    simp only [State.dueSwitch, State.endOverride_framer, State.endFrame_framer]
    have hat (o : Override) : o.atBoundary = .off ↔ o ≠ .on := by cases o <;> simp [Override.atBoundary]
    simp only [hat, ite_not]
  unfold State.boundary State.nextFrame
  rw [hdue]
  by_cases ho : s.framer.override = .on
  · exact .inr ⟨.inr ho, by simp [ho]⟩
  · rw [if_neg ho]
    cases hp : s.framer.pendingSwitch with
    | some k => exact .inl ⟨k, rfl, ho, rfl⟩
    | none => exact .inr ⟨.inl rfl, rfl⟩

/-! ## What the law says of the bank on air -/

theorem State.PlanLaw.number_of_status {s : State} (h : s.PlanLaw) {k : Nat} (hk : (s.bank k).status ≠ .empty) :
    k ∈ Config.bankNumbers :=
  h.numbers k fun he => hk (by rw [he])

theorem State.PlanLaw.onAirBank_iff {s : State} (h : s.PlanLaw) (k : Nat) :
    s.onAirBank = some k ↔ (s.bank k).status = .onAir := by
  unfold State.onAirBank
  constructor
  · intro hk
    simpa using List.find?_some hk
  · intro hk
    cases hf : Config.bankNumbers.find? fun k => (s.bank k).status = .onAir with
    | none =>
      have := List.find?_eq_none.mp hf k (h.number_of_status (by simp [hk]))
      simp [hk] at this
    | some j => rw [h.one j k (by simpa using List.find?_some hf) hk]

theorem State.PlanLaw.exists_onAirBank {s : State} (h : s.PlanLaw) (hs : s.framer.state ≠ .standby) :
    ∃ k, s.onAirBank = some k := by
  obtain ⟨k, hk⟩ := h.live hs
  exact ⟨k, (h.onAirBank_iff k).mpr hk⟩

theorem State.PlanLaw.alloc_none {s : State} (h : s.PlanLaw) {k : Nat} (hk : (s.bank k).status.editable = true) :
    (s.bank k).alloc = none := by
  have := (h.alloc k).not
  rw [Bool.not_eq_true, Option.isSome_eq_false_iff, Option.isNone_iff_eq_none] at this
  exact this.mpr fun hst => by rcases hst with hst | hst <;> simp [hst, BankStatus.editable] at hk

theorem State.PlanLaw.congr_bank {s t : State} (h : s.PlanLaw) (hbank : t.bank = s.bank) (hf : t.framer = s.framer) :
    t.PlanLaw := by
  exact ⟨hf ▸ h.framer, hbank ▸ h.alloc, hbank ▸ h.numbers, hf ▸ hbank ▸ h.standby, hf ▸ hbank ▸ h.live,
    hbank ▸ h.one, hf ▸ hbank ▸ h.pending⟩

theorem State.PlanLaw.congr {s t : State} (h : s.PlanLaw) (hb : t.banks = s.banks) (hf : t.framer = s.framer) :
    t.PlanLaw := h.congr_bank (State.bank_congr hb) hf

/-- The law after a change of the framer alone that keeps its state and the pending switch. -/
theorem State.PlanLaw.of_framer {s t : State} (h : s.PlanLaw) (hb : t.banks = s.banks) (hf : t.framer.Law)
    (hst : t.framer.state = .standby ↔ s.framer.state = .standby)
    (hp : t.framer.pendingSwitch = s.framer.pendingSwitch) : t.PlanLaw := by
  have hbank := State.bank_congr hb
  refine ⟨hf, hbank ▸ h.alloc, hbank ▸ h.numbers, fun hs => ?_, fun hs => ?_, hbank ▸ h.one, ?_⟩
  · rw [hbank]
    exact h.standby (hst.mp hs)
  · rw [hbank]
    exact h.live fun hn => hs (hst.mpr hn)
  · rw [hbank, hp]
    exact h.pending

/-- With no bank locked and the framer in STANDBY without a switch, the law holds. -/
theorem State.planLaw_of_editable {s : State} (hf : s.framer.Law) (hs : s.framer.state = .standby)
    (hb : ∀ k, (s.bank k).status.editable = true ∧ (s.bank k).alloc = none)
    (hn : ∀ k, s.bank k ≠ {} → k ∈ Config.bankNumbers) : s.PlanLaw := by
  have hst (k : Nat) : (s.bank k).status ≠ .pending ∧ (s.bank k).status ≠ .onAir := by
    have := (hb k).1
    constructor <;> intro he <;> simp [he, BankStatus.editable] at this
  exact
    { framer := hf
      alloc := fun k => by simp [(hb k).2, (hst k).1, (hst k).2]
      numbers := hn
      standby := fun _ k => (hst k).2
      live := fun hne => absurd hs hne
      one := fun j _ hj => absurd hj (hst j).2
      pending := fun k => by simp [(hst k).1, hf.pending (by simp [hs])] }

/-! ## Framer counts -/

theorem Framer.Law.continued {f : Framer} (h : f.Law) : f.continued.Law where
  frameNumber := Nat.mod_lt _ (by decide)
  planNumber := h.planNumber
  fragment := Nat.mod_lt _ (by decide)
  settle := h.settle
  override := h.override
  pending := h.pending

theorem Framer.Law.of_onAir {f : Framer} (hs : f.state = .onAir) (hf : f.frameNumber < Config.frameModulus)
    (hp : f.planNumber < Config.planModulus) (hk : f.fragment < 8) (hset : f.settle = 0) : f.Law :=
  ⟨hf, hp, hk, by simp [hs, hset], fun h => absurd hs h, fun h => absurd hs h⟩

theorem Framer.Law.settle_of_onAir {f : Framer} (h : f.Law) (hs : f.state = .onAir) : f.settle = 0 := by
  have := h.settle
  simpa [hs] using this

/-! ## The acts that move banks or framer -/

section Acts

variable {s : State} {k : Nat}

theorem State.PlanLaw.edit (h : s.PlanLaw) {p : Bank} (hk : k ∈ Config.bankNumbers)
    (hold : (s.bank k).status.editable = true) (hnew : p.status.editable = true)
    (ha : p.alloc = (s.bank k).alloc ∨ p.alloc = none) : (s.setBank k p).PlanLaw := by
  have hp : p.alloc = none := by rcases ha with ha | ha <;> simp [ha, h.alloc_none hold]
  have hb := s.bank_setBank k (x := p)
  have hnp : p.status ≠ .pending ∧ p.status ≠ .onAir := by
    constructor <;> intro he <;> simp [he, BankStatus.editable] at hnew
  have hop : (s.bank k).status ≠ .pending ∧ (s.bank k).status ≠ .onAir := by
    constructor <;> intro he <;> simp [he, BankStatus.editable] at hold
  refine ⟨h.framer, fun j => ?_, fun j hj => ?_, fun hs j => ?_, fun hs => ?_, fun i j => ?_, fun j => ?_⟩
  · rw [hb]
    split
    · simp [hp, hnp]
    · exact h.alloc j
  · rw [hb] at hj
    split at hj
    · next he => exact he ▸ hk
    · exact h.numbers j hj
  · rw [hb]
    split
    · exact hnp.2
    · exact h.standby hs j
  · obtain ⟨j, hj⟩ := h.live hs
    refine ⟨j, ?_⟩
    rw [hb, if_neg fun he : j = k => hop.2 (he ▸ hj)]
    exact hj
  · simp only [hb]
    split
    · exact fun hi => absurd hi hnp.2
    · split
      · exact fun _ hj => absurd hj hnp.2
      · exact h.one i j
  · rw [hb]
    show _ ↔ s.framer.pendingSwitch = some j
    rw [← h.pending j]
    split
    · next he => simp [hnp, he, hop]
    · rfl

theorem State.PlanLaw.check (h : s.PlanLaw) (hk : k ∈ Config.bankNumbers) :
    (s.setBank k { s.bank k with status := (s.bank k).status.checked }).PlanLaw := by
  by_cases he : (s.bank k).status.editable = true
  · refine h.edit hk he ?_ (.inl rfl)
    cases hst : (s.bank k).status <;> simp [hst, BankStatus.editable, BankStatus.checked] at he ⊢
  · have hsame : (s.bank k).status.checked = (s.bank k).status := by
      cases hst : (s.bank k).status <;> simp [hst, BankStatus.editable, BankStatus.checked] at he ⊢
    have hb : (s.setBank k { s.bank k with status := (s.bank k).status.checked }).bank = s.bank := by
      funext j
      rw [State.bank_setBank, hsame]
      split
      · next hj => rw [hj]
      · rfl
    exact h.congr_bank hb rfl

theorem State.PlanLaw.start (h : s.PlanLaw) (hk : k ∈ Config.bankNumbers) (hs : s.framer.state = .standby) :
    ((s.commitBank k .onAir).beginSettle).PlanLaw := by
  have hb (j : Nat) : ((s.commitBank k .onAir).beginSettle).bank j =
      if j = k then { s.bank k with status := .onAir, alloc := some (s.allocation (s.bank k)) } else s.bank j :=
    s.commitBank_bank k j .onAir
  have hf : ((s.commitBank k .onAir).beginSettle).framer =
      { s.framer with state := .starting, settle := Config.settlePeriods } := rfl
  have hno := h.framer.pending (by simp [hs])
  refine ⟨?_, fun j => ?_, fun j hj => ?_, fun hn => ?_, fun _ => ⟨k, by simp [hb]⟩, fun i j => ?_, fun j => ?_⟩
  · rw [hf]
    exact ⟨h.framer.frameNumber, h.framer.planNumber, h.framer.fragment, by simp [Config.settlePeriods],
      fun _ => h.framer.override (by simp [hs]), fun _ => hno⟩
  · rw [hb]
    split
    · simp
    · exact h.alloc j
  · rw [hb] at hj
    split at hj
    · next he => exact he ▸ hk
    · exact h.numbers j hj
  · rw [hf] at hn
    cases hn
  · simp only [hb]
    split
    · next hi =>
      split
      · next hj => exact fun _ _ => hi.trans hj.symm
      · exact fun _ hj => absurd hj (h.standby hs j)
    · exact fun hi => absurd hi (h.standby hs i)
  · rw [hb, hf]
    show _ ↔ s.framer.pendingSwitch = some j
    rw [← h.pending j]
    split
    · next he =>
      have := (h.pending k).not.mpr (by simp [hno])
      simp [he, this]
    · rfl

theorem State.PlanLaw.acceptSwitch (h : s.PlanLaw) (hk : k ∈ Config.bankNumbers) (hs : s.framer.state = .onAir)
    (hfree : s.framer.pendingSwitch = none) (hother : s.onAirBank ≠ some k) : (s.acceptSwitch k).PlanLaw := by
  have hb (j : Nat) : (s.acceptSwitch k).bank j =
      if j = k then { s.bank k with status := .pending, alloc := some (s.allocation (s.bank k)) } else s.bank j :=
    s.commitBank_bank k j .pending
  have hf : (s.acceptSwitch k).framer = { s.framer with pendingSwitch := some k } := rfl
  have hnk : (s.bank k).status ≠ .onAir := fun he => hother ((h.onAirBank_iff k).mpr he)
  refine ⟨?_, fun j => ?_, fun j hj => ?_, fun hn => ?_, fun _ => ?_, fun i j => ?_, fun j => ?_⟩
  · rw [hf]
    exact .of_onAir hs h.framer.frameNumber h.framer.planNumber h.framer.fragment (h.framer.settle_of_onAir hs)
  · rw [hb]
    split
    · simp
    · exact h.alloc j
  · rw [hb] at hj
    split at hj
    · next he => exact he ▸ hk
    · exact h.numbers j hj
  · rw [hf] at hn
    exact absurd (hs.symm.trans hn) (by simp)
  · obtain ⟨j, hj⟩ := h.live (by simp [hs])
    exact ⟨j, by rw [hb, if_neg fun he : j = k => hnk (he ▸ hj)]; exact hj⟩
  · simp only [hb]
    split
    · simp
    · split
      · simp
      · exact h.one i j
  · rw [hb, hf]
    split
    · next he => simp [he]
    · next he =>
      rw [h.pending j, hfree]
      simp [Ne.symm he]

theorem State.PlanLaw.offAir_bank (h : s.PlanLaw) (k : Nat) :
    (s.retireBanks.bank k).status.editable = true ∧ (s.retireBanks.bank k).alloc = none := by
  rw [State.retireBanks_bank]
  by_cases hk : k ∈ Config.bankNumbers
  · rw [if_pos hk]
    unfold Bank.offAir
    split
    · next he => exact ⟨he, h.alloc_none he⟩
    · exact ⟨rfl, rfl⟩
  · rw [if_neg hk, show s.bank k = {} from Classical.byContradiction fun hne => hk (h.numbers k hne)]
    exact ⟨rfl, rfl⟩

theorem State.retireBanks_number {s : State} (h : ∀ k, s.bank k ≠ {} → k ∈ Config.bankNumbers) (k : Nat)
    (hk : s.retireBanks.bank k ≠ {}) : k ∈ Config.bankNumbers := by
  by_contra hn
  rw [State.retireBanks_bank, if_neg hn] at hk
  exact hn (h k hk)

/-- The law with every bank off air and the framer in STANDBY. -/
theorem State.PlanLaw.retire {t : State} (h : s.PlanLaw) (hb : t.banks = s.retireBanks.banks) (hf : t.framer.Law)
    (hs : t.framer.state = .standby) : t.PlanLaw := by
  have hbank := State.bank_congr hb
  refine State.planLaw_of_editable hf hs (fun k => ?_) fun k hk => ?_
  · rw [hbank]
    exact h.offAir_bank k
  · rw [hbank] at hk
    exact State.retireBanks_number h.numbers k hk

theorem State.PlanLaw.abandonStart (h : s.PlanLaw) (hs : s.framer.state = .starting) : s.abandonStart.PlanLaw := by
  refine h.retire (by simp [State.abandonStart]) ?_ (by simp [State.abandonStart])
  simp only [State.abandonStart, State.raise_framer, State.setFramer_framer]
  exact ⟨h.framer.frameNumber, h.framer.planNumber, h.framer.fragment, by simp,
    fun _ => h.framer.override (by simp [hs]), fun _ => h.framer.pending (by simp [hs])⟩

theorem State.PlanLaw.stop (h : s.PlanLaw) (hs : s.framer.state = .onAir) : s.stop.PlanLaw := by
  have hf : s.stop.framer = s.retireBanks.stopFramer.framer := by simp [State.stop]
  refine h.retire (by simp [State.stop]) ?_ (by rw [hf]; rfl)
  rw [hf]
  exact ⟨Nat.mod_lt _ (by decide), h.framer.planNumber, h.framer.fragment,
    by simpa [State.stopFramer] using h.framer.settle_of_onAir hs, fun _ => rfl, fun _ => rfl⟩

theorem State.PlanLaw.endSettle (h : s.PlanLaw) (hs : s.framer.state = .starting) : s.endSettle.PlanLaw := by
  obtain ⟨f, hf⟩ := s.endSettle_framer
  refine h.of_framer (by simp) ?_ (by simp [hf, hs, Framer.started]) (by rw [hf]; rfl)
  rw [hf]
  exact .of_onAir rfl h.framer.frameNumber (Nat.mod_lt _ (by decide)) (by simp [Framer.started]) rfl

/-- The law once the pending bank has come on air. -/
theorem State.PlanLaw.takeSwitch (h : s.PlanLaw) (hs : s.framer.state = .onAir) (hk : s.framer.pendingSwitch = some k) :
    (s.takeSwitch k).PlanLaw := by
  obtain ⟨f, hf⟩ := s.takeSwitch_framer k
  obtain ⟨j, hj⟩ := h.exists_onAirBank (by simp [hs])
  have hpk := (h.pending k).mpr hk
  have hoj := (h.onAirBank_iff j).mp hj
  have hkj : k ≠ j := fun he => by rw [he, hoj] at hpk; cases hpk
  have hb (i : Nat) : (s.takeSwitch k).bank i =
      if i = k then { s.bank k with status := .onAir } else if i = j then (s.bank j).retired else s.bank i := by
    rw [State.bank_congr (s.takeSwitch_banks k), State.exchangeBanks_bank hj]
  refine ⟨?_, fun i => ?_, fun i hi => ?_, fun hn => ?_, fun _ => ⟨k, by simp [hb]⟩, fun i i' => ?_, fun i => ?_⟩
  · rw [hf]
    exact .of_onAir hs (Nat.mod_lt _ (by decide)) (Nat.mod_lt _ (by decide)) (by simp [Framer.switched])
      (h.framer.settle_of_onAir hs)
  · rw [hb]
    split
    · simpa using (h.alloc k).mpr (.inl hpk)
    · split
      · simp [Bank.retired]
      · exact h.alloc i
  · rw [hb] at hi
    split at hi
    · next he => exact he ▸ h.number_of_status (by simp [hpk])
    · split at hi
      · next he => exact he ▸ h.number_of_status (by simp [hoj])
      · exact h.numbers i hi
  · rw [hf] at hn
    exact absurd (hs.symm.trans hn) (by simp)
  · have only (x : Nat) (hx : ((s.takeSwitch k).bank x).status = .onAir) : x = k := by
      rw [hb] at hx
      split at hx
      · assumption
      · split at hx
        · cases hx
        · next hne => exact absurd (h.one x j hx hoj) hne
    exact fun hi hi' => (only i hi).trans (only i' hi').symm
  · rw [hb, hf]
    show _ ↔ none = some i
    split
    · simp
    · split
      · simp [Bank.retired]
      · next hne _ => simpa [hk, Ne.symm hne] using h.pending i

theorem State.PlanLaw.boundary (h : s.PlanLaw) (hs : s.framer.state = .onAir) : s.boundary.PlanLaw := by
  have he : s.endFrame.endOverride.PlanLaw := by
    refine h.of_framer (by simp) ?_ (by simp) (by simp)
    exact .of_onAir hs h.framer.frameNumber h.framer.planNumber h.framer.fragment (h.framer.settle_of_onAir hs)
  rcases s.boundary_cases with ⟨k, hk, -, hb⟩ | ⟨-, hb⟩ <;> rw [hb]
  · exact he.takeSwitch hs hk
  · refine he.of_framer (by simp) ?_ (by simp [Framer.continued]) (by simp [Framer.continued])
    have := he.framer.continued
    exact ⟨this.frameNumber, this.planNumber, this.fragment, this.settle, this.override, this.pending⟩

theorem State.PlanLaw.announce (h : s.PlanLaw) (hs : s.framer.state = .onAir) : s.announce.PlanLaw := by
  obtain ⟨f, x, hf⟩ := s.announce_framer
  refine h.of_framer (by simp) ?_ (by simp [hf, Framer.overridden, Framer.continued]) (by rw [hf]; rfl)
  rw [hf]
  exact .of_onAir hs (Nat.mod_lt _ (by decide)) h.framer.planNumber (Nat.mod_lt _ (by decide))
    (h.framer.settle_of_onAir hs)

end Acts

/-! ## Every act and every step -/

theorem Act.planLaw {x : Option Nat} {L : Prop} {s t : State} (a : Act x L s t) (h : s.PlanLaw) : t.PlanLaw := by
  cases a with
  | edit number editable status alloc => exact h.edit number editable status alloc
  | check number => exact h.check number
  | start number standby => exact h.start number standby
  | abandonStart starting => exact h.abandonStart starting
  | stop onAir => exact h.stop onAir
  | closeFinal =>
    exact h.of_framer (by simp [State.closeFinal]) ⟨h.framer.frameNumber, h.framer.planNumber,
      h.framer.fragment, h.framer.settle, h.framer.override, h.framer.pending⟩ (by simp [State.closeFinal])
      (by simp [State.closeFinal])
  | settle starting more =>
    have hset := h.framer.settle
    rw [if_pos starting] at hset
    refine h.of_framer (by simp) ⟨h.framer.frameNumber, h.framer.planNumber, h.framer.fragment, ?_,
      h.framer.override, h.framer.pending⟩ (by simp) (by simp)
    rw [State.setFramer_framer, if_pos starting]
    dsimp only
    omega
  | endSettle starting => exact h.endSettle starting
  | acceptSwitch number onAir free other => exact h.acceptSwitch number onAir free other
  | boundary onAir => exact h.boundary onAir
  | announce onAir => exact h.announce onAir
  | announceEnd on =>
    have hs : s.framer.state = .onAir := by
      by_contra hne
      rw [h.framer.override hne] at on
      cases on
    exact h.of_framer (by simp) (.of_onAir hs h.framer.frameNumber h.framer.planNumber h.framer.fragment
      (h.framer.settle_of_onAir hs)) (by simp) (by simp)
  | lineMode =>
    exact h.of_framer (by simp) ⟨h.framer.frameNumber, h.framer.planNumber, h.framer.fragment,
      h.framer.settle, h.framer.override, h.framer.pending⟩ (by simp) (by simp)
  | @interpreter b d who =>
    rcases s.setInterpreter_cases b d who with ⟨-, hs⟩ | ⟨-, ⟨-, hs⟩ | ⟨c, -, hs⟩⟩ <;> rw [hs]
    · exact h
    · exact h.congr (by simp) (by simp)
    · exact h.congr (by simp) (by simp)
  | issue => exact h.congr (by simp [State.issue, State.setTally]) (by simp [State.issue, State.setTally])
  | window | freeSlot | changePreset => exact h.congr rfl rfl
  | _ => exact h.congr (by simp) (by simp)

theorem State.alike_plan {s t : State} (h : s.alike t) : t.banks = s.banks ∧ t.framer = s.framer := by
  obtain ⟨_, _, _, _, _, _, rfl⟩ := h
  exact ⟨rfl, rfl⟩

theorem Framer.law_empty : Framer.Law {} := ⟨by decide, by decide, by decide, by simp, fun _ => rfl, fun _ => rfl⟩

theorem State.planLaw_powered (s : State) (h d : Bool) : (s.powered h d).PlanLaw :=
  State.planLaw_of_editable Framer.law_empty rfl (fun _ => ⟨rfl, rfl⟩) fun _ hk => absurd rfl hk

theorem State.PlanLaw.pinReset {s : State} (h : s.PlanLaw) : s.pinReset.PlanLaw :=
  h.retire rfl Framer.law_empty rfl

/-- Settles O54, act by act. -/
theorem planLawKept : Obligations.PlanLawKept := by
  intro s t hs h
  have halike : ∀ s t : State, s.alike t → s.PlanLaw → t.PlanLaw := fun s t ha hl =>
    hl.congr (State.alike_plan ha).1 (State.alike_plan ha).2
  exact step_keeps halike (exec_keeps_of_acts halike (fun s hi de _ => s.planLaw_powered hi de)
    (fun s hl => hl.pinReset) (fun s hl => hl.congr rfl rfl) fun x L s t a hl => a.planLaw hl) hs h

end Sys2Proof.Machine
end

section
/-! O59: every table stays in its canonical form. One lemma per operation that writes a table; the acts are composed of
them. -/

namespace Sys2Proof

/-- A table whose records are rewritten under their numbers keeps its order. -/
theorem Table.rising_map {α β : Type} (f : Nat × α → β) {t : Table α} (h : Machine.Rising t) :
    Machine.Rising (t.map fun e => (e.1, f e)) :=
  List.Pairwise.map _ (fun _ _ hab => hab) h

theorem Table.rising_nil {α : Type} : Machine.Rising ([] : Table α) := List.Pairwise.nil

end Sys2Proof

namespace Sys2Proof.Machine

/-! ## Operations that write a table -/

section Operations

variable {s : State}

theorem State.TablesLaw.setBanks (h : s.TablesLaw) {x : Table Bank} (hx : Table.wf {} x = true) :
    (s.setBanks x).TablesLaw := { h with banks := hx }

theorem State.TablesLaw.setBank (h : s.TablesLaw) (k : Nat) (x : Bank) : (s.setBank k x).TablesLaw :=
  h.setBanks (Table.wf_store _ _ _ _ h.banks)

theorem State.TablesLaw.setFramer (h : s.TablesLaw) (x : Framer) : (s.setFramer x).TablesLaw := { h with }

theorem State.TablesLaw.setFree (h : s.TablesLaw) (x : Nat) : (s.setFree x).TablesLaw := { h with }

theorem State.TablesLaw.setJournal (h : s.TablesLaw) (x : Journal) : (s.setJournal x).TablesLaw := { h with }

theorem State.TablesLaw.setMixer (h : s.TablesLaw) {x : Mixer} (hc : Table.wf {} x.carriage = true)
    (hs : Table.wf .floor x.feedSource = true) (hf : Table.wf .floor x.feeds = true) : (s.setMixer x).TablesLaw :=
  { h with carriage := hc, feedSource := hs, feeds := hf }

theorem State.TablesLaw.setBdc (h : s.TablesLaw) {x : Bdc} (hd : Table.wf {} x.desks = true)
    (hb : Table.wf {} x.booths = true) (hc : Table.wf {} x.channels = true) : (s.setBdc x).TablesLaw :=
  { h with desks := hd, booths := hb, channels := hc }

theorem State.TablesLaw.setRelay (h : s.TablesLaw) {x : Relay} (hb : Table.wf {} x.booths = true)
    (hp : Rising x.producers) : (s.setRelay x).TablesLaw := { h with relay := hb, producers := hp }

theorem State.TablesLaw.setMeter (h : s.TablesLaw) {x : Meter} (ht : Table.wf {} x.totals = true)
    (hu : Rising x.turns) : (s.setMeter x).TablesLaw := { h with totals := ht, turns := hu }

theorem State.TablesLaw.setRegister (h : s.TablesLaw) {x : Register} (hx : Rising x.slots) :
    (s.setRegister x).TablesLaw := { h with slots := hx }

theorem State.TablesLaw.setHire (h : s.TablesLaw) {x : Hire} (ha : Rising x.accounts)
    (hl : Table.wf 0 x.tally.langs = true) : (s.setHire x).TablesLaw := { h with accounts := ha, langs := hl }

theorem State.TablesLaw.setFlags (h : s.TablesLaw) (l : MasterLink) {f : FlagSet} (hf : Table.wf 0 f.counts = true) :
    (s.setFlags l f).TablesLaw := by
  cases l
  · exact { h with consoleCounts := hf }
  · exact { h with counterCounts := hf }

theorem State.TablesLaw.counts (h : s.TablesLaw) (l : MasterLink) : Table.wf 0 (s.flags l).counts = true := by
  cases l
  · exact h.consoleCounts
  · exact h.counterCounts

theorem FlagSet.raise_counts_wf {f : FlagSet} (h : Table.wf 0 f.counts = true) (i n : Nat) :
    Table.wf 0 (f.raise i n).counts = true := by
  unfold FlagSet.raise
  split
  · exact h
  · exact Table.wf_store _ _ _ _ h

theorem State.TablesLaw.raise (h : s.TablesLaw) (f : ConsoleFlag) (n : Nat) : (s.raise f n).TablesLaw :=
  h.setFlags .console (FlagSet.raise_counts_wf (h.counts .console) _ _)

theorem State.TablesLaw.raiseCounter (h : s.TablesLaw) (f : CounterFlag) (n : Nat) : (s.raiseCounter f n).TablesLaw :=
  h.setFlags .counter (FlagSet.raise_counts_wf (h.counts .counter) _ _)

theorem State.TablesLaw.setCarriage (h : s.TablesLaw) (c : Nat) (x : Carriage) : (s.setCarriage c x).TablesLaw :=
  h.setMixer (Table.wf_store _ _ _ _ h.carriage) h.feedSource h.feeds

theorem State.TablesLaw.setDesk (h : s.TablesLaw) (b d : Nat) (x : Desk) : (s.setDesk b d x).TablesLaw :=
  h.setBdc (Table.wf_store _ _ _ _ h.desks) h.booths h.channels

theorem State.TablesLaw.setBooth (h : s.TablesLaw) (b : Nat) (x : BoothRun) : (s.setBooth b x).TablesLaw :=
  h.setBdc h.desks (Table.wf_store _ _ _ _ h.booths) h.channels

theorem State.TablesLaw.setChan (h : s.TablesLaw) (c : Nat) (x : ChannelRun) : (s.setChan c x).TablesLaw :=
  h.setBdc h.desks h.booths (Table.wf_store _ _ _ _ h.channels)

theorem State.TablesLaw.setRelayRec (h : s.TablesLaw) (b : Nat) (x : RelayRec) : (s.setRelayRec b x).TablesLaw :=
  h.setRelay (Table.wf_store _ _ _ _ h.relay) h.producers

theorem State.TablesLaw.setProducer (h : s.TablesLaw) (c p : Nat) : (s.setProducer c p).TablesLaw :=
  h.setRelay h.relay (Table.rising_insert _ _ _ h.producers)

theorem State.TablesLaw.clearProducer (h : s.TablesLaw) (c : Nat) : (s.clearProducer c).TablesLaw :=
  h.setRelay h.relay (Table.rising_remove _ _ h.producers)

theorem State.TablesLaw.setSitting (h : s.TablesLaw) (x : Sitting) : (s.setSitting x).TablesLaw :=
  h.setMeter h.totals h.turns

theorem State.TablesLaw.setTotals (h : s.TablesLaw) (b : Nat) (x : Totals) : (s.setTotals b x).TablesLaw :=
  h.setMeter (Table.wf_store _ _ _ _ h.totals) h.turns

theorem State.TablesLaw.setTurn (h : s.TablesLaw) (b : Nat) (x : Turn) : (s.setTurn b x).TablesLaw :=
  h.setMeter h.totals (Table.rising_insert _ _ _ h.turns)

theorem State.TablesLaw.clearTurn (h : s.TablesLaw) (b : Nat) : (s.clearTurn b).TablesLaw :=
  h.setMeter h.totals (Table.rising_remove _ _ h.turns)

theorem State.TablesLaw.setSlot (h : s.TablesLaw) (k : Nat) (x : Receiver) : (s.setSlot k x).TablesLaw :=
  h.setRegister (Table.rising_insert _ _ _ h.slots)

theorem State.TablesLaw.freeSlot (h : s.TablesLaw) (k : Nat) : (s.freeSlot k).TablesLaw :=
  h.setRegister (Table.rising_remove _ _ h.slots)

theorem State.TablesLaw.setWindow (h : s.TablesLaw) (w : Window) : (s.setWindow w).TablesLaw := h.setRegister h.slots

theorem State.TablesLaw.setAccount (h : s.TablesLaw) (a : Nat) (x : Account) : (s.setAccount a x).TablesLaw :=
  h.setHire (Table.rising_insert _ _ _ h.accounts) h.langs

theorem State.TablesLaw.removeAccount (h : s.TablesLaw) (a : Nat) : (s.removeAccount a).TablesLaw :=
  h.setHire (Table.rising_remove _ _ h.accounts) h.langs

theorem State.TablesLaw.setTally (h : s.TablesLaw) {t : Tally} (ht : Table.wf 0 t.langs = true) :
    (s.setTally t).TablesLaw := h.setHire h.accounts ht

/-! ## Operations of the blocks -/

theorem State.TablesLaw.retireBanks (h : s.TablesLaw) : s.retireBanks.TablesLaw :=
  h.setBanks (Table.wf_fill _ _ _ _ h.banks)

theorem State.TablesLaw.exchangeBanks (h : s.TablesLaw) (k : Nat) : (s.exchangeBanks k).TablesLaw := by
  unfold State.exchangeBanks
  split
  · exact h.setBank _ _
  · exact (h.setBank _ _).setBank _ _

theorem State.TablesLaw.advanceRamps (h : s.TablesLaw) : s.advanceRamps.TablesLaw :=
  h.setMixer (Table.wf_fill _ _ _ _ h.carriage) h.feedSource h.feeds

theorem State.TablesLaw.dropRamps (h : s.TablesLaw) : s.dropRamps.TablesLaw :=
  h.setMixer (Table.wf_fill _ _ _ _ h.carriage) h.feedSource h.feeds

theorem State.TablesLaw.fixFeeds (h : s.TablesLaw) : s.fixFeeds.TablesLaw :=
  h.setMixer h.carriage h.feedSource (Table.wf_fill _ _ _ _ h.feeds)

theorem State.TablesLaw.beginFrame (h : s.TablesLaw) (t o m : Bool) : (s.beginFrame t o m).TablesLaw :=
  (h.advanceRamps.setFramer _).fixFeeds

theorem State.TablesLaw.endHolds (h : s.TablesLaw) (which : Nat → Bool) : (s.endHolds which).TablesLaw :=
  h.setRelay (Table.wf_fill _ _ _ _ h.relay) h.producers

theorem State.TablesLaw.beginHolds (h : s.TablesLaw) (c : Nat) : (s.beginHolds c).TablesLaw :=
  h.setRelay (Table.wf_fill _ _ _ _ h.relay) h.producers

theorem State.TablesLaw.placeBooths (h : s.TablesLaw) : s.placeBooths.TablesLaw :=
  { h with relay := Table.wf_fill _ _ _ _ h.relay, feedSource := Table.wf_fill _ _ _ _ h.feedSource }

theorem State.TablesLaw.resolve (h : s.TablesLaw) : s.resolve.TablesLaw := by
  unfold State.resolve
  split
  · exact h.placeBooths.raise _ _
  · exact h

theorem State.TablesLaw.productionStart (h : s.TablesLaw) (c p : Nat) : (s.productionStart c p).TablesLaw := by
  unfold State.productionStart
  split
  · exact ((h.setProducer c p).endHolds _).resolve
  · exact h.setProducer c p

theorem State.TablesLaw.productionStop (h : s.TablesLaw) (c : Nat) : (s.productionStop c).TablesLaw := by
  unfold State.productionStop
  split
  · exact ((h.clearProducer c).beginHolds c).resolve
  · exact h.clearProducer c

theorem State.TablesLaw.floorLanguage (h : s.TablesLaw) (code : Nat) : (s.floorLanguage code).TablesLaw := by
  have hr : (s.setRelay { s.relay with floorLang := code }).TablesLaw := h.setRelay h.relay h.producers
  unfold State.floorLanguage
  split
  · exact (hr.endHolds _).resolve
  · exact hr

theorem State.TablesLaw.mixStandby (h : s.TablesLaw) : s.mixStandby.TablesLaw :=
  { h with carriage := rfl, feeds := rfl }

theorem State.TablesLaw.relayStandby (h : s.TablesLaw) : s.relayStandby.TablesLaw :=
  { h with relay := Table.wf_fill _ _ _ _ h.relay, feedSource := rfl }

theorem State.TablesLaw.raiseLevel (h : s.TablesLaw) : s.raiseLevel.TablesLaw := by
  unfold State.raiseLevel
  split
  · exact h.raise _ _
  · split
    · exact (h.raise _ _).raiseCounter _ _
    · exact h

theorem State.TablesLaw.writeEntry (h : s.TablesLaw) (body : EntryBody) : (s.writeEntry body).TablesLaw :=
  (h.setJournal _).raiseLevel

theorem State.TablesLaw.handOver (h : s.TablesLaw) (body : EntryBody) : (s.handOver body).TablesLaw := by
  unfold State.handOver
  split
  · exact h.raise _ _
  · exact h.writeEntry _

theorem State.TablesLaw.closeTurn (h : s.TablesLaw) (b : Nat) (r : Reason) : (s.closeTurn b r).TablesLaw := by
  have hr : (s.retireTurn b).TablesLaw := (h.setSitting _).clearTurn b
  unfold State.closeTurn State.endTurn
  split
  · exact h
  · split
    · exact ((hr.setTotals _ _).setSitting _).handOver _
    · exact hr.handOver _

theorem State.TablesLaw.openTurn (h : s.TablesLaw) (b d c : Nat) : (s.openTurn b d c).TablesLaw := by
  unfold State.openTurn
  split
  · exact h.setTurn _ _
  · exact h

theorem State.TablesLaw.countTurn (h : s.TablesLaw) (b : Nat) : (s.countTurn b).TablesLaw := by
  unfold State.countTurn
  split
  · exact h
  · exact ((h.setTurn _ _).setTotals _ _).setSitting _

theorem State.TablesLaw.sweep (h : s.TablesLaw) : s.sweep.TablesLaw :=
  ((h.setRegister (Table.rising_map (fun e => s.swept e.2) h.slots)).raise _ _).raiseCounter _ _

theorem State.TablesLaw.markOrphans (h : s.TablesLaw) : s.markOrphans.TablesLaw :=
  ((h.setRegister (Table.rising_map (fun e => if s.orphans e.2 then { e.2 with orphaned := true } else e.2)
    h.slots)).raise _ _).raiseCounter _ _

theorem State.TablesLaw.leaveQueues (h : s.TablesLaw) (b : Nat) : (s.leaveQueues b).TablesLaw :=
  h.setBdc h.desks h.booths (Table.wf_fill _ _ _ _ h.channels)

theorem State.TablesLaw.setLive (h : s.TablesLaw) (b d c : Nat) : (s.setLive b d c).TablesLaw :=
  (h.setChan _ _).setBooth _ _

theorem State.TablesLaw.grant (h : s.TablesLaw) (b d c : Nat) : (s.grant b d c).TablesLaw :=
  (((((h.setLive b d c).leaveQueues b).setBooth _ _).setCarriage _ _).openTurn _ _ _).productionStart _ _

theorem State.TablesLaw.release (h : s.TablesLaw) (b c : Nat) (r : Reason) : (s.release b c r).TablesLaw :=
  ((((h.setChan _ _).setBooth _ _).setCarriage _ _).closeTurn _ _).productionStop _

theorem State.TablesLaw.passQueue (h : s.TablesLaw) (c : Nat) : (s.passQueue c).TablesLaw := by
  unfold State.passQueue
  split
  · exact h
  · exact (h.setChan _ _).grant _ _ _

theorem State.TablesLaw.handover (h : s.TablesLaw) (b d e c : Nat) : (s.handover b d e c).TablesLaw :=
  ((((h.setLive b e c).setBooth _ _).setCarriage _ _).closeTurn _ _).openTurn _ _ _

theorem State.TablesLaw.clearWaits (h : s.TablesLaw) : s.clearWaits.TablesLaw := by
  refine h.setBdc ?_ (Table.wf_fill _ _ _ _ h.booths) (Table.wf_fill _ _ _ _ h.channels)
  rw [Table.wf_iff]
  have hmap : Rising (s.bdc.desks.map fun e => (e.1, ({ e.2 with refused := false } : Desk))) :=
    Table.rising_map (fun e => { e.2 with refused := false }) ((Table.wf_iff _ _).mp h.desks).1
  refine ⟨List.Pairwise.filter _ hmap, fun e he => ?_⟩
  simpa using (List.mem_filter.mp he).2

theorem State.TablesLaw.releaseBooth (h : s.TablesLaw) (b : Nat) : (s.releaseBooth b).TablesLaw := by
  unfold State.releaseBooth
  split
  · exact h.release _ _ _
  · exact h

theorem State.TablesLaw.liveReset (h : s.TablesLaw) : s.liveReset.TablesLaw :=
  List.foldlRecOn _ _ h.clearWaits fun _ ht b _ => State.TablesLaw.releaseBooth ht b

theorem State.TablesLaw.setInterpreter (h : s.TablesLaw) (b d : Nat) (who : Option Nat) :
    (s.setInterpreter b d who).TablesLaw := by
  rcases s.setInterpreter_cases b d who with ⟨-, hs⟩ | ⟨-, ⟨-, hs⟩ | ⟨c, -, hs⟩⟩ <;> rw [hs]
  · exact h
  · exact h.setDesk _ _ _
  · exact ((h.setDesk _ _ _).closeTurn _ _).openTurn _ _ _

theorem State.TablesLaw.applyCarry (h : s.TablesLaw) (xs : List Carry) : (s.applyCarry xs).TablesLaw := by
  induction xs generalizing s with
  | nil => exact h
  | cons x xs ih =>
    unfold State.applyCarry
    split
    · exact ih h
    · exact ih (h.setLive _ _ _)

theorem State.TablesLaw.leaveOld (h : s.TablesLaw) (c : Nat) : (s.leaveOld c).TablesLaw := by
  unfold State.leaveOld
  split
  · exact (h.setCarriage _ _).clearProducer _
  · exact h

theorem State.TablesLaw.reportCarry (h : s.TablesLaw) (x : Carry) : (s.reportCarry x).TablesLaw := by
  unfold State.reportCarry
  split
  · exact (h.leaveOld _).closeTurn _ _
  · split
    · exact (h.setCarriage _ _).setProducer _ _
    · exact ((((h.leaveOld _).setCarriage _ _).closeTurn _ _).openTurn _ _ _).setProducer _ _

theorem State.TablesLaw.clearLives (h : s.TablesLaw) : s.clearLives.TablesLaw :=
  State.TablesLaw.setBdc h h.desks rfl rfl

theorem State.TablesLaw.carryOver (h : s.TablesLaw) : s.carryOver.TablesLaw :=
  List.foldlRecOn _ _ (h.clearWaits.clearLives.applyCarry _) fun _ ht x _ => State.TablesLaw.reportCarry ht x

theorem State.TablesLaw.planTaken (h : s.TablesLaw) : s.planTaken.TablesLaw :=
  ((h.dropRamps.endHolds _).carryOver.resolve).markOrphans

theorem State.TablesLaw.takeSwitch (h : s.TablesLaw) (k : Nat) : (s.takeSwitch k).TablesLaw :=
  ((((h.exchangeBanks k).setFramer _).beginFrame _ _ _).raise _ _).planTaken

theorem State.TablesLaw.boundary (h : s.TablesLaw) : s.boundary.TablesLaw := by
  have he : s.endFrame.endOverride.TablesLaw := (h.setFramer _).setFramer _
  rcases s.boundary_cases with ⟨k, -, -, hb⟩ | ⟨-, hb⟩ <;> rw [hb]
  · exact he.takeSwitch k
  · exact (he.setFramer _).beginFrame _ _ _

theorem State.TablesLaw.openLiveTurn (h : s.TablesLaw) (b : Nat) : (s.openLiveTurn b).TablesLaw := by
  unfold State.openLiveTurn
  split
  · exact h.openTurn _ _ _
  · exact h

theorem State.TablesLaw.openSitting (h : s.TablesLaw) : s.openSitting.TablesLaw :=
  List.foldlRecOn _ _ (h.setMeter rfl h.turns) fun _ ht b _ => State.TablesLaw.openLiveTurn ht b

theorem State.TablesLaw.startGrace (h : s.TablesLaw) : s.startGrace.TablesLaw := by
  unfold State.startGrace
  split
  · exact h.sweep
  · exact h.setMeter h.totals h.turns

theorem State.TablesLaw.closeSitting (h : s.TablesLaw) : s.closeSitting.TablesLaw := by
  have hc : (s.closeTurns .sittingClose).TablesLaw :=
    List.foldlRecOn _ _ h fun _ ht b _ => State.TablesLaw.closeTurn ht b _
  exact ((hc.setSitting _).handOver _).startGrace

theorem State.TablesLaw.countSecond (h : s.TablesLaw) : s.countSecond.TablesLaw := by
  unfold State.countSecond
  split
  · exact List.foldlRecOn _ _ (h.setMeter h.totals h.turns) fun _ ht b _ => State.TablesLaw.countTurn ht b
  · exact h

theorem State.TablesLaw.tickGrace (h : s.TablesLaw) : s.tickGrace.TablesLaw := by
  rcases s.tickGrace_cases with ⟨-, hg⟩ | ⟨-, hg⟩ <;> rw [hg]
  · exact State.TablesLaw.sweep (h.setMeter h.totals h.turns)
  · exact h.setMeter h.totals h.turns

theorem State.TablesLaw.tickTimers (h : s.TablesLaw) : s.tickTimers.TablesLaw :=
  { h with booths := Table.wf_fill _ _ _ _ h.booths, relay := Table.wf_fill _ _ _ _ h.relay }

theorem Tally.countIn_wf {t : Tally} (h : Table.wf 0 t.langs = true) (lang : Nat) :
    Table.wf 0 (t.countIn lang).langs = true := by
  have hs (n : Nat) : Table.wf 0 (Table.store 0 t.langs lang n) = true := Table.wf_store _ _ _ _ h
  unfold Tally.countIn
  split
  · simpa using hs _
  · split
    · simpa using hs 1
    · exact h

theorem Tally.countOut_wf {t : Tally} (h : Table.wf 0 t.langs = true) (lang : Nat) :
    Table.wf 0 (t.countOut lang).langs = true := by
  have hs (n : Nat) : Table.wf 0 (Table.store 0 t.langs lang n) = true := Table.wf_store _ _ _ _ h
  unfold Tally.countOut
  split
  · exact hs _
  · exact h

theorem Tally.move_wf {t : Tally} (h : Table.wf 0 t.langs = true) (old new : Nat) :
    Table.wf 0 (t.move old new).langs = true := by
  unfold Tally.move
  split
  · exact h
  · exact Tally.countIn_wf (Tally.countOut_wf h old) new

theorem State.TablesLaw.countIssue (h : s.TablesLaw) : s.countIssue.TablesLaw := by
  unfold State.countIssue
  split
  · exact h.setMeter h.totals h.turns
  · exact h

theorem State.TablesLaw.countReturn (h : s.TablesLaw) (n : Nat) (w : Leaving) : (s.countReturn n w).TablesLaw := by
  unfold State.countReturn
  split
  · exact h.setMeter h.totals h.turns
  · exact h

theorem State.TablesLaw.issue (h : s.TablesLaw) (k : Nat) (r : Receiver) (n p : Nat) (a : Account) :
    (s.issue k r n p a).TablesLaw :=
  State.TablesLaw.countIssue (((h.setSlot _ _).setAccount _ _).setTally (Tally.countIn_wf h.langs _))

theorem State.TablesLaw.leaveHire (h : s.TablesLaw) (k : Nat) (r : Receiver) (f : HireFields) (w : Leaving) :
    (s.leaveHire k r f w).TablesLaw :=
  State.TablesLaw.countReturn
    ((((h.writeEntry _).setSlot _ _).setAccount _ _).setTally (Tally.countOut_wf h.langs _)) _ _

end Operations

/-! ## Every act and every step -/

theorem Act.tablesLaw {x : Option Nat} {L : Prop} {s t : State} (a : Act x L s t) (h : s.TablesLaw) : t.TablesLaw := by
  cases a with
  | edit | check => exact h.setBank _ _
  | start | acceptSwitch => exact (h.setBank _ _).setFramer _
  | abandonStart => exact (h.retireBanks.setFramer _).raise _ _
  | stop =>
    have hf : s.retireBanks.stopFramer.TablesLaw := h.retireBanks.setFramer _
    exact hf.relayStandby.liveReset.mixStandby
  | closeFinal => exact (h.setFramer _).raise _ _
  | settle | announceEnd | lineMode => exact h.setFramer _
  | endSettle => exact (((h.setFramer _).beginFrame _ _ _).raise _ _).planTaken
  | boundary => exact h.boundary
  | announce => exact ((((h.setFramer _).setFree _).setFramer _).beginFrame _ _ _).raise _ _
  | handoverSet => exact h.setMixer h.carriage h.feedSource h.feeds
  | desk => exact h.setDesk _ _ _
  | recordOffer | dropOffer => exact h.setBooth _ _
  | joinQueue => exact (h.setChan _ _).setBooth _ _
  | withdraw => exact (h.leaveQueues _).setBooth _ _
  | grant => exact h.grant _ _ _
  | passQueue => exact h.passQueue _
  | release => exact h.release _ _ _
  | handover => exact h.handover _ _ _ _
  | clearWaits => exact h.clearWaits
  | interpreter => exact h.setInterpreter _ _ _
  | setSource | holdExpired => exact (h.setRelayRec _ _).resolve
  | floorLanguage => exact h.floorLanguage _
  | relaySet => exact h.setRelay h.relay h.producers
  | openSitting => exact h.openSitting
  | closeSitting => exact h.closeSitting
  | returnGrace => exact h.setMeter h.totals h.turns
  | countSecond => exact h.countSecond
  | tickGrace => exact h.tickGrace
  | tickTimers => exact h.tickTimers
  | tariff => exact h.setHire h.accounts h.langs
  | acctOpen | acctChange => exact h.setAccount _ _
  | acctClose => exact (h.writeEntry _).removeAccount _
  | register | service => exact h.setSlot _ _
  | window => exact h.setWindow _
  | freeSlot => exact h.freeSlot _
  | found => exact (h.writeEntry _).setSlot _ _
  | issue => exact h.issue _ _ _ _ _
  | changePreset => exact (h.setSlot _ _).setTally (Tally.move_wf h.langs _ _)
  | leaveHire => exact h.leaveHire _ _ _ _
  | acknowledge => exact h.setJournal _
  | flags counts => exact h.setFlags _ (counts (h.counts _))

theorem State.TablesLaw.alike {s t : State} (h : s.TablesLaw) (ha : s.alike t) : t.TablesLaw := by
  obtain ⟨_, _, _, _, _, _, rfl⟩ := ha
  exact { h with }

theorem State.tablesLaw_powered (s : State) (h d : Bool) : (s.powered h d).TablesLaw :=
  ⟨rfl, rfl, rfl, rfl, rfl, rfl, rfl, rfl, rfl, rfl, rfl, rfl, Table.rising_nil, Table.rising_nil, Table.rising_nil,
    Table.rising_nil⟩

theorem State.TablesLaw.pinReset {s : State} (h : s.TablesLaw) : s.pinReset.TablesLaw :=
  ⟨h.retireBanks.banks, rfl, rfl, rfl, rfl, rfl, rfl, rfl, rfl, h.langs, rfl, rfl, Table.rising_nil, Table.rising_nil,
    h.slots, h.accounts⟩

/-- Settles O59, act by act. -/
theorem tablesLawKept : Obligations.TablesLawKept := by
  intro s t hs h
  have halike : ∀ s t : State, s.alike t → s.TablesLaw → t.TablesLaw := fun s t ha hl => hl.alike ha
  exact step_keeps halike (exec_keeps_of_acts halike (fun s hi de _ => s.tablesLaw_powered hi de)
    (fun s hl => hl.pinReset) (fun s hl => { hl with }) fun x L s t a hl => a.tablesLaw hl) hs h

end Sys2Proof.Machine
end

section
/-! The carry-over at a plan taken (R85, R86), in closed form: which live desk is carried to which channel, and the booths',
channels' and carriage records and the producers after it. -/

namespace Sys2Proof.Machine

/-! ## Who is carried where -/

/-- R85: the channel that the plan offers booth `b`'s live desk. -/
def State.offered (s : State) (b : Nat) : Option Nat := (s.booth b).live.bind fun l => s.carryChannel b l.1

/-- R85: the channel that booth `b`'s live desk is carried to: the one offered, unless a lower-numbered booth's desk is
offered it. -/
def State.carriedTo (s : State) (b : Nat) : Option Nat :=
  (s.offered b).filter fun c => !Config.boothNumbers.any fun e => decide (e < b) && decide (s.offered e = some c)

theorem State.carriedTo_eq_some (s : State) (b c : Nat) :
    s.carriedTo b = some c ↔
      s.offered b = some c ∧ ∀ e ∈ Config.boothNumbers, e < b → s.offered e ≠ some c := by
  simp [State.carriedTo, Option.filter_eq_some_iff]

theorem State.carriedTo_offered {s : State} {b c : Nat} (h : s.carriedTo b = some c) : s.offered b = some c :=
  ((s.carriedTo_eq_some b c).mp h).1

theorem State.carriedTo_inj {s : State} {b e c : Nat} (hb : b ∈ Config.boothNumbers) (he : e ∈ Config.boothNumbers)
    (h : s.carriedTo b = some c) (h' : s.carriedTo e = some c) : b = e := by
  rw [State.carriedTo_eq_some] at h h'
  rcases lt_trichotomy b e with hlt | heq | hlt
  · exact absurd h.1 (h'.2 b hb hlt)
  · exact heq
  · exact absurd h'.1 (h.2 e he hlt)

/-- R85: the outcome for booth `b`'s live desk, if it has one, `given` being the channels given before. -/
def State.carryOf (s : State) (bs given : List Nat) (b : Nat) : Option Carry :=
  (s.booth b).live.map fun l => ⟨b, l.1, l.2, (s.offered b).filter fun c =>
    !(decide (c ∈ given) || bs.any fun e => decide (e < b) && decide (s.offered e = some c))⟩

/-- With rising booths the outcome of each depends on what the booths before it are offered. -/
theorem State.carries_eq (s : State) {bs : List Nat} (hbs : bs.Pairwise (· < ·)) (given : List Nat) :
    s.carries bs given = bs.filterMap (s.carryOf bs given) := by
  induction bs generalizing given with
  | nil => rfl
  | cons b bs ih =>
    rw [List.pairwise_cons] at hbs
    -- the rest sees `b`'s offer as a channel given
    have hrest (given' : List Nat) (hg : ∀ c, c ∈ given' ↔ c ∈ given ∨ s.offered b = some c) :
        bs.filterMap (s.carryOf bs given') = bs.filterMap (s.carryOf (b :: bs) given) := by
      refine List.filterMap_congr fun e he => ?_
      have hlt : b < e := hbs.1 e he
      simp only [State.carryOf, List.any_cons, hlt, decide_true, Bool.true_and, hg]
      refine congrArg (fun f => (s.booth e).live.map f) (funext fun l => ?_)
      refine congrArg (fun f => Carry.mk e l.1 l.2 ((s.offered e).filter f)) (funext fun c => ?_)
      simp [Bool.and_assoc]
    -- `b` itself comes before all others
    have hfirst : ∀ c, (b :: bs).any (fun e => decide (e < b) && decide (s.offered e = some c)) = false := by
      intro c
      rw [List.any_eq_false]
      intro e he
      rcases List.mem_cons.mp he with rfl | he
      · simp
      · simp [Nat.not_lt.mpr (Nat.le_of_lt (hbs.1 e he))]
    unfold State.carries
    cases hl : (s.booth b).live with
    | none =>
      have hoff : s.offered b = none := by simp [State.offered, hl]
      simp only [List.filterMap_cons, State.carryOf, hl, Option.map_none]
      rw [ih hbs.2, hrest given (by simp [hoff])]
    | some l =>
      obtain ⟨d, c⟩ := l
      have hoff : s.offered b = s.carryChannel b d := by simp [State.offered, hl]
      have hhead : s.carryOf (b :: bs) given b =
          some ⟨b, d, c, (s.carryChannel b d).filter fun x => !decide (x ∈ given)⟩ := by
        simp only [State.carryOf, hl, Option.map_some, hoff]
        refine congrArg (fun f => some (Carry.mk b d c ((s.carryChannel b d).filter f))) (funext fun x => ?_)
        rw [hfirst x, Bool.or_false]
      rw [List.filterMap_cons_some hhead]
      cases hc : s.carryChannel b d with
      | none =>
        simp only [hc, ih hbs.2, hrest given (by simp [hoff, hc]), Option.filter_none]
      | some x =>
        by_cases hx : x ∈ given
        · have hg := hrest given (by simp [hoff, hc, hx])
          simp [hc, hx, ih hbs.2, hg, Option.filter]
        · have hg := hrest (x :: given) (by intro y; simp [hoff, hc, or_comm, eq_comm])
          simp [hc, hx, ih hbs.2, hg, Option.filter]

theorem boothNumbers_pairwise : Config.boothNumbers.Pairwise (· < ·) := by decide

/-- R85: the outcomes of the carry-over, booths ascending. -/
theorem State.carries_boothNumbers (s : State) :
    s.carries Config.boothNumbers [] =
      Config.boothNumbers.filterMap fun b => (s.booth b).live.map fun l => ⟨b, l.1, l.2, s.carriedTo b⟩ := by
  rw [s.carries_eq boothNumbers_pairwise]
  refine List.filterMap_congr fun b _ => ?_
  simp [State.carryOf, State.carriedTo]

theorem State.mem_carries (s : State) (x : Carry) :
    x ∈ s.carries Config.boothNumbers [] ↔
      x.booth ∈ Config.boothNumbers ∧ (s.booth x.booth).live = some (x.desk, x.old) ∧ x.new = s.carriedTo x.booth := by
  rw [State.carries_boothNumbers, List.mem_filterMap]
  constructor
  · rintro ⟨b, hb, h⟩
    obtain ⟨l, hl, rfl⟩ := Option.map_eq_some_iff.mp h
    exact ⟨hb, hl, rfl⟩
  · rintro ⟨hb, hl, hn⟩
    exact ⟨x.booth, hb, by rw [hl, Option.map_some, ← hn]⟩

theorem State.carries_booths (s : State) :
    (s.carries Config.boothNumbers []).map Carry.booth =
      Config.boothNumbers.filter fun b => (s.booth b).live.isSome := by
  rw [State.carries_boothNumbers, List.map_filterMap, ← List.filterMap_eq_filter]
  refine List.filterMap_congr fun b _ => ?_
  cases hl : (s.booth b).live <;> simp [Option.guard, hl]

theorem State.carries_nodup (s : State) : ((s.carries Config.boothNumbers []).map Carry.booth).Nodup := by
  rw [State.carries_booths]
  exact boothNumbers_nodup.filter _

/-! ## The new holders -/

section ApplyCarry

variable {s : State} {xs : List Carry}

theorem State.applyCarry_cons (s : State) (x : Carry) (xs : List Carry) :
    s.applyCarry (x :: xs) =
      (match x.new with
        | none => s
        | some c => s.setLive x.booth x.desk c).applyCarry xs := by
  rw [State.applyCarry]
  cases x.new <;> rfl

theorem State.applyCarry_booth_of_none {b : Nat} (h : ∀ x ∈ xs, x.booth = b → x.new = none) :
    (s.applyCarry xs).booth b = s.booth b := by
  induction xs generalizing s with
  | nil => rfl
  | cons x xs ih =>
    rw [State.applyCarry_cons, ih fun y hy => h y (List.mem_cons_of_mem _ hy)]
    cases hn : x.new with
    | none => rfl
    | some c =>
      rw [State.setLive_booth, if_neg]
      intro hb
      rw [h x List.mem_cons_self hb.symm] at hn
      cases hn

theorem State.applyCarry_chan_of_ne {c : Nat} (h : ∀ x ∈ xs, x.new ≠ some c) :
    (s.applyCarry xs).chan c = s.chan c := by
  induction xs generalizing s with
  | nil => rfl
  | cons x xs ih =>
    rw [State.applyCarry_cons, ih fun y hy => h y (List.mem_cons_of_mem _ hy)]
    cases hn : x.new with
    | none => rfl
    | some y =>
      rw [State.setLive_chan, if_neg]
      rintro rfl
      exact h x List.mem_cons_self hn

/-- A desk carried is live on its new channel. -/
theorem State.applyCarry_carried {x : Carry} {c : Nat} (hx : x ∈ xs) (hc : x.new = some c)
    (hbooth : ∀ y ∈ xs, y.booth = x.booth → y = x) (hnew : ∀ y ∈ xs, y.new = some c → y = x) :
    (s.applyCarry xs).booth x.booth = { s.booth x.booth with live := some (x.desk, c) } ∧
      (s.applyCarry xs).chan c = { s.chan c with holder := some ⟨x.booth, x.desk⟩ } := by
  induction xs generalizing s with
  | nil => cases hx
  | cons y xs ih =>
    have hb' : ∀ z ∈ xs, z.booth = x.booth → z = x := fun z hz => hbooth z (List.mem_cons_of_mem _ hz)
    have hn' : ∀ z ∈ xs, z.new = some c → z = x := fun z hz => hnew z (List.mem_cons_of_mem _ hz)
    rw [State.applyCarry_cons]
    by_cases hmem : x ∈ xs
    · -- `x` comes again: the head's record is written over, or is of another booth and channel
      obtain ⟨h1, h2⟩ := ih (s := match y.new with
        | none => s
        | some c => s.setLive y.booth y.desk c) hmem hb' hn'
      rw [h1, h2]
      cases hy : y.new with
      | none => exact ⟨rfl, rfl⟩
      | some c' =>
        simp only [State.setLive_booth, State.setLive_chan]
        by_cases hbe : y.booth = x.booth
        · have hxy := hbooth y List.mem_cons_self hbe
          subst hxy
          rw [hc] at hy
          cases hy
          simp
        · have hcc : c' ≠ c := fun he => hbe (by rw [hnew y List.mem_cons_self (he ▸ hy)])
          simp [Ne.symm hbe, Ne.symm hcc]
    · obtain rfl : x = y := (List.mem_cons.mp hx).resolve_right hmem
      rw [State.applyCarry_booth_of_none (b := x.booth) fun z hz hzb => absurd hz (hb' z hz hzb ▸ hmem),
        State.applyCarry_chan_of_ne (c := c) fun z hz hzc => absurd hz (hn' z hz hzc ▸ hmem)]
      simp [hc, State.setLive_booth, State.setLive_chan]

end ApplyCarry

/-- The state of the carry-over before its reports. -/
abbrev State.carryStart (s : State) : State :=
  s.clearWaits.clearLives.applyCarry (s.clearWaits.carries Config.boothNumbers [])

theorem State.carryOver_eq (s : State) :
    s.carryOver = (s.clearWaits.carries Config.boothNumbers []).foldl State.reportCarry s.carryStart := rfl

theorem State.foldl_reportCarry_bdc (xs : List Carry) (s : State) : (xs.foldl State.reportCarry s).bdc = s.bdc :=
  foldl_keeps _ (fun t => t.bdc) (by simp) _ _

theorem State.carryOver_bdc (s : State) : s.carryOver.bdc = s.carryStart.bdc := by
  rw [State.carryOver_eq, State.foldl_reportCarry_bdc]

/-- R86: after the carry-over booth `b` has its live desk on the channel it is carried to, and nothing else. -/
theorem State.carryOver_booth (s : State) (b : Nat) :
    s.carryOver.booth b =
      { live := if b ∈ Config.boothNumbers then
          (s.clearWaits.booth b).live.bind fun l => (s.clearWaits.carriedTo b).map fun c => (l.1, c) else none } := by
  rw [State.booth_congr s.carryOver_bdc]
  by_cases h : ∃ x ∈ s.clearWaits.carries Config.boothNumbers [], x.booth = b ∧ x.new.isSome = true
  · obtain ⟨x, hx, rfl, hnew⟩ := h
    obtain ⟨c, hc⟩ := Option.isSome_iff_exists.mp hnew
    obtain ⟨hb, hl, hn⟩ := (State.mem_carries _ x).mp hx
    have hbooth : ∀ y ∈ s.clearWaits.carries Config.boothNumbers [], y.booth = x.booth → y = x :=
      fun y hy he => List.inj_on_of_nodup_map (State.carries_nodup _) hy hx he
    rw [(State.applyCarry_carried hx hc hbooth fun y hy he => ?_).1]
    · rw [if_pos hb, hl, Option.bind_some, ← hn, hc]
      rfl
    · obtain ⟨hyb, -, hyn⟩ := (State.mem_carries _ y).mp hy
      exact hbooth y hy (State.carriedTo_inj hyb hb (hyn ▸ he) (hn ▸ hc))
  · rw [State.applyCarry_booth_of_none fun x hx he => ?_]
    · show ({} : BoothRun) = _
      split
      · next hb =>
        cases hl : (s.clearWaits.booth b).live with
        | none => rfl
        | some l =>
          cases hc : s.clearWaits.carriedTo b with
          | none => rfl
          | some c => exact absurd ⟨⟨b, l.1, l.2, some c⟩, (State.mem_carries _ _).mpr ⟨hb, hl, hc.symm⟩, rfl, rfl⟩ h
      · rfl
    · cases hn : x.new with
      | none => rfl
      | some c => exact absurd ⟨x, hx, he, by simp [hn]⟩ h

/-- R86: after the carry-over no desk waits, and the holder of a channel is the desk carried to it. -/
theorem State.carryOver_chan (s : State) (c : Nat) :
    (s.carryOver.chan c).queue = [] ∧
      ∀ w, (s.carryOver.chan c).holder = some w ↔
        w.booth ∈ Config.boothNumbers ∧ (s.clearWaits.booth w.booth).live.map Prod.fst = some w.desk ∧
          s.clearWaits.carriedTo w.booth = some c := by
  rw [State.chan_congr s.carryOver_bdc]
  by_cases h : ∃ x ∈ s.clearWaits.carries Config.boothNumbers [], x.new = some c
  · obtain ⟨x, hx, hc⟩ := h
    obtain ⟨hb, hl, hn⟩ := (State.mem_carries _ x).mp hx
    have hbooth : ∀ y ∈ s.clearWaits.carries Config.boothNumbers [], y.booth = x.booth → y = x :=
      fun y hy he => List.inj_on_of_nodup_map (State.carries_nodup _) hy hx he
    rw [(State.applyCarry_carried hx hc hbooth fun y hy he => ?_).2]
    · refine ⟨rfl, fun w => ⟨?_, ?_⟩⟩
      · intro hw
        cases hw
        exact ⟨hb, by rw [hl]; rfl, hn ▸ hc⟩
      · rintro ⟨hwb, hwl, hwc⟩
        have hxw : x.booth = w.booth := State.carriedTo_inj hb hwb (hn ▸ hc) hwc
        rw [← hxw, hl] at hwl
        cases w
        cases hxw
        cases hwl
        rfl
    · obtain ⟨hyb, -, hyn⟩ := (State.mem_carries _ y).mp hy
      exact hbooth y hy (State.carriedTo_inj hyb hb (hyn ▸ he) (hn ▸ hc))
  · rw [State.applyCarry_chan_of_ne fun x hx he => h ⟨x, hx, he⟩]
    refine ⟨rfl, fun w => ⟨fun hw => (nomatch hw), ?_⟩⟩
    rintro ⟨hwb, hwl, hwc⟩
    obtain ⟨l, hl, hld⟩ := Option.map_eq_some_iff.mp hwl
    exact absurd ⟨⟨w.booth, l.1, l.2, some c⟩, (State.mem_carries _ _).mpr ⟨hwb, hl, hwc.symm⟩, rfl⟩ h

/-! ## The reports -/

theorem State.leaveOld_carriage (s : State) (c x : Nat) :
    (s.leaveOld c).carriage x = if x = c ∧ (s.chan c).holder = none then {} else s.carriage x := by
  unfold State.leaveOld
  split
  · next h =>
    show ((s.mixRelease c).clearProducer c).carriage x = _
    rw [State.carriage_congr (s := s.mixRelease c) (by simp), State.mixRelease, State.carriage_setCarriage]
    simp [h]
  · next h => simp [h]

theorem State.leaveOld_producer (s : State) (c x : Nat) :
    (s.leaveOld c).producer x = if x = c ∧ (s.chan c).holder = none then none else s.producer x := by
  unfold State.leaveOld
  split
  · next h =>
    rw [State.producer_clearProducer, State.producer_congr (s := s) (by simp)]
    simp [h]
  · next h => simp [h]

/-- What the report of one outcome does to the mixer's and the relay resolver's records of channel `c`: the channel that
the desk is carried to gets the desk, the channel that it leaves is freed where nobody holds it now. -/
theorem State.reportCarry_records (s : State) (x : Carry) (c : Nat) (h : x.new = some c → (s.chan c).holder ≠ none) :
    (s.reportCarry x).carriage c =
        (if x.new = some c then { live := some ⟨x.booth, x.desk⟩ }
        else if x.old = c ∧ (s.chan c).holder = none then {} else s.carriage c) ∧
      (s.reportCarry x).producer c =
        (if x.new = some c then some x.booth
        else if x.old = c ∧ (s.chan c).holder = none then none else s.producer c) := by
  have leave {t : State} (hm : t.mixer = (s.leaveOld x.old).mixer) (hr : t.relay = (s.leaveOld x.old).relay) :
      t.carriage c = (if x.old = c ∧ (s.chan c).holder = none then {} else s.carriage c) ∧
        t.producer c = (if x.old = c ∧ (s.chan c).holder = none then none else s.producer c) := by
    rw [State.carriage_congr hm, State.producer_congr hr, State.leaveOld_carriage, State.leaveOld_producer]
    by_cases hc : x.old = c
    · subst hc
      simp
    · simp [hc, Ne.symm hc]
  unfold State.reportCarry
  cases hn : x.new with
  | none => simpa using leave (t := (s.leaveOld x.old).closeTurn x.booth .switch) (by simp) (by simp)
  | some y =>
    dsimp only
    -- the desk's new channel is granted to it, whatever the old one's report did
    have grant {t u : State} (hc : t.mixer.carriage = (u.mixGrant y ⟨x.booth, x.desk⟩).mixer.carriage)
        (hr : t.relay.producers = Table.insert u.relay.producers y x.booth) :
        t.carriage c = (if some y = some c then { live := some ⟨x.booth, x.desk⟩ } else u.carriage c) ∧
          t.producer c = (if some y = some c then some x.booth else u.producer c) := by
      have h1 : t.carriage c = (u.mixGrant y ⟨x.booth, x.desk⟩).carriage c := by simp only [State.carriage, hc]
      have h2 : t.producer c = Table.fetch? (Table.insert u.relay.producers y x.booth) c := by
        simp only [State.producer, hr]
      rw [h1, h2, State.mixGrant, State.carriage_setCarriage, Table.fetch?_insert]
      simp [eq_comm, State.producer]
    split
    · next hy =>
      subst hy
      obtain ⟨h1, h2⟩ := grant (u := s) (t := (s.mixGrant x.old ⟨x.booth, x.desk⟩).setProducer x.old x.booth)
        (by simp) (by simp [State.setProducer])
      rw [h1, h2]
      by_cases hc : x.old = c <;> simp [hc]
    · next hy =>
      obtain ⟨h1, h2⟩ := grant (u := s.leaveOld x.old)
        (t := ((((s.leaveOld x.old).mixGrant y ⟨x.booth, x.desk⟩).closeTurn x.booth .switch).openTurn x.booth x.desk
          y).setProducer y x.booth) (by simp) (by simp [State.setProducer])
      obtain ⟨h3, h4⟩ := leave (t := s.leaveOld x.old) rfl rfl
      rw [h1, h2, h3, h4]
      exact ⟨rfl, rfl⟩

/-- What the reports of all outcomes do to the records of channel `c`. -/
theorem State.foldl_reportCarry_records (xs : List Carry) (s : State) (c : Nat)
    (h : ∀ x ∈ xs, x.new = some c → (s.chan c).holder = some ⟨x.booth, x.desk⟩) :
    (xs.foldl State.reportCarry s).carriage c =
        (if ∃ x ∈ xs, x.new = some c then { live := (s.chan c).holder }
        else if (∃ x ∈ xs, x.old = c) ∧ (s.chan c).holder = none then {} else s.carriage c) ∧
      (xs.foldl State.reportCarry s).producer c =
        (if ∃ x ∈ xs, x.new = some c then (s.chan c).holder.map DeskId.booth
        else if (∃ x ∈ xs, x.old = c) ∧ (s.chan c).holder = none then none else s.producer c) := by
  induction xs generalizing s with
  | nil => simp
  | cons x xs ih =>
    have hchan : (s.reportCarry x).chan c = s.chan c := State.chan_congr (by simp) c
    obtain ⟨h1, h2⟩ := ih (s.reportCarry x) fun y hy hn => by
      rw [hchan]
      exact h y (List.mem_cons_of_mem _ hy) hn
    obtain ⟨h3, h4⟩ := s.reportCarry_records x c fun hn => by simp [h x List.mem_cons_self hn]
    rw [List.foldl_cons, h1, h2, h3, h4, hchan]
    by_cases hnew : ∃ y ∈ xs, y.new = some c
    · have : ∃ y ∈ x :: xs, y.new = some c := hnew.imp fun y hy => ⟨List.mem_cons_of_mem _ hy.1, hy.2⟩
      rw [if_pos hnew, if_pos this, if_pos hnew, if_pos this]
      exact ⟨rfl, rfl⟩
    · by_cases hx : x.new = some c
      · have hh := h x List.mem_cons_self hx
        simp [hnew, hx, hh]
      · by_cases hold : x.old = c
        · by_cases hh : (s.chan c).holder = none <;> simp [hnew, hx, hold, hh]
        · simp [hnew, hx, hold]

end Sys2Proof.Machine
end

section
/-! O55: the microphones' law is kept. `State.MicSound` is the law without the offers (R60) and without what holds off air
(R83); every operation of the live microphones keeps it. -/

namespace Sys2Proof.Machine

/-! ## The law in three parts -/

/-- R60 to R62, R45, R90: the microphones' records agree with one another, the entry of the booth `skip` in a queue
perhaps missing. -/
structure State.MicSound (skip : Option Nat) (s : State) : Prop where
  entries : ∀ k b, (s.boothEntry (s.bank k) b).inRange
  booths : ∀ b, s.booth b ≠ {} → b ∈ Config.boothNumbers
  channels : ∀ c, s.chan c ≠ {} → c ∈ Config.channelNumbers
  live : ∀ b d c, (s.booth b).live = some (d, c) → d ∈ [1, 2, 3]
  offering : ∀ b d x, (s.booth b).offer = some (d, x) → d ∈ [1, 2, 3]
  waiting : ∀ b d x, (s.booth b).pending = some (d, x) → d ∈ [1, 2, 3]
  named : ∀ b d c, (s.booth b).live = some (d, c) ↔ (s.chan c).holder = some ⟨b, d⟩
  pending : ∀ b, (s.booth b).pending.isSome → (s.booth b).live = none
  timer : ∀ b, (s.booth b).offerTimer.isSome = (s.booth b).offer.isSome
  waits : ∀ c w, w ∈ (s.chan c).queue → (s.booth w.booth).pending.map Prod.fst = some w.desk
  queued : ∀ b d x, skip ≠ some b → (s.booth b).pending = some (d, x) →
    ∃ c, (⟨b, d⟩ : DeskId) ∈ (s.chan c).queue
  size : ∀ c, (s.chan c).queue.length ≤ Config.queueSize
  once : ∀ c, ((s.chan c).queue.map DeskId.booth).Nodup
  carriage : ∀ c, (s.carriage c).live = (s.chan c).holder
  ramp : ∀ c r, (s.carriage c).ramp = some r → (s.carriage c).live = some r.incoming
  producer : ∀ c, s.producer c = (s.chan c).holder.map DeskId.booth

/-- R83: outside ON_AIR no desk is live and no queue or offer exists. -/
def State.Quiet (s : State) : Prop :=
  s.framer.state ≠ .onAir → (∀ b, s.booth b = {}) ∧ ∀ c, s.chan c = {}

theorem State.micLaw_iff (s : State) : s.MicLaw ↔ s.MicSound none ∧ (∀ b, s.offerOk b) ∧ s.Quiet :=
  ⟨fun h => ⟨⟨h.entries, h.booths, h.channels, h.live, h.offering, h.waiting, h.named, h.pending, h.timer, h.waits,
      fun b d x _ => h.queued b d x, h.size, h.once, h.carriage, h.ramp, h.producer⟩, h.offer, h.quiet⟩,
    fun ⟨h, ho, hq⟩ => ⟨h.entries, h.booths, h.channels, h.live, h.offering, h.waiting, h.named, ho, h.pending,
      h.timer, h.waits, fun b d x => h.queued b d x nofun, h.size, h.once, hq, h.carriage, h.ramp, h.producer⟩⟩

theorem State.MicLaw.sound {s : State} (h : s.MicLaw) : s.MicSound none := ((s.micLaw_iff).mp h).1

namespace State.MicSound

variable {skip : Option Nat} {s t : State} {b d c : Nat}

theorem skipping (h : s.MicSound none) (skip : Option Nat) : s.MicSound skip :=
  { h with queued := fun b d x _ => h.queued b d x nofun }

/-- The law speaks of the plan's booth entries, the microphones' records and the two copies alone. -/
theorem congr (h : s.MicSound skip) (he : ∀ k b, (t.boothEntry (t.bank k) b).inRange) (hb : ∀ b, t.booth b = s.booth b)
    (hc : ∀ c, t.chan c = s.chan c) (hm : ∀ c, t.carriage c = s.carriage c) (hp : ∀ c, t.producer c = s.producer c) :
    t.MicSound skip where
  entries := he
  booths b := by rw [hb]; exact h.booths b
  channels c := by rw [hc]; exact h.channels c
  live b d c := by rw [hb]; exact h.live b d c
  offering b d x := by rw [hb]; exact h.offering b d x
  waiting b d x := by rw [hb]; exact h.waiting b d x
  named b d c := by rw [hb, hc]; exact h.named b d c
  pending b := by rw [hb]; exact h.pending b
  timer b := by rw [hb]; exact h.timer b
  waits c w := by rw [hc, hb]; exact h.waits c w
  queued b d x := by simp only [hb, hc]; exact h.queued b d x
  size c := by rw [hc]; exact h.size c
  once c := by rw [hc]; exact h.once c
  carriage c := by rw [hm, hc]; exact h.carriage c
  ramp c r := by rw [hm]; exact h.ramp c r
  producer c := by rw [hp, hc]; exact h.producer c

/-- The booth entries after a change that leaves straps and banks alone. -/
theorem entries_congr (h : s.MicSound skip) (hs : t.straps = s.straps) (hb : t.banks = s.banks) (k b : Nat) :
    (t.boothEntry (t.bank k) b).inRange := by
  rw [State.boothEntry_congr hs, State.bank_congr hb]
  exact h.entries k b

/-- No block but plan, microphones, mixer and relay resolver matters. -/
theorem congr_blocks (h : s.MicSound skip) (hs : t.straps = s.straps) (hb : t.banks = s.banks) (hd : t.bdc = s.bdc)
    (hm : t.mixer.carriage = s.mixer.carriage) (hr : t.relay.producers = s.relay.producers) : t.MicSound skip :=
  h.congr (h.entries_congr hs hb) (State.booth_congr hd) (State.chan_congr hd)
    (fun c => by simp only [State.carriage, hm]) fun c => by simp only [State.producer, hr]

/-! ## What the law says -/

theorem channel_of_holder (h : s.MicSound skip) {w : DeskId} (hw : (s.chan c).holder = some w) :
    c ∈ Config.channelNumbers :=
  h.channels c fun he => by rw [he] at hw; cases hw

theorem booth_of_live (h : s.MicSound skip) {l : Nat × Nat} (hl : (s.booth b).live = some l) :
    b ∈ Config.boothNumbers :=
  h.booths b fun he => by rw [he] at hl; cases hl

theorem channel_of_live (h : s.MicSound skip) (hl : (s.booth b).live = some (d, c)) : c ∈ Config.channelNumbers :=
  h.channel_of_holder ((h.named b d c).mp hl)

theorem planChannel_mem (h : s.MicSound skip) {o : Output} (hc : s.planChannel b o = some c) :
    c ∈ Config.channelNumbers := by
  unfold State.planChannel State.planBooth State.plan at hc
  cases hk : s.onAirBank with
  | none => simp [hk] at hc
  | some k =>
    simp only [hk, Option.map_some] at hc
    split at hc
    · exact h.entries k b o c (by simpa using hc)
    · simp at hc

/-- A desk that waits is of a booth without a live desk. -/
theorem live_none_of_waits (h : s.MicSound skip) {w : DeskId} (hw : w ∈ (s.chan c).queue) :
    (s.booth w.booth).live = none :=
  h.pending w.booth (by have := h.waits c w hw; cases hp : (s.booth w.booth).pending <;> simp [hp] at this ⊢)

theorem desk_of_waits (h : s.MicSound skip) {w : DeskId} (hw : w ∈ (s.chan c).queue) : w.desk ∈ [1, 2, 3] := by
  have := h.waits c w hw
  cases hp : (s.booth w.booth).pending with
  | none => simp [hp] at this
  | some p =>
    rw [hp, Option.map_some, Option.some_inj] at this
    exact this ▸ h.waiting w.booth p.1 p.2 (by rw [hp])

theorem booth_of_waits (h : s.MicSound skip) {w : DeskId} (hw : w ∈ (s.chan c).queue) :
    w.booth ∈ Config.boothNumbers :=
  h.booths w.booth fun he => by have := h.waits c w hw; simp [he] at this

/-! ## A grant -/

theorem grant_holder (hc : c ∈ Config.channelNumbers) (x : Nat) :
    ((s.grant b d c).chan x).holder = if x = c then some ⟨b, d⟩ else (s.chan x).holder := by
  rw [State.grant_chan]
  by_cases hx : x ∈ Config.channelNumbers
  · rw [if_pos hx]
  · have hne : x ≠ c := fun he => hx (he ▸ hc)
    rw [if_neg hx, if_neg hne, if_neg hne]

theorem grant_queue (h : s.MicSound skip) (hc : c ∈ Config.channelNumbers) (x : Nat) :
    ((s.grant b d c).chan x).queue = (s.chan x).queue.filter fun e => e.booth != b := by
  rw [State.grant_chan]
  by_cases hx : x ∈ Config.channelNumbers
  · rw [if_pos hx]
  · have : s.chan x = {} := by
      by_contra hne
      exact hx (h.channels x hne)
    rw [if_neg hx, if_neg fun he : x = c => hx (he ▸ hc), this]
    rfl

theorem grant (h : s.MicSound (some b)) (hb : b ∈ Config.boothNumbers) (hd : d ∈ [1, 2, 3])
    (hc : c ∈ Config.channelNumbers) (hl : (s.booth b).live = none) (hfree : (s.chan c).holder = none) :
    (s.grant b d c).MicSound none where
  entries := h.entries_congr (by simp) (by simp)
  booths x hx := by
    rw [State.grant_booth] at hx
    split at hx
    · next he => exact he ▸ hb
    · exact h.booths x hx
  channels x hx := by
    by_contra hn
    rw [State.grant_chan, if_neg hn, if_neg fun he : x = c => hn (he ▸ hc)] at hx
    exact hn (h.channels x hx)
  live x d' c' := by
    rw [State.grant_booth]
    split
    · rintro ⟨⟩
      exact hd
    · exact h.live x d' c'
  offering x d' y := by
    rw [State.grant_booth]
    split
    · exact h.offering b d' y
    · exact h.offering x d' y
  waiting x d' y := by
    rw [State.grant_booth]
    split
    · nofun
    · exact h.waiting x d' y
  named x d' c' := by
    rw [State.grant_booth, grant_holder hc]
    by_cases hx : x = b
    · subst hx
      by_cases hcc : c' = c
      · subst hcc
        simp
      · have := h.named x d' c'
        rw [hl] at this
        simpa [hcc, Ne.symm hcc] using this
    · by_cases hcc : c' = c
      · subst hcc
        have := h.named x d' c'
        rw [hfree] at this
        simpa [hx, Ne.symm hx] using this
      · simpa [hx, hcc] using h.named x d' c'
  pending x := by
    rw [State.grant_booth]
    split
    · simp
    · exact h.pending x
  timer x := by
    rw [State.grant_booth]
    split
    · exact h.timer b
    · exact h.timer x
  waits x w hw := by
    rw [h.grant_queue hc, List.mem_filter] at hw
    rw [State.grant_booth, if_neg (by simpa using hw.2)]
    exact h.waits x w hw.1
  queued x d' y _ := by
    rw [State.grant_booth]
    split
    · nofun
    · next hx =>
      intro hp
      obtain ⟨c', hc'⟩ := h.queued x d' y (by simpa using Ne.symm hx) hp
      exact ⟨c', by rw [h.grant_queue hc, List.mem_filter]; exact ⟨hc', by simpa using hx⟩⟩
  size x := by
    rw [h.grant_queue hc]
    exact (List.length_filter_le _ _).trans (h.size x)
  once x := by
    rw [h.grant_queue hc]
    exact (h.once x).sublist (List.filter_sublist.map _)
  carriage x := by
    rw [State.grant_carriage, grant_holder hc]
    split
    · rfl
    · exact h.carriage x
  ramp x r := by
    rw [State.grant_carriage]
    split
    · nofun
    · exact h.ramp x r
  producer x := by
    rw [State.grant_producer, grant_holder hc]
    split
    · rfl
    · exact h.producer x

/-! ## A queue passed on -/

/-- The oldest entry of a queue has left it; its booth's pending request still stands. -/
theorem popQueue (h : s.MicSound none) {e : DeskId} {rest : List DeskId} (hq : (s.chan c).queue = e :: rest) :
    (s.setChan c { s.chan c with queue := rest }).MicSound (some e.booth) := by
  have hch (x : Nat) : (s.setChan c { s.chan c with queue := rest }).chan x =
      if x = c then { s.chan c with queue := rest } else s.chan x := State.chan_setChan s c x _
  have hold (x : Nat) : ((s.setChan c { s.chan c with queue := rest }).chan x).holder = (s.chan x).holder := by
    rw [hch]
    split
    · next hx => rw [hx]
    · rfl
  have hqueue (x : Nat) : ((s.setChan c { s.chan c with queue := rest }).chan x).queue =
      if x = c then rest else (s.chan x).queue := by
    rw [hch]
    split <;> rfl
  exact
    { entries := h.entries
      booths := h.booths
      channels := fun x hx => by
        rw [hch] at hx
        split at hx
        · next he => exact h.channels x fun hne => by rw [he] at hne; simp [hne] at hq
        · exact h.channels x hx
      live := h.live
      offering := h.offering
      waiting := h.waiting
      named := fun x d c' => by rw [hold]; exact h.named x d c'
      pending := h.pending
      timer := h.timer
      waits := fun x w hw => by
        rw [hqueue] at hw
        split at hw
        · exact h.waits c w (by rw [hq]; exact List.mem_cons_of_mem _ hw)
        · exact h.waits x w hw
      queued := fun x d y hx hp => by
        obtain ⟨c', hc'⟩ := h.queued x d y nofun hp
        refine ⟨c', ?_⟩
        rw [hqueue]
        split
        · next he =>
          rw [he, hq] at hc'
          refine (List.mem_cons.mp hc').resolve_left fun he => hx ?_
          rw [← he]
        · exact hc'
      size := fun x => by
        rw [hqueue]
        split
        · have := h.size c
          rw [hq, List.length_cons] at this
          omega
        · exact h.size x
      once := fun x => by
        rw [hqueue]
        split
        · have := h.once c
          rw [hq, List.map_cons, List.nodup_cons] at this
          exact this.2
        · exact h.once x
      carriage := fun x => by rw [hold]; exact h.carriage x
      ramp := h.ramp
      producer := fun x => by rw [hold]; exact h.producer x }

theorem passQueue (h : s.MicSound none) (hfree : (s.chan c).holder = none) : (s.passQueue c).MicSound none := by
  rcases s.passQueue_cases c with ⟨-, hs⟩ | ⟨e, rest, hq, hs⟩ <;> rw [hs]
  · exact h
  · have he : e ∈ (s.chan c).queue := by rw [hq]; exact List.mem_cons_self
    refine (h.popQueue hq).grant (h.booth_of_waits he) (h.desk_of_waits he)
      (h.channels c fun hne => by simp [hne] at hq) (h.live_none_of_waits he) ?_
    rw [State.chan_setChan, if_pos rfl]
    exact hfree

/-! ## A release and a handover -/

theorem release (h : s.MicSound skip) (hl : (s.booth b).live = some (d, c)) (r : Reason) :
    (s.release b c r).MicSound skip := by
  have hh := (h.named b d c).mp hl
  have hold (x : Nat) : ((s.release b c r).chan x).holder = if x = c then none else (s.chan x).holder := by
    rw [State.release_chan]
    split <;> rfl
  have hqueue (x : Nat) : ((s.release b c r).chan x).queue = (s.chan x).queue := by
    rw [State.release_chan]
    split
    · next he => rw [he]
    · rfl
  have hpend (x : Nat) : ((s.release b c r).booth x).pending = (s.booth x).pending := by
    rw [State.release_booth]
    split
    · next he => rw [he]
    · rfl
  exact
    { entries := h.entries_congr (by simp) (by simp)
      booths := fun x hx => by
        rw [State.release_booth] at hx
        split at hx
        · next he => exact he ▸ h.booth_of_live hl
        · exact h.booths x hx
      channels := fun x hx => by
        rw [State.release_chan] at hx
        split at hx
        · next he => exact he ▸ h.channel_of_live hl
        · exact h.channels x hx
      live := fun x d' c' => by
        rw [State.release_booth]
        split
        · nofun
        · exact h.live x d' c'
      offering := fun x d' y => by
        rw [State.release_booth]
        split
        · exact h.offering b d' y
        · exact h.offering x d' y
      waiting := fun x d' y => by
        rw [hpend]
        exact h.waiting x d' y
      named := fun x d' c' => by
        rw [State.release_booth, hold]
        by_cases hx : x = b
        · subst hx
          by_cases hcc : c' = c
          · simp [hcc]
          · have := h.named x d' c'
            rw [hl] at this
            simpa [hcc, Ne.symm hcc] using this
        · by_cases hcc : c' = c
          · subst hcc
            have := h.named x d' c'
            rw [hh] at this
            simpa [hx, Ne.symm hx] using this
          · simpa [hx, hcc] using h.named x d' c'
      pending := fun x => by
        rw [hpend, State.release_booth]
        split
        · exact fun _ => rfl
        · exact h.pending x
      timer := fun x => by
        rw [State.release_booth]
        split
        · exact h.timer b
        · exact h.timer x
      waits := fun x w => by
        rw [hqueue, hpend]
        exact h.waits x w
      queued := fun x d' y => by
        simp only [hpend, hqueue]
        exact h.queued x d' y
      size := fun x => by rw [hqueue]; exact h.size x
      once := fun x => by rw [hqueue]; exact h.once x
      carriage := fun x => by
        rw [State.release_carriage, hold]
        split
        · rfl
        · exact h.carriage x
      ramp := fun x r' => by
        rw [State.release_carriage]
        split
        · nofun
        · exact h.ramp x r'
      producer := fun x => by
        rw [State.release_producer, hold]
        split
        · rfl
        · exact h.producer x }

theorem handover_producer (s : State) (b d e c x : Nat) : (s.handover b d e c).producer x = s.producer x :=
  State.producer_congr (by simp) x

theorem handover {e : Nat} {y : Output} (h : s.MicSound skip) (hl : (s.booth b).live = some (d, c))
    (ho : (s.booth b).offer = some (e, y)) : (s.handover b d e c).MicSound skip := by
  have hh := (h.named b d c).mp hl
  have hold (x : Nat) : ((s.handover b d e c).chan x).holder = if x = c then some ⟨b, e⟩ else (s.chan x).holder := by
    rw [State.handover_chan]
    split <;> rfl
  have hqueue (x : Nat) : ((s.handover b d e c).chan x).queue = (s.chan x).queue := by
    rw [State.handover_chan]
    split
    · next he => rw [he]
    · rfl
  have hpend (x : Nat) : ((s.handover b d e c).booth x).pending = (s.booth x).pending := by
    rw [State.handover_booth]
    split
    · next he => rw [he]
    · rfl
  exact
    { entries := h.entries_congr (by simp) (by simp)
      booths := fun x hx => by
        rw [State.handover_booth] at hx
        split at hx
        · next he => exact he ▸ h.booth_of_live hl
        · exact h.booths x hx
      channels := fun x hx => by
        rw [State.handover_chan] at hx
        split at hx
        · next he => exact he ▸ h.channel_of_live hl
        · exact h.channels x hx
      live := fun x d' c' => by
        rw [State.handover_booth]
        split
        · rintro ⟨⟩
          exact h.offering b e y ho
        · exact h.live x d' c'
      offering := fun x d' z => by
        rw [State.handover_booth]
        split
        · nofun
        · exact h.offering x d' z
      waiting := fun x d' z => by
        rw [hpend]
        exact h.waiting x d' z
      named := fun x d' c' => by
        rw [State.handover_booth, hold]
        by_cases hx : x = b
        · subst hx
          by_cases hcc : c' = c
          · subst hcc
            simp
          · have := h.named x d' c'
            rw [hl] at this
            simpa [hcc, Ne.symm hcc] using this
        · by_cases hcc : c' = c
          · subst hcc
            have := h.named x d' c'
            rw [hh] at this
            simpa [hx, Ne.symm hx] using this
          · simpa [hx, hcc] using h.named x d' c'
      pending := fun x => by
        rw [hpend, State.handover_booth]
        split
        · next he =>
          intro hp
          have := h.pending x hp
          rw [he, hl] at this
          cases this
        · exact h.pending x
      timer := fun x => by
        rw [State.handover_booth]
        split
        · rfl
        · exact h.timer x
      waits := fun x w => by
        rw [hqueue, hpend]
        exact h.waits x w
      queued := fun x d' z => by
        simp only [hpend, hqueue]
        exact h.queued x d' z
      size := fun x => by rw [hqueue]; exact h.size x
      once := fun x => by rw [hqueue]; exact h.once x
      carriage := fun x => by
        rw [State.handover_carriage, hold]
        split
        · rfl
        · exact h.carriage x
      ramp := fun x r' => by
        rw [State.handover_carriage]
        split
        · show s.newRamp c ⟨b, d⟩ ⟨b, e⟩ = some r' → _
          unfold State.newRamp
          split
          · nofun
          · rintro ⟨⟩
            rfl
        · exact h.ramp x r'
      producer := fun x => by
        rw [handover_producer, hold, h.producer]
        split
        · next he => rw [he, hh]; rfl
        · rfl }

end State.MicSound

end Sys2Proof.Machine
end

section
/-! O55, continued: offers and waits, the clearing of waits, the carry-over and the release of all desks keep the
microphones' law; then every act and every step. -/

namespace Sys2Proof.Machine

namespace State.MicSound

variable {skip : Option Nat} {s t : State} {b d c : Nat}

/-! ## Offers and waits -/

theorem withdraw_queue (h : s.MicSound skip) (b x : Nat) :
    ((s.withdraw b).chan x).queue = (s.chan x).queue.filter fun e => e.booth != b := by
  rw [State.withdraw_chan]
  by_cases hx : x ∈ Config.channelNumbers
  · rw [if_pos hx]
  · have : s.chan x = {} := by
      by_contra hne
      exact hx (h.channels x hne)
    rw [if_neg hx, this]
    rfl

theorem withdraw_holder (s : State) (b x : Nat) : ((s.withdraw b).chan x).holder = (s.chan x).holder := by
  rw [State.withdraw_chan]
  split <;> rfl

/-- A change of a booth's offer, and of nothing else, to one of a desk 1 to 3 with the timer running, or to none. -/
theorem setOffer (h : s.MicSound skip) {o : Option (Nat × Output)} {n : Option Nat}
    (hb : o.isSome = true → b ∈ Config.boothNumbers) (ho : ∀ e x, o = some (e, x) → e ∈ [1, 2, 3])
    (hn : n.isSome = o.isSome) : (s.setBooth b { s.booth b with offer := o, offerTimer := n }).MicSound skip := by
  have hbooth (x : Nat) := s.booth_setBooth b x { s.booth b with offer := o, offerTimer := n }
  have hlive (x : Nat) : ((s.setBooth b { s.booth b with offer := o, offerTimer := n }).booth x).live =
      (s.booth x).live := by
    rw [hbooth]
    split
    · next he => rw [he]
    · rfl
  have hpend (x : Nat) : ((s.setBooth b { s.booth b with offer := o, offerTimer := n }).booth x).pending =
      (s.booth x).pending := by
    rw [hbooth]
    split
    · next he => rw [he]
    · rfl
  exact
    { h with
      booths := fun x hx => by
        rw [hbooth] at hx
        split at hx
        · next he =>
          cases hos : o with
          | some _ => exact he ▸ hb (by simp [hos])
          | none =>
            refine he ▸ h.booths b fun hne => hx ?_
            have : n = none := by simpa [hos] using hn
            rw [hne, hos, this]
        · exact h.booths x hx
      live := fun x => by simpa only [hlive] using h.live x
      offering := fun x d y => by
        rw [hbooth]
        split
        · exact ho d y
        · exact h.offering x d y
      waiting := fun x => by simpa only [hpend] using h.waiting x
      named := fun x d c => by rw [hlive]; exact h.named x d c
      pending := fun x => by simpa only [hlive, hpend] using h.pending x
      timer := fun x => by
        rw [hbooth]
        split
        · exact hn
        · exact h.timer x
      waits := fun c w hw => by rw [hpend]; exact h.waits c w hw
      queued := fun x d y hx hp => h.queued x d y hx (hpend x ▸ hp) }

theorem withdraw (h : s.MicSound skip) (b : Nat) : (s.withdraw b).MicSound skip := by
  have hbooth := s.withdraw_booth b
  exact
    { entries := h.entries
      booths := fun x hx => by
        rw [hbooth] at hx
        split at hx
        · next he => exact he ▸ h.booths b fun hne => hx (by rw [hne])
        · exact h.booths x hx
      channels := fun x hx => by
        by_contra hn
        rw [State.withdraw_chan, if_neg hn] at hx
        exact hn (h.channels x hx)
      live := fun x d c => by
        rw [hbooth]
        split
        · exact h.live b d c
        · exact h.live x d c
      offering := fun x d y => by
        rw [hbooth]
        split
        · exact h.offering b d y
        · exact h.offering x d y
      waiting := fun x d y => by
        rw [hbooth]
        split
        · nofun
        · exact h.waiting x d y
      named := fun x d c => by
        rw [hbooth, withdraw_holder, ← h.named]
        split
        · next he => rw [he]
        · rfl
      pending := fun x => by
        rw [hbooth]
        split
        · simp
        · exact h.pending x
      timer := fun x => by
        rw [hbooth]
        split
        · exact h.timer b
        · exact h.timer x
      waits := fun c w hw => by
        rw [h.withdraw_queue, List.mem_filter] at hw
        rw [hbooth, if_neg (by simpa using hw.2)]
        exact h.waits c w hw.1
      queued := fun x d y hx => by
        rw [hbooth]
        split
        · nofun
        · next hxb =>
          intro hp
          obtain ⟨c, hc⟩ := h.queued x d y hx hp
          exact ⟨c, by rw [h.withdraw_queue, List.mem_filter]; exact ⟨hc, by simpa using hxb⟩⟩
      size := fun x => by
        rw [h.withdraw_queue]
        exact (List.length_filter_le _ _).trans (h.size x)
      once := fun x => by
        rw [h.withdraw_queue]
        exact (h.once x).sublist (List.filter_sublist.map _)
      carriage := fun x => by rw [withdraw_holder]; exact h.carriage x
      ramp := h.ramp
      producer := fun x => by rw [withdraw_holder]; exact h.producer x }

theorem joinQueue {o : Output} (h : s.MicSound none) (hb : b ∈ Config.boothNumbers) (hd : d ∈ [1, 2, 3])
    (hc : c ∈ Config.channelNumbers) (hl : (s.booth b).live = none) (hp : (s.booth b).pending = none)
    (hroom : (s.chan c).queue.length < Config.queueSize) : (s.joinQueue b d c o).MicSound none := by
  have hbooth := s.joinQueue_booth b d c o
  have hold (x : Nat) : ((s.joinQueue b d c o).chan x).holder = (s.chan x).holder := by
    rw [State.joinQueue_chan]
    split
    · next he => rw [he]
    · rfl
  have hqueue (x : Nat) : ((s.joinQueue b d c o).chan x).queue =
      if x = c then (s.chan c).queue ++ [⟨b, d⟩] else (s.chan x).queue := by
    rw [State.joinQueue_chan]
    split <;> rfl
  -- no entry of the booth stands in a queue yet
  have hnew (x : Nat) (w : DeskId) (hw : w ∈ (s.chan x).queue) : w.booth ≠ b := by
    intro he
    have := h.waits x w hw
    rw [he, hp] at this
    cases this
  exact
    { entries := h.entries
      booths := fun x hx => by
        rw [hbooth] at hx
        split at hx
        · next he => exact he ▸ hb
        · exact h.booths x hx
      channels := fun x hx => by
        rw [State.joinQueue_chan] at hx
        split at hx
        · next he => exact he ▸ hc
        · exact h.channels x hx
      live := fun x d' c' => by
        rw [hbooth]
        split
        · exact h.live b d' c'
        · exact h.live x d' c'
      offering := fun x d' y => by
        rw [hbooth]
        split
        · exact h.offering b d' y
        · exact h.offering x d' y
      waiting := fun x d' y => by
        rw [hbooth]
        split
        · rintro ⟨⟩
          exact hd
        · exact h.waiting x d' y
      named := fun x d' c' => by
        rw [hbooth, hold, ← h.named]
        split
        · next he => rw [he]
        · rfl
      pending := fun x => by
        rw [hbooth]
        split
        · exact fun _ => hl
        · exact h.pending x
      timer := fun x => by
        rw [hbooth]
        split
        · exact h.timer b
        · exact h.timer x
      waits := fun x w hw => by
        rw [hqueue] at hw
        have hcase : w ∈ (s.chan x).queue ∨ w = ⟨b, d⟩ := by
          split at hw
          · next he => exact he ▸ (List.mem_append.mp hw).imp_right List.mem_singleton.mp
          · exact .inl hw
        rcases hcase with hw | rfl
        · rw [hbooth, if_neg (hnew x w hw)]
          exact h.waits x w hw
        · rw [hbooth, if_pos rfl]
          rfl
      queued := fun x d' y hx => by
        rw [hbooth]
        split
        · next he =>
          rintro ⟨⟩
          exact ⟨c, by rw [hqueue, if_pos rfl, he]; simp⟩
        · intro hpx
          obtain ⟨c', hc'⟩ := h.queued x d' y hx hpx
          refine ⟨c', ?_⟩
          rw [hqueue]
          split
          · next he => exact List.mem_append_left _ (he ▸ hc')
          · exact hc'
      size := fun x => by
        rw [hqueue]
        split
        · simpa using hroom
        · exact h.size x
      once := fun x => by
        rw [hqueue]
        split
        · rw [List.map_append, List.nodup_append]
          refine ⟨h.once c, by simp, fun y hy z hz => ?_⟩
          obtain ⟨w, hw, rfl⟩ := List.mem_map.mp hy
          have : z = b := by simpa using hz
          exact this ▸ hnew c w hw
        · exact h.once x
      carriage := fun x => by rw [hold]; exact h.carriage x
      ramp := h.ramp
      producer := fun x => by rw [hold]; exact h.producer x }

theorem clearWaits_booth (h : s.MicSound skip) (b : Nat) : s.clearWaits.booth b = { live := (s.booth b).live } := by
  rw [State.clearWaits_booth]
  split
  · rfl
  · next hb =>
    have : s.booth b = {} := by
      by_contra hne
      exact hb (h.booths b hne)
    rw [this]

theorem clearWaits_chan (h : s.MicSound skip) (c : Nat) : s.clearWaits.chan c = { holder := (s.chan c).holder } := by
  rw [State.clearWaits_chan]
  split
  · rfl
  · next hc =>
    have : s.chan c = {} := by
      by_contra hne
      exact hc (h.channels c hne)
    rw [this]

theorem clearWaits (h : s.MicSound skip) : s.clearWaits.MicSound none where
  entries := h.entries
  booths b hb := h.booths b fun hne => hb (by rw [h.clearWaits_booth, hne])
  channels c hc := h.channels c fun hne => hc (by rw [h.clearWaits_chan, hne])
  live b := by rw [h.clearWaits_booth]; exact h.live b
  offering b := by rw [h.clearWaits_booth]; nofun
  waiting b := by rw [h.clearWaits_booth]; nofun
  named b d c := by rw [h.clearWaits_booth, h.clearWaits_chan]; exact h.named b d c
  pending b := by rw [h.clearWaits_booth]; nofun
  timer b := by rw [h.clearWaits_booth]; rfl
  waits c w := by rw [h.clearWaits_chan]; nofun
  queued b := by rw [h.clearWaits_booth]; nofun
  size c := by rw [h.clearWaits_chan]; exact Nat.zero_le _
  once c := by rw [h.clearWaits_chan]; exact List.nodup_nil
  carriage c := by rw [h.clearWaits_chan]; exact h.carriage c
  ramp := h.ramp
  producer c := by rw [h.clearWaits_chan]; exact h.producer c

theorem tickTimers_booth (h : s.MicSound skip) (b : Nat) :
    s.tickTimers.booth b = { s.booth b with offerTimer := tickDown (s.booth b).offerTimer } := by
  have : s.tickTimers.booth b = if b ∈ Config.boothNumbers then
      { s.booth b with offerTimer := tickDown (s.booth b).offerTimer } else s.booth b := Table.fetch_fill _ _ _ _ _
  rw [this]
  split
  · rfl
  · next hb =>
    have : s.booth b = {} := by
      by_contra hne
      exact hb (h.booths b hne)
    rw [this]
    rfl

theorem tickTimers (h : s.MicSound skip) : s.tickTimers.MicSound skip :=
  { h with
    booths := fun b hb => h.booths b fun hne => hb (by rw [h.tickTimers_booth, hne]; rfl)
    live := fun b => by rw [h.tickTimers_booth]; exact h.live b
    offering := fun b => by rw [h.tickTimers_booth]; exact h.offering b
    waiting := fun b => by rw [h.tickTimers_booth]; exact h.waiting b
    named := fun b => by rw [h.tickTimers_booth]; exact h.named b
    pending := fun b => by rw [h.tickTimers_booth]; exact h.pending b
    timer := fun b => by
      rw [h.tickTimers_booth, ← h.timer b]
      simp [tickDown]
    waits := fun c w hw => by rw [h.tickTimers_booth]; exact h.waits c w hw
    queued := fun b => by rw [h.tickTimers_booth]; exact h.queued b }

/-! ## Frames and the carry-over -/

theorem advanceRamps_carriage (s : State) (c : Nat) :
    s.advanceRamps.carriage c = if c ∈ Config.channelNumbers then (s.carriage c).advance else s.carriage c :=
  Table.fetch_fill _ _ _ _ _

theorem Carriage.advance_live (x : Carriage) : x.advance.live = x.live := by
  unfold Carriage.advance
  split
  · rfl
  · split <;> rfl

theorem Carriage.advance_incoming {x : Carriage} {r : Ramp} (h : x.advance.ramp = some r) :
    ∃ q, x.ramp = some q ∧ q.incoming = r.incoming := by
  unfold Carriage.advance at h
  split at h
  · next hn => rw [hn] at h; cases h
  · next q hq =>
    split at h
    · cases h
      exact ⟨q, hq, rfl⟩
    · cases h

theorem beginFrame (h : s.MicSound skip) (tr o m : Bool) : (s.beginFrame tr o m).MicSound skip := by
  have hm (c : Nat) : (s.beginFrame tr o m).carriage c = s.advanceRamps.carriage c := rfl
  have hlive (c : Nat) : ((s.beginFrame tr o m).carriage c).live = (s.carriage c).live := by
    rw [hm, advanceRamps_carriage]
    split
    · exact Carriage.advance_live _
    · rfl
  exact
    { h with
      carriage := fun c => by rw [hlive]; exact h.carriage c
      ramp := fun c r hr => by
        rw [hlive]
        rw [hm, advanceRamps_carriage] at hr
        split at hr
        · obtain ⟨q, hq, hi⟩ := Carriage.advance_incoming hr
          exact hi ▸ h.ramp c q hq
        · exact h.ramp c r hr }

theorem dropRamps_carriage (s : State) (c : Nat) :
    s.dropRamps.carriage c = if c ∈ Config.channelNumbers then { s.carriage c with ramp := none } else s.carriage c :=
  Table.fetch_fill _ _ _ _ _

theorem dropRamps (h : s.MicSound skip) : s.dropRamps.MicSound skip :=
  { h with
    carriage := fun c => by
      rw [dropRamps_carriage]
      split
      · exact h.carriage c
      · exact h.carriage c
    ramp := fun c r => by
      rw [dropRamps_carriage]
      split
      · nofun
      · exact h.ramp c r }

/-- After the carry-over the mixer and the relay resolver hold the live holders, and no ramp is left. -/
theorem carryOver_copies (h : s.MicSound skip) (c : Nat) :
    s.carryOver.carriage c = { live := (s.carryOver.chan c).holder, ramp := none } ∧
      s.carryOver.producer c = (s.carryOver.chan c).holder.map DeskId.booth := by
  have hchan : s.carryOver.chan c = s.carryStart.chan c := State.chan_congr s.carryOver_bdc c
  have hnew : ∀ x ∈ s.clearWaits.carries Config.boothNumbers [], x.new = some c →
      (s.carryOver.chan c).holder = some ⟨x.booth, x.desk⟩ := fun x hx hn => by
    obtain ⟨hb, hl, hc⟩ := (State.mem_carries _ x).mp hx
    exact ((s.carryOver_chan c).2 _).mpr ⟨hb, by rw [hl]; rfl, hc ▸ hn⟩
  obtain ⟨hm, hp⟩ := State.foldl_reportCarry_records (s.clearWaits.carries Config.boothNumbers []) s.carryStart c
    (by rw [← hchan]; exact hnew)
  rw [← State.carryOver_eq] at hm hp
  rw [hm, hp, ← hchan]
  by_cases hex : ∃ x ∈ s.clearWaits.carries Config.boothNumbers [], x.new = some c
  · rw [if_pos hex, if_pos hex]
    exact ⟨rfl, rfl⟩
  · rw [if_neg hex, if_neg hex]
    -- nobody is carried to the channel: it has no holder now
    have hnone : (s.carryOver.chan c).holder = none := by
      cases hw : (s.carryOver.chan c).holder with
      | none => rfl
      | some w =>
        obtain ⟨hwb, hwl, hwc⟩ := ((s.carryOver_chan c).2 w).mp hw
        obtain ⟨l, hl, -⟩ := Option.map_eq_some_iff.mp hwl
        exact absurd ⟨⟨w.booth, l.1, l.2, some c⟩, (State.mem_carries _ _).mpr ⟨hwb, hl, hwc.symm⟩, rfl⟩ hex
    simp only [hnone, and_true, Option.map_none]
    split
    · exact ⟨rfl, rfl⟩
    · -- nobody held it before either
      next hold =>
      have hbefore : (s.chan c).holder = none := by
        cases hw : (s.chan c).holder with
        | none => rfl
        | some w =>
          have hl := (h.named w.booth w.desk c).mpr hw
          refine absurd ⟨⟨w.booth, w.desk, c, s.clearWaits.carriedTo w.booth⟩,
          (State.mem_carries _ _).mpr ⟨h.booth_of_live hl, ?_, rfl⟩, rfl⟩ hold
          rw [h.clearWaits_booth]
          exact hl
      have hcar : s.carryStart.carriage c = s.carriage c := State.carriage_congr (by simp) c
      have hpro : s.carryStart.producer c = s.producer c := State.producer_congr (by simp) c
      rw [hcar, hpro, h.producer, hbefore]
      have hlive := h.carriage c
      rw [hbefore] at hlive
      refine ⟨?_, rfl⟩
      cases hr : (s.carriage c).ramp with
      | none => exact congrArg₂ Carriage.mk hlive hr
      | some r =>
        have := h.ramp c r hr
        rw [hlive] at this
        cases this

theorem carryOver (h : s.MicSound skip) : s.carryOver.MicSound none := by
  have hlive (b d c : Nat) : (s.carryOver.booth b).live = some (d, c) ↔ b ∈ Config.boothNumbers ∧
      (s.clearWaits.booth b).live.map Prod.fst = some d ∧ s.clearWaits.carriedTo b = some c := by
    rw [State.carryOver_booth]
    dsimp only
    by_cases hb : b ∈ Config.boothNumbers
    · rw [if_pos hb]
      cases (s.clearWaits.booth b).live <;> simp [hb, and_comm]
    · simp [hb]
  have hone (b : Nat) : (s.carryOver.booth b).offer = none ∧ (s.carryOver.booth b).pending = none ∧
      (s.carryOver.booth b).offerTimer = none := by
    rw [State.carryOver_booth]
    exact ⟨rfl, rfl, rfl⟩
  have hq (c : Nat) := (s.carryOver_chan c).1
  exact
    { entries := h.entries_congr (by simp) (by simp)
      booths := fun b hb => by
        by_contra hn
        rw [State.carryOver_booth, if_neg hn] at hb
        exact hb rfl
      channels := fun c hc => by
        cases hw : (s.carryOver.chan c).holder with
        | none => exact absurd (congrArg₂ ChannelRun.mk hw (hq c)) hc
        | some w =>
          have hoff := State.carriedTo_offered ((s.carryOver_chan c).2 w |>.mp hw).2.2
          obtain ⟨l, -, hl⟩ := Option.bind_eq_some_iff.mp hoff
          unfold State.carryChannel at hl
          split at hl
          · exact h.clearWaits.planChannel_mem hl
          · cases hl
      live := fun b d c hl => by
        obtain ⟨-, hfst, -⟩ := (hlive b d c).mp hl
        obtain ⟨l, hold, rfl⟩ := Option.map_eq_some_iff.mp hfst
        exact h.clearWaits.live b l.1 l.2 hold
      offering := fun b d x ho => by rw [(hone b).1] at ho; cases ho
      waiting := fun b d x hp => by rw [(hone b).2.1] at hp; cases hp
      named := fun b d c => by rw [hlive, (s.carryOver_chan c).2]
      pending := fun b hp => by rw [(hone b).2.1] at hp; cases hp
      timer := fun b => by rw [(hone b).1, (hone b).2.2]; rfl
      waits := fun c w hw => by rw [hq] at hw; cases hw
      queued := fun b d x _ hp => by rw [(hone b).2.1] at hp; cases hp
      size := fun c => by rw [hq]; exact Nat.zero_le _
      once := fun c => by rw [hq]; exact List.nodup_nil
      carriage := fun c => by rw [(h.carryOver_copies c).1]
      ramp := fun c r hr => by rw [(h.carryOver_copies c).1] at hr; cases hr
      producer := fun c => (h.carryOver_copies c).2 }

theorem carryOver_offer (s : State) (b : Nat) : (s.carryOver.booth b).offer = none := by
  rw [State.carryOver_booth]

theorem planTaken_bdc (s : State) : s.planTaken.bdc = (s.dropRamps.endAllHolds).carryOver.bdc := by
  simp [State.planTaken]

theorem endAllHolds (h : s.MicSound skip) : s.endAllHolds.MicSound skip :=
  h.congr_blocks rfl rfl rfl rfl rfl

theorem planTaken (h : s.MicSound skip) : s.planTaken.MicSound none := by
  have hc := h.dropRamps.endAllHolds.carryOver
  exact hc.congr_blocks (by simp [State.planTaken]) (by simp [State.planTaken]) (by simp [State.planTaken])
    (by simp [State.planTaken]) (by simp [State.planTaken])

/-! ## All desks released -/

theorem releaseBooth (h : s.MicSound skip) (b : Nat) : (s.releaseBooth b).MicSound skip := by
  unfold State.releaseBooth
  split
  · next d c hl => exact h.release hl _
  · exact h

theorem releaseBooth_booth (s : State) (b x : Nat) :
    (s.releaseBooth b).booth x = if x = b then { s.booth b with live := none } else s.booth x := by
  unfold State.releaseBooth
  split
  · exact State.release_booth _ _ _ _ _
  · next hn =>
    split
    · next he =>
      subst he
      cases hb : s.booth x
      simp_all
    · rfl

theorem foldl_releaseBooth_booth (bs : List Nat) (s : State) (x : Nat) :
    (bs.foldl State.releaseBooth s).booth x = if x ∈ bs then { s.booth x with live := none } else s.booth x := by
  induction bs generalizing s with
  | nil => rfl
  | cons b bs ih =>
    rw [List.foldl_cons, ih, releaseBooth_booth]
    by_cases hx : x = b
    · subst hx
      simp
    · simp [hx]

theorem liveReset (h : s.MicSound skip) : s.liveReset.MicSound none :=
  List.foldlRecOn _ _ h.clearWaits fun _ ht b _ => MicSound.releaseBooth ht b

theorem liveReset_booth (h : s.MicSound skip) (b : Nat) : s.liveReset.booth b = {} := by
  unfold State.liveReset
  rw [foldl_releaseBooth_booth, h.clearWaits_booth]
  split
  · rfl
  · next hb =>
    have : s.booth b = {} := by
      by_contra hne
      exact hb (h.booths b hne)
    rw [this]

theorem release_queue (s : State) (b c : Nat) (r : Reason) (x : Nat) :
    ((s.release b c r).chan x).queue = (s.chan x).queue := by
  rw [State.release_chan]
  split
  · next he => rw [he]
  · rfl

theorem releaseBooth_queue (s : State) (b x : Nat) : ((s.releaseBooth b).chan x).queue = (s.chan x).queue := by
  unfold State.releaseBooth
  split
  · exact release_queue _ _ _ _ _
  · rfl

/-- With no desk live and nobody waiting the channel records are cleared. -/
theorem chan_eq_empty (h : s.MicSound skip) (hl : ∀ b, (s.booth b).live = none) (hq : (s.chan c).queue = []) :
    s.chan c = {} := by
  cases hw : (s.chan c).holder with
  | none => exact congrArg₂ ChannelRun.mk hw hq
  | some w =>
    have := (h.named w.booth w.desk c).mpr hw
    rw [hl] at this
    cases this

theorem liveReset_chan (h : s.MicSound skip) (c : Nat) : s.liveReset.chan c = {} := by
  refine h.liveReset.chan_eq_empty (fun b => by rw [h.liveReset_booth]) ?_
  have : (s.liveReset.chan c).queue = (s.clearWaits.chan c).queue :=
    foldl_keeps _ (fun t : State => (t.chan c).queue) (fun t b => releaseBooth_queue t b c) _ _
  rw [this, h.clearWaits_chan]

end State.MicSound

end Sys2Proof.Machine
end

section
/-! O55, the acts: each keeps the microphones' law but for the offer of the booth that the command is moving, whose offer the
command has settled when it ends. -/

namespace Sys2Proof.Machine

/-! ## The banks' booth entries after an act -/

theorem State.boothEntry_eq_of_booths {p q : Bank} (s : State) (h : p.booths = q.booths) (b : Nat) :
    s.boothEntry p b = s.boothEntry q b := by
  simp only [State.boothEntry, h]

theorem State.retireBanks_booths (s : State) (k : Nat) : (s.retireBanks.bank k).booths = (s.bank k).booths := by
  rw [State.retireBanks_bank]
  split
  · unfold Bank.offAir
    split <;> rfl
  · rfl

theorem State.setBank_booths {s : State} {k : Nat} {p : Bank} (h : p.booths = (s.bank k).booths) (j : Nat) :
    ((s.setBank k p).bank j).booths = (s.bank j).booths := by
  rw [State.bank_setBank]
  split
  · next hj => rw [hj, h]
  · rfl

theorem State.commitBank_booths (s : State) (k : Nat) (st : BankStatus) (j : Nat) :
    ((s.commitBank k st).bank j).booths = (s.bank j).booths := State.setBank_booths (by rfl) j

theorem State.exchangeBanks_booths (s : State) (k j : Nat) :
    ((s.exchangeBanks k).bank j).booths = (s.bank j).booths := by
  unfold State.exchangeBanks
  split
  · exact State.setBank_booths (by rfl) j
  · next i hi =>
    rw [State.bank_setBank]
    split
    · next hj => rw [hj]
    · exact State.setBank_booths (by rfl) j

namespace State.MicSound

variable {skip : Option Nat} {s t : State}

/-- R54: with no holder left the mixer may drop every carriage record. -/
theorem mixStandby (h : s.MicSound skip) (hc : ∀ c, s.chan c = {}) : s.mixStandby.MicSound skip :=
  { h with
    carriage := fun c => by
      show ({} : Carriage).live = (s.chan c).holder
      rw [hc]
    ramp := nofun }

theorem entries_of_booths (h : s.MicSound skip) (hs : t.straps = s.straps)
    (hb : ∀ k, (t.bank k).booths = (s.bank k).booths) (k b : Nat) : (t.boothEntry (t.bank k) b).inRange := by
  rw [State.boothEntry_congr hs, s.boothEntry_eq_of_booths (hb k)]
  exact h.entries k b

end State.MicSound

/-! ## The law while a command is moving booth `x` -/

/-- The microphones' law but for booth `x`'s offer. -/
structure State.MicBut (x : Option Nat) (s : State) : Prop where
  sound : s.MicSound none
  offer : ∀ b, x ≠ some b → s.offerOk b
  quiet : s.Quiet

theorem State.MicLaw.but {s : State} (h : s.MicLaw) (x : Option Nat) : s.MicBut x :=
  ⟨h.sound, fun b _ => h.offer b, h.quiet⟩

namespace State.MicBut

variable {x : Option Nat} {s t : State} {b d c : Nat}

theorem micLaw (h : s.MicBut x) (hx : ∀ b, x = some b → s.offerOk b) : s.MicLaw :=
  s.micLaw_iff.mpr ⟨h.sound, fun b => if hb : x = some b then hx b hb else h.offer b hb, h.quiet⟩

/-- An act that leaves the microphones' records and both copies alone. -/
theorem of_sound (h : s.MicBut x) (hs : t.MicSound none) (hq : t.framer.state ≠ .onAir → s.framer.state ≠ .onAir)
    (hd : t.bdc = s.bdc) : t.MicBut x where
  sound := hs
  offer b hb e y he := by
    rw [State.booth_congr hd] at he ⊢
    exact h.offer b hb e y he
  quiet hn := by
    obtain ⟨hb, hc⟩ := h.quiet (hq hn)
    exact ⟨fun b => by rw [State.booth_congr hd]; exact hb b, fun c => by rw [State.chan_congr hd]; exact hc c⟩

theorem congr (h : s.MicBut x) (hs : t.straps = s.straps) (hb : t.banks = s.banks)
    (hf : t.framer.state = s.framer.state) (hd : t.bdc = s.bdc) (hm : t.mixer.carriage = s.mixer.carriage)
    (hr : t.relay.producers = s.relay.producers) : t.MicBut x :=
  h.of_sound (h.sound.congr_blocks hs hb hd hm hr) (fun hn => hf ▸ hn) hd

/-- An act that changes banks, or the framer, too. -/
theorem of_banks (h : s.MicBut x) (he : ∀ k b, (t.boothEntry (t.bank k) b).inRange)
    (hq : t.framer.state ≠ .onAir → s.framer.state ≠ .onAir) (hd : t.bdc = s.bdc)
    (hm : t.mixer.carriage = s.mixer.carriage) (hr : t.relay.producers = s.relay.producers) : t.MicBut x :=
  h.of_sound (h.sound.congr he (State.booth_congr hd) (State.chan_congr hd)
    (fun c => by simp only [State.carriage, hm]) fun c => by simp only [State.producer, hr]) hq hd

/-- A booth without a live desk has no offer. -/
theorem offer_none (h : s.MicBut x) (hb : x ≠ some b) (hl : (s.booth b).live = none) : (s.booth b).offer = none := by
  cases ho : (s.booth b).offer with
  | none => rfl
  | some o =>
    obtain ⟨d, c, hlive, -⟩ := h.offer b hb o.1 o.2 ho
    rw [hl] at hlive
    cases hlive

/-! ## The acts of the live microphones -/

theorem recordOffer {o : Output} (h : s.MicBut x) (hs : s.framer.state = .onAir) (hb : b ∈ Config.boothNumbers)
    (hd : d ∈ [1, 2, 3]) (hl : (s.booth b).live.isSome = true) (hne : (s.booth b).liveDesk d = false) :
    (s.recordOffer b d o).MicBut x where
  sound := h.sound.setOffer (fun _ => hb) (by rintro e y ⟨⟩; exact hd) rfl
  offer b' hb' e y he := by
    rw [State.recordOffer_booth] at he ⊢
    split at he
    · cases he
      rw [if_pos ‹_›]
      obtain ⟨⟨d', c⟩, hl'⟩ := Option.isSome_iff_exists.mp hl
      exact ⟨d', c, hl', by simpa [BoothRun.liveDesk, hl'] using hne⟩
    · rw [if_neg ‹_›]
      exact h.offer b' hb' e y he
  quiet hn := absurd hs hn

theorem dropOffer (h : s.MicBut x) : (s.dropOffer b).MicBut x where
  sound := h.sound.setOffer nofun nofun rfl
  offer b' hb' e y he := by
    rw [State.dropOffer_booth] at he ⊢
    split at he
    · cases he
    · rw [if_neg ‹_›]
      exact h.offer b' hb' e y he
  quiet hn := by
    obtain ⟨hb, hc⟩ := h.quiet hn
    refine ⟨fun b' => ?_, hc⟩
    rw [State.dropOffer_booth]
    split
    · rw [hb]
    · exact hb b'

theorem joinQueue {o : Output} (h : s.MicBut x) (hs : s.framer.state = .onAir) (hb : b ∈ Config.boothNumbers)
    (hd : d ∈ [1, 2, 3]) (hc : s.planChannel b o = some c) (hl : (s.booth b).live = none)
    (hp : (s.booth b).pending = none) (hroom : (s.chan c).queue.length < Config.queueSize) :
    (s.joinQueue b d c o).MicBut x where
  sound := h.sound.joinQueue hb hd (h.sound.planChannel_mem hc) hl hp hroom
  offer b' hb' e y := by
    rw [State.joinQueue_booth]
    split
    · next he => exact h.offer b (he ▸ hb') e y
    · exact h.offer b' hb' e y
  quiet hn := absurd hs hn

theorem withdraw (h : s.MicBut x) : (s.withdraw b).MicBut x where
  sound := h.sound.withdraw b
  offer b' hb' e y := by
    rw [State.withdraw_booth]
    split
    · next he => exact h.offer b (he ▸ hb') e y
    · exact h.offer b' hb' e y
  quiet hn := by
    obtain ⟨hb, hc⟩ := h.quiet hn
    constructor
    · intro b'
      rw [State.withdraw_booth]
      split
      · rw [hb]
      · exact hb b'
    · intro c
      rw [State.withdraw_chan]
      split
      · rw [hc]; rfl
      · exact hc c

/-- The offers after a grant to a booth that has none. -/
theorem grant_offer {u : State} (h : s.MicBut x) (hu : ∀ b', u.booth b' = s.booth b') (hl : (s.booth b).live = none)
    (b' : Nat) (hb' : x ≠ some b') : (u.grant b d c).offerOk b' := by
  intro e y
  rw [State.grant_booth]
  split
  · next he =>
    dsimp only
    rw [hu, h.offer_none (he ▸ hb') hl]
    nofun
  · rw [hu]
    exact h.offer b' hb' e y

theorem grant {o : Output} (h : s.MicBut x) (hs : s.framer.state = .onAir) (hb : b ∈ Config.boothNumbers)
    (hd : d ∈ [1, 2, 3]) (hc : s.planChannel b o = some c) (hl : (s.booth b).live = none)
    (hfree : (s.chan c).holder = none) : (s.grant b d c).MicBut x where
  sound := (h.sound.skipping _).grant hb hd (h.sound.planChannel_mem hc) hl hfree
  offer := h.grant_offer (fun _ => rfl) hl
  quiet hn := absurd hs (by simpa using hn)

theorem passQueue (h : s.MicBut x) (hs : s.framer.state = .onAir) (hfree : (s.chan c).holder = none) :
    (s.passQueue c).MicBut x where
  sound := h.sound.passQueue hfree
  offer := by
    rcases s.passQueue_cases c with ⟨-, heq⟩ | ⟨e, rest, hq, heq⟩ <;> rw [heq]
    · exact h.offer
    · exact h.grant_offer (fun _ => rfl) (h.sound.live_none_of_waits (c := c) (by rw [hq]; exact List.mem_cons_self))
  quiet hn := absurd hs (by simpa using hn)

theorem release {r : Reason} (h : s.MicBut x) (hl : (s.booth b).live = some (d, c))
    (ho : (s.booth b).offer = none ∨ x = some b) : (s.release b c r).MicBut x where
  sound := h.sound.release hl r
  offer b' hb' e y := by
    rw [State.release_booth]
    split
    · next he =>
      subst he
      rcases ho with ho | ho
      · dsimp only
        rw [ho]
        nofun
      · exact absurd ho hb'
    · exact h.offer b' hb' e y
  quiet hn := by
    rw [(h.quiet (by simpa using hn)).1] at hl
    cases hl

theorem handover {e : Nat} {y : Output} (h : s.MicBut x) (hl : (s.booth b).live = some (d, c))
    (ho : (s.booth b).offer = some (e, y)) : (s.handover b d e c).MicBut x where
  sound := h.sound.handover hl ho
  offer b' hb' e' y' := by
    rw [State.handover_booth]
    split
    · nofun
    · exact h.offer b' hb' e' y'
  quiet hn := by
    rw [(h.quiet (by simpa using hn)).1] at hl
    cases hl

theorem clearWaits (h : s.MicBut x) : s.clearWaits.MicBut x where
  sound := h.sound.clearWaits
  offer b _ := by
    rw [State.offerOk, h.sound.clearWaits_booth]
    nofun
  quiet hn := by
    obtain ⟨hb, hc⟩ := h.quiet hn
    exact ⟨fun b => by rw [h.sound.clearWaits_booth, hb], fun c => by rw [h.sound.clearWaits_chan, hc]⟩

theorem tickTimers (h : s.MicBut x) : s.tickTimers.MicBut x where
  sound := h.sound.tickTimers
  offer b hb e y := by
    rw [h.sound.tickTimers_booth]
    exact h.offer b hb e y
  quiet hn := by
    obtain ⟨hb, hc⟩ := h.quiet hn
    exact ⟨fun b => by rw [h.sound.tickTimers_booth, hb]; rfl, hc⟩

/-! ## A plan taken and a plan stopped -/

theorem planTaken (h : s.MicSound none) (hs : s.framer.state = .onAir) : s.planTaken.MicBut x where
  sound := h.planTaken
  offer b _ e y he := by
    rw [State.booth_congr (MicSound.planTaken_bdc s), MicSound.carryOver_offer] at he
    cases he
  quiet hn := absurd hs (by simpa using hn)

theorem boundary (h : s.MicBut x) (hs : s.framer.state = .onAir) : s.boundary.MicBut x := by
  rcases s.boundary_cases with ⟨k, -, -, hb⟩ | ⟨-, hb⟩ <;> rw [hb]
  · have hx : (s.endFrame.endOverride.exchangeBanks k).MicSound none :=
      h.sound.congr (h.sound.entries_of_booths (by simp) fun j => by
        rw [State.exchangeBanks_booths]
        rfl) (State.booth_congr (by simp)) (State.chan_congr (by simp)) (State.carriage_congr (by simp))
        (State.producer_congr (by simp))
    have hf : ((s.endFrame.endOverride.exchangeBanks k).setFramer s.endFrame.endOverride.framer.switched).MicSound
        none := hx.congr_blocks rfl rfl rfl rfl rfl
    have hr := (hf.beginFrame true false true).congr_blocks
      (t := (((s.endFrame.endOverride.exchangeBanks k).setFramer s.endFrame.endOverride.framer.switched).beginFrame
        true false true).raise .switchDone 1) rfl rfl rfl rfl rfl
    exact planTaken hr hs
  · have hc : (s.endFrame.endOverride.setFramer s.endFrame.endOverride.framer.continued).MicSound none :=
      h.sound.congr_blocks rfl rfl rfl rfl rfl
    exact h.of_sound (hc.beginFrame _ _ _) (fun hn => absurd hs hn) (by simp)

theorem endSettle (h : s.MicBut x) : s.endSettle.MicBut x := by
  have hc : (s.setFramer s.framer.started).MicSound none := h.sound.congr_blocks rfl rfl rfl rfl rfl
  have hr := (hc.beginFrame true false true).congr_blocks
    (t := ((s.setFramer s.framer.started).beginFrame true false true).raise .startDone 1) rfl rfl rfl rfl rfl
  exact planTaken hr rfl

theorem announce (h : s.MicBut x) (hs : s.framer.state = .onAir) : s.announce.MicBut x := by
  have hc : (s.cutFrame.setFramer s.cutFrame.framer.overridden).MicSound none :=
    h.sound.congr_blocks rfl rfl rfl rfl rfl
  have ha := (hc.beginFrame false true true).congr_blocks (t := s.announce) rfl rfl rfl rfl rfl
  exact h.of_sound ha (fun hn => absurd hs hn) (by simp)

theorem stop (h : s.MicBut x) : s.stop.MicBut x := by
  have hu : s.retireBanks.stopFramer.relayStandby.MicSound none :=
    h.sound.congr (h.sound.entries_of_booths (by simp) fun k => by
      rw [← s.retireBanks_booths k,
        State.bank_congr (t := s.retireBanks.stopFramer.relayStandby) (s := s.retireBanks) (by simp)])
      (State.booth_congr (by simp)) (State.chan_congr (by simp)) (fun c => by simp [State.carriage, State.relayStandby])
      fun c => by simp [State.producer, State.relayStandby]
  have hl := hu.liveReset
  have hb := hu.liveReset_booth
  have hc := hu.liveReset_chan
  unfold State.stop
  generalize s.retireBanks.stopFramer.relayStandby.liveReset = u at hb hc hl ⊢
  have hb' (b : Nat) : u.mixStandby.booth b = {} := hb b
  exact ⟨hl.mixStandby hc, fun b _ e y he => (by rw [hb'] at he; cases he), fun _ => ⟨hb, hc⟩⟩

end State.MicBut

/-! ## Every act -/

theorem Act.micBut {x : Option Nat} {L : Prop} {s t : State} (hL : L) (a : Act x L s t) (h : s.MicBut x) :
    t.MicBut x := by
  cases a with
  | @edit k p number editable status alloc entries =>
    refine h.of_banks (fun j b => ?_) (fun hn => hn) rfl rfl rfl
    rw [State.boothEntry_congr (t := s.setBank k p) (s := s) rfl, State.bank_setBank]
    split
    · exact entries (fun j b => h.sound.entries j b) b
    · exact h.sound.entries j b
  | check => exact h.of_banks (h.sound.entries_of_booths rfl (State.setBank_booths (by rfl))) (fun hn => hn) rfl rfl rfl
  | start number standby =>
    exact h.of_banks (h.sound.entries_of_booths rfl fun j => s.commitBank_booths _ .onAir j)
      (fun _ => by simp [standby]) rfl rfl rfl
  | abandonStart starting =>
    refine h.of_banks (h.sound.entries_of_booths (by simp) fun k => ?_) (fun _ => by simp [starting]) (by simp)
      (by simp) (by simp)
    rw [← s.retireBanks_booths k, State.bank_congr (t := s.abandonStart) (s := s.retireBanks) rfl]
  | stop => exact h.stop
  | closeFinal | announceEnd | lineMode | settle => exact h.congr rfl rfl rfl rfl rfl rfl
  | endSettle => exact h.endSettle
  | acceptSwitch =>
    exact h.of_banks (h.sound.entries_of_booths rfl fun j => s.commitBank_booths _ .pending j) (fun hn => hn) rfl rfl
      rfl
  | boundary onAir => exact h.boundary onAir
  | announce onAir => exact h.announce onAir
  | handoverSet => exact h.congr rfl rfl rfl rfl rfl rfl
  | desk =>
    exact ⟨h.sound.congr h.sound.entries (fun _ => rfl) (fun _ => rfl) (fun _ => rfl) fun _ => rfl, h.offer, h.quiet⟩
  | recordOffer onAir booth desk live other => exact h.recordOffer onAir booth desk live other
  | dropOffer => exact h.dropOffer
  | joinQueue onAir booth desk channel live pending room =>
    exact h.joinQueue onAir booth (desk hL) channel (live hL) (pending hL) room
  | withdraw => exact h.withdraw
  | grant onAir booth desk channel live free => exact h.grant onAir booth (desk hL) channel (live hL) free
  | passQueue onAir free => exact h.passQueue onAir free
  | release live offer => exact h.release live offer
  | handover live offer => exact h.handover live offer
  | clearWaits => exact h.clearWaits
  | @interpreter b d who =>
    have hd : (s.setDesk b d { s.desk b d with interpreter := who }).MicBut x :=
      ⟨h.sound.congr h.sound.entries (fun _ => rfl) (fun _ => rfl) (fun _ => rfl) fun _ => rfl, h.offer, h.quiet⟩
    rcases s.setInterpreter_cases b d who with ⟨-, hs⟩ | ⟨-, ⟨-, hs⟩ | ⟨c, -, hs⟩⟩ <;> rw [hs]
    · exact h
    · exact hd
    · exact hd.congr (by simp) (by simp) (by simp) (by simp) (by simp) (by simp)
  | setSource | holdExpired =>
    exact h.congr (by simp) (by simp) (by simp) (by simp)
      (by simp [State.setSource, State.holdExpired, State.setRelayRec])
      (by simp [State.setSource, State.holdExpired, State.setRelayRec])
  | floorLanguage =>
    refine h.congr (by simp) (by simp) (by simp) (by simp) ?_ ?_
    · unfold State.floorLanguage
      split <;> simp [State.endAllHolds, State.endHolds]
    · unfold State.floorLanguage
      split <;> simp [State.endAllHolds, State.endHolds]
  | tickTimers => exact h.tickTimers
  | issue =>
    exact h.congr (by simp [State.issue, State.setTally]) (by simp [State.issue, State.setTally])
      (by simp [State.issue, State.setTally]) (by simp [State.issue, State.setTally])
      (by simp [State.issue, State.setTally]) (by simp [State.issue, State.setTally])
  | relaySet | window | freeSlot | changePreset => exact h.congr rfl rfl rfl rfl rfl rfl
  | _ => exact h.congr (by simp) (by simp) (by simp) (by simp) (by simp) (by simp)

/-! ## Every step -/

theorem State.MicLaw.alike {s t : State} (h : s.MicLaw) (ha : s.alike t) : t.MicLaw := by
  have hb : t.MicBut none := by
    obtain ⟨_, _, _, _, _, _, rfl⟩ := ha
    exact (h.but none).congr rfl rfl rfl rfl rfl rfl
  exact hb.micLaw nofun

/-- The law where nothing is live and nothing waits. -/
theorem State.micLaw_of_empty {s : State} (he : ∀ k b, (s.boothEntry (s.bank k) b).inRange) (hb : ∀ b, s.booth b = {})
    (hc : ∀ c, s.chan c = {}) (hm : ∀ c, s.carriage c = {}) (hp : ∀ c, s.producer c = none) : s.MicLaw where
  entries := he
  booths b h := absurd (hb b) h
  channels c h := absurd (hc c) h
  live b d c h := by rw [hb] at h; cases h
  offering b d x h := by rw [hb] at h; cases h
  waiting b d x h := by rw [hb] at h; cases h
  named b d c := by rw [hb, hc]; exact ⟨nofun, nofun⟩
  offer b e y h := by rw [hb] at h; cases h
  pending b h := by rw [hb] at h; cases h
  timer b := by rw [hb]; rfl
  waits c w h := by rw [hc] at h; cases h
  queued b d x h := by rw [hb] at h; cases h
  size c := by rw [hc]; exact Nat.zero_le _
  once c := by rw [hc]; exact List.nodup_nil
  quiet _ := ⟨hb, hc⟩
  carriage c := by rw [hm, hc]
  ramp c r h := by rw [hm] at h; cases h
  producer c := by rw [hp, hc]; rfl

theorem State.micLaw_powered (s : State) (h d : Bool) : (s.powered h d).MicLaw := by
  refine State.micLaw_of_empty (fun k b x c hx => ?_) (fun _ => rfl) (fun _ => rfl) (fun _ => rfl) fun _ => rfl
  cases x <;> cases hx

theorem State.MicLaw.pinReset {s : State} (h : s.MicLaw) : s.pinReset.MicLaw :=
  State.micLaw_of_empty (h.sound.entries_of_booths rfl fun k => s.retireBanks_booths k) (fun _ => rfl) (fun _ => rfl)
    (fun _ => rfl) fun _ => rfl

/-- A command keeps the microphones' law: its acts do, and they leave the moved booth's offer as R60 has it. -/
theorem exec_keeps_micLaw (c : Instr) (s t : State) (hx : exec c s = .next t) (h : s.MicLaw) : t.MicLaw := by
  rcases exec_acts hx with ⟨hi, de, -, rfl⟩ | ⟨-, rfl⟩ | ⟨-, rfl⟩ | ⟨x, u, hu, hok, ha⟩
  · exact s.micLaw_powered hi de
  · exact h.pinReset
  · exact ((h.but none).congr (t := s.setHeld false) rfl rfl rfl rfl rfl rfl).micLaw nofun
  · have hb : u.MicBut x := Acts.keeps (fun s t a hs => a.micBut h hs) hu (h.but x)
    exact (hb.micLaw fun b he => hok b he h).alike ha

/-- Settles O55, by the acts. -/
theorem micLawKept : Obligations.MicLawKept := fun _ _ hs h =>
  step_keeps (fun _ _ ha hl => hl.alike ha) exec_keeps_micLaw hs h

end Sys2Proof.Machine
end

section
/-! The relay resolver: what a resolution gives each booth, case by case (R90 to R94); O56: the relay records' law is kept. -/

namespace Sys2Proof.Machine

/-! ## What a resolution gives a booth -/

section Resolved

variable {s : State} {b : Nat}

@[simp] theorem RelayRec.placed_mode (r : RelayRec) (x : Source) (n : Nat) (t : RelayStatus) :
    (r.placed x n t).mode = r.mode := rfl

theorem State.resolves_iff (s : State) (b : Nat) :
    s.resolves b = true ↔ (∃ e, s.planBooth b = some e) ∧ (s.relayRec b).status ≠ .holding := by
  simp [State.resolves, Option.isSome_iff_exists]

theorem State.holds_iff (s : State) (b : Nat) :
    s.holds b = true ↔ (∃ e, s.planBooth b = some e) ∧ (s.relayRec b).status = .holding := by
  simp [State.holds, Option.isSome_iff_exists]

theorem State.layeredRec_absent (h : s.planBooth b = none) : s.layeredRec b = (s.relayRec b).placed .floor 0 .ok := by
  simp [State.layeredRec, h]

theorem State.layeredRec_held {e : BoothEntry} (h : s.planBooth b = some e) (hs : (s.relayRec b).status = .holding) :
    s.layeredRec b = s.relayRec b := by
  simp [State.layeredRec, h, State.holds, hs]

theorem State.layeredRec_placed {e : BoothEntry} (h : s.planBooth b = some e) (hs : (s.relayRec b).status ≠ .holding) :
    s.layeredRec b =
      if s.layer0 b then (s.relayRec b).placed .floor 0 .ok
      else match s.layer1 b, s.layer2 b with
        | some c, _ => (s.relayRec b).placed (.channel c) 1 .ok
        | none, some c => (s.relayRec b).placed (.channel c) 2 .ok
        | none, none => (s.relayRec b).placed .floor 0 .noRelay := by
  simp only [State.layeredRec, h, Option.isNone_some, Bool.false_eq_true, if_false, State.holds, hs, decide_false,
    Bool.and_false] <;> rfl

theorem State.resolvedRec_absent (h : s.planBooth b = none) : s.resolvedRec b = (s.relayRec b).placed .floor 0 .ok := by
  have hr : s.resolves b = false := by simp [State.resolves, h]
  unfold State.resolvedRec
  split
  · rw [if_neg (by simp [hr]), State.layeredRec_absent h]
  · exact State.layeredRec_absent h

theorem State.resolvedRec_held {e : BoothEntry} (h : s.planBooth b = some e) (hs : (s.relayRec b).status = .holding) :
    s.resolvedRec b = s.relayRec b := by
  have hr : s.resolves b = false := by simp [State.resolves, hs]
  unfold State.resolvedRec
  split
  · rw [if_neg (by simp [hr]), State.layeredRec_held h hs]
  · exact State.layeredRec_held h hs

theorem State.resolvedRec_fixed {e : BoothEntry} {c : Nat} (h : s.planBooth b = some e)
    (hs : (s.relayRec b).status ≠ .holding) (hm : (s.relayRec b).mode = .fixed c) :
    s.resolvedRec b = s.fixedRec b c := by
  have hr : s.resolves b = true := (s.resolves_iff b).mpr ⟨⟨e, h⟩, hs⟩
  unfold State.resolvedRec
  rw [hm]
  simp [hr]

theorem State.resolvedRec_layered (hm : ∀ c, (s.relayRec b).mode ≠ .fixed c) : s.resolvedRec b = s.layeredRec b := by
  unfold State.resolvedRec
  split
  · next c hc => exact absurd hc (hm c)
  · rfl

/-- Where a booth stands that a resolution does not leave in HOLDING: not in HOLDING, without a timer, on the floor at
depth 0 or on a channel at a depth from 1 to 3. -/
structure RelayRec.Stands (r : RelayRec) (m : SourceMode) : Prop where
  mode : r.mode = m
  status : r.status ≠ .holding
  timer : r.timer = none
  lost : r.status = .noRelay → r.source = .floor
  floor : r.source = .floor ↔ r.depth = 0
  depth : r.depth ≤ 3
  layered : (∀ c, m ≠ .fixed c) → r.depth ≤ 2

theorem RelayRec.stands_floor (r : RelayRec) {t : RelayStatus} (h : t ≠ .holding) :
    (r.placed .floor 0 t).Stands r.mode :=
  ⟨rfl, h, rfl, fun _ => rfl, by simp [RelayRec.placed], Nat.zero_le 3, fun _ => Nat.zero_le 2⟩

theorem RelayRec.stands_channel (r : RelayRec) {c n : Nat} {t : RelayStatus} (ht : t ≠ .holding) (hl : t ≠ .noRelay)
    (hn : 1 ≤ n) (hn' : n ≤ 3) (hf : (∀ c, r.mode ≠ .fixed c) → n ≤ 2) :
    (r.placed (.channel c) n t).Stands r.mode :=
  ⟨rfl, ht, rfl, fun h => absurd h hl, by simp [RelayRec.placed]; omega, hn', hf⟩

theorem State.layeredRec_stands (h : s.planBooth b = none ∨ (s.relayRec b).status ≠ .holding) :
    (s.layeredRec b).Stands (s.relayRec b).mode := by
  cases he : s.planBooth b with
  | none =>
    rw [State.layeredRec_absent he]
    exact RelayRec.stands_floor _ (by simp)
  | some e =>
    rw [State.layeredRec_placed he (h.resolve_left (by simp [he]))]
    split
    · exact RelayRec.stands_floor _ (by simp)
    · split
      · exact RelayRec.stands_channel _ (by simp) (by simp) le_rfl (by omega) fun _ => by omega
      · exact RelayRec.stands_channel _ (by simp) (by simp) (by omega) (by omega) fun _ => by omega
      · exact RelayRec.stands_floor _ (by simp)

end Resolved

/-! ## The law, as it stands before a resolution -/

/-- The relay records' law but for the depths of booths not in HOLDING, which a resolution places. -/
structure State.RelaySound (s : State) : Prop where
  booths : ∀ b, s.relayRec b ≠ {} → b ∈ Config.boothNumbers
  timer : ∀ b, (s.relayRec b).timer.isSome ↔ (s.relayRec b).status = .holding
  held : ∀ b, (s.relayRec b).status = .holding → (s.relayRec b).mode = .auto ∧ ∃ c, (s.relayRec b).source = .channel c
  lost : ∀ b, (s.relayRec b).status = .noRelay → (s.relayRec b).source = .floor
  floor : ∀ b, (s.relayRec b).source = .floor ↔ (s.relayRec b).depth = 0
  depth : ∀ b, (s.relayRec b).depth ≤ 3
  layered : ∀ b, (s.relayRec b).status = .holding → (s.relayRec b).depth ≤ 2
  feed : ∀ b, s.feedSource b = (s.relayRec b).source

theorem State.RelayLaw.sound {s : State} (h : s.RelayLaw) : s.RelaySound :=
  { h with layered := fun b hs => h.layered b fun c => by rw [(h.held b hs).1]; simp }

namespace State.RelaySound

variable {s t : State}

theorem congr (h : s.RelaySound) (hr : ∀ b, t.relayRec b = s.relayRec b) (hf : ∀ b, t.feedSource b = s.feedSource b) :
    t.RelaySound where
  booths b := by rw [hr]; exact h.booths b
  timer b := by rw [hr]; exact h.timer b
  held b := by rw [hr]; exact h.held b
  lost b := by rw [hr]; exact h.lost b
  floor b := by rw [hr]; exact h.floor b
  depth b := by rw [hr]; exact h.depth b
  layered b := by rw [hr]; exact h.layered b
  feed b := by rw [hr, hf]; exact h.feed b

/-- A change of records that keeps source and depth, and the law of each record. -/
theorem change (h : s.RelaySound) (hf : ∀ b, t.feedSource b = s.feedSource b)
    (hs : ∀ b, (t.relayRec b).source = (s.relayRec b).source) (hd : ∀ b, (t.relayRec b).depth = (s.relayRec b).depth)
    (hb : ∀ b, t.relayRec b ≠ {} → b ∈ Config.boothNumbers)
    (ht : ∀ b, (t.relayRec b).timer.isSome ↔ (t.relayRec b).status = .holding)
    (hh : ∀ b, (t.relayRec b).status = .holding → (t.relayRec b).mode = .auto ∧
      (∃ c, (s.relayRec b).source = .channel c) ∧ (s.relayRec b).depth ≤ 2)
    (hl : ∀ b, (t.relayRec b).status = .noRelay → (s.relayRec b).status = .noRelay) : t.RelaySound where
  booths := hb
  timer := ht
  held b hx := by
    rw [hs]
    exact ⟨(hh b hx).1, (hh b hx).2.1⟩
  lost b hx := by
    rw [hs]
    exact h.lost b (hl b hx)
  floor b := by rw [hs, hd]; exact h.floor b
  depth b := by rw [hd]; exact h.depth b
  layered b hx := by rw [hd]; exact (hh b hx).2.2
  feed b := by rw [hf, hs]; exact h.feed b

theorem rec_of_not_mem (h : s.RelaySound) {b : Nat} (hb : b ∉ Config.boothNumbers) : s.relayRec b = {} := by
  by_contra hne
  exact hb (h.booths b hne)

/-! ## Holds and producers -/

theorem unhold_eq (r : RelayRec) : r.unhold.source = r.source ∧ r.unhold.depth = r.depth ∧ r.unhold.mode = r.mode ∧
    r.unhold.status ≠ .holding ∧ (r.unhold.status = .noRelay → r.status = .noRelay) := by
  unfold RelayRec.unhold
  split
  · simp
  · next h => simp [h]

theorem unhold_timer {r : RelayRec} (h : r.timer.isSome = true ↔ r.status = .holding) : r.unhold.timer = none := by
  unfold RelayRec.unhold
  split
  · rfl
  · next hn =>
    rw [← h] at hn
    simpa using hn

theorem endHolds_relayRec (h : s.RelaySound) (which : Nat → Bool) (b : Nat) :
    (s.endHolds which).relayRec b = if which b then (s.relayRec b).unhold else s.relayRec b := by
  have : (s.endHolds which).relayRec b = if b ∈ Config.boothNumbers then
      (if which b then (s.relayRec b).unhold else s.relayRec b) else s.relayRec b := Table.fetch_fill _ _ _ _ _
  rw [this]
  split
  · rfl
  · next hb =>
    rw [h.rec_of_not_mem hb]
    split <;> rfl

theorem endHolds (h : s.RelaySound) (which : Nat → Bool) : (s.endHolds which).RelaySound := by
  have hr := h.endHolds_relayRec which
  refine h.change (fun _ => rfl) (fun b => ?_) (fun b => ?_) (fun b hne => ?_) (fun b => ?_) (fun b hs => ?_) fun b hl => ?_
  · rw [hr]
    split
    · exact (unhold_eq _).1
    · rfl
  · rw [hr]
    split
    · exact (unhold_eq _).2.1
    · rfl
  · rw [hr] at hne
    split at hne
    · exact h.booths b fun he => hne (by rw [he]; rfl)
    · exact h.booths b hne
  · rw [hr]
    split
    · simp [unhold_timer (h.timer b), (unhold_eq (s.relayRec b)).2.2.2.1]
    · exact h.timer b
  · rw [hr] at hs ⊢
    split at hs
    · exact absurd hs (unhold_eq _).2.2.2.1
    · rw [if_neg ‹_›]
      exact ⟨(h.held b hs).1, (h.held b hs).2, h.layered b hs⟩
  · rw [hr] at hl
    split at hl
    · exact (unhold_eq _).2.2.2.2 hl
    · exact hl

theorem beginHolds_relayRec (h : s.RelaySound) (c b : Nat) :
    (s.beginHolds c).relayRec b = (s.relayRec b).holdOn c s.relay.hold := by
  have : (s.beginHolds c).relayRec b = if b ∈ Config.boothNumbers then (s.relayRec b).holdOn c s.relay.hold
      else s.relayRec b := Table.fetch_fill _ _ _ _ _
  rw [this]
  split
  · rfl
  · next hb =>
    rw [h.rec_of_not_mem hb]
    unfold RelayRec.holdOn
    simp

/-- The law before holds begin: the depths of AUTO booths are at most 2. -/
theorem beginHolds (h : s.RelaySound) (hl : ∀ b, (s.relayRec b).mode = .auto → (s.relayRec b).depth ≤ 2) (c : Nat) :
    (s.beginHolds c).RelaySound := by
  have hr := h.beginHolds_relayRec c
  refine h.change (fun _ => rfl) (fun b => ?_) (fun b => ?_) (fun b hne => ?_) (fun b => ?_) (fun b hs => ?_) fun b hl => ?_
  · rw [hr]
    unfold RelayRec.holdOn
    split <;> rfl
  · rw [hr]
    unfold RelayRec.holdOn
    split <;> rfl
  · refine h.booths b fun he => hne ?_
    rw [hr, he]
    unfold RelayRec.holdOn
    simp
  · rw [hr]
    unfold RelayRec.holdOn
    split
    · simp
    · exact h.timer b
  · rw [hr] at hs ⊢
    unfold RelayRec.holdOn at hs ⊢
    split at hs
    · next hc =>
      rw [if_pos hc]
      exact ⟨hc.1, ⟨c, hc.2.2.1⟩, hl b hc.1⟩
    · next hc =>
      rw [if_neg hc]
      exact ⟨(h.held b hs).1, (h.held b hs).2, h.layered b hs⟩
  · rw [hr] at hl
    unfold RelayRec.holdOn at hl
    split at hl
    · cases hl
    · exact hl

theorem setProducer (h : s.RelaySound) (c p : Nat) : (s.setProducer c p).RelaySound := h.congr (fun _ => rfl) fun _ => rfl

theorem clearProducer (h : s.RelaySound) (c : Nat) : (s.clearProducer c).RelaySound := h.congr (fun _ => rfl) fun _ => rfl

/-- A booth's hold ended, and perhaps its mode set. -/
theorem unholdOne (h : s.RelaySound) {b : Nat} {m : SourceMode} (hb : b ∈ Config.boothNumbers ∨ m = (s.relayRec b).mode) :
    (s.setRelayRec b { (s.relayRec b).unhold with mode := m }).RelaySound := by
  have hr := fun x => s.relayRec_setRelayRec b x { (s.relayRec b).unhold with mode := m }
  refine h.change (fun _ => rfl) (fun x => ?_) (fun x => ?_) (fun x hne => ?_) (fun x => ?_) (fun x hs => ?_) fun x hl => ?_
  · rw [hr]
    split
    · next he => exact he ▸ (unhold_eq _).1
    · rfl
  · rw [hr]
    split
    · next he => exact he ▸ (unhold_eq _).2.1
    · rfl
  · rw [hr] at hne
    split at hne
    · next he =>
      rw [he]
      rcases hb with hb | hb
      · exact hb
      · refine h.booths b fun hem => hne ?_
        rw [hb, hem]
        rfl
    · exact h.booths x hne
  · rw [hr]
    split
    · simp [unhold_timer (h.timer b), (unhold_eq (s.relayRec b)).2.2.2.1]
    · exact h.timer x
  · rw [hr] at hs ⊢
    split at hs
    · exact absurd hs (unhold_eq _).2.2.2.1
    · rw [if_neg ‹_›]
      exact ⟨(h.held x hs).1, (h.held x hs).2, h.layered x hs⟩
  · rw [hr] at hl
    split at hl
    · next he => exact he ▸ (unhold_eq _).2.2.2.2 hl
    · exact hl

/-! ## Resolutions -/

theorem fixedRec_stands (h : s.RelaySound) (hl : ∀ p, (s.relayRec p).status = .holding → (s.relayRec p).depth ≤ 2)
    (b c : Nat) (hm : (s.relayRec b).mode = .fixed c) : (s.fixedRec b c).Stands (s.relayRec b).mode := by
  have hfix : ¬ ∀ x, (s.relayRec b).mode ≠ .fixed x := fun hx => hx c hm
  unfold State.fixedRec
  split
  · exact RelayRec.stands_floor _ (by simp)
  · split
    · exact RelayRec.stands_channel _ (by simp) (by simp) (by omega) le_rfl fun hx => absurd hx hfix
    · next p _ =>
      have hdepth : (∀ x, (s.relayRec p).mode ≠ .fixed x) → (s.layeredRec p).depth ≤ 2 := by
        intro hx
        by_cases hp : s.planBooth p = none ∨ (s.relayRec p).status ≠ .holding
        · exact (State.layeredRec_stands hp).layered hx
        · rw [not_or, not_not] at hp
          obtain ⟨e, he⟩ := Option.ne_none_iff_exists'.mp hp.1
          rw [State.layeredRec_held he hp.2]
          exact hl p hp.2
      split
      · exact RelayRec.stands_channel _ (by simp) (by simp) (by omega) le_rfl fun hx => absurd hx hfix
      · next hx =>
        exact RelayRec.stands_channel _ (by simp) (by simp) (by omega) (Nat.succ_le_succ (hdepth hx))
          fun hx => absurd hx hfix

/-- What a resolution gives a booth: its record kept where it is in HOLDING and present, else a place. -/
theorem resolvedRec_cases (h : s.RelaySound) (b : Nat) :
    (s.holds b = true ∧ s.resolvedRec b = s.relayRec b) ∨
      (s.holds b = false ∧ (s.resolvedRec b).Stands (s.relayRec b).mode) := by
  cases hp : s.planBooth b with
  | none =>
    refine .inr ⟨by simp [State.holds, hp], ?_⟩
    rw [State.resolvedRec_absent hp]
    exact RelayRec.stands_floor _ (by simp)
  | some e =>
    by_cases hs : (s.relayRec b).status = .holding
    · exact .inl ⟨by simp [State.holds, hp, hs], State.resolvedRec_held hp hs⟩
    · refine .inr ⟨by simp [State.holds, hs], ?_⟩
      by_cases hm : ∃ c, (s.relayRec b).mode = .fixed c
      · obtain ⟨c, hc⟩ := hm
        rw [State.resolvedRec_fixed hp hs hc]
        exact h.fixedRec_stands h.layered b c hc
      · rw [State.resolvedRec_layered (fun c hc => hm ⟨c, hc⟩)]
        exact State.layeredRec_stands (.inr hs)

theorem resolve (h : s.RelaySound) (hs : s.framer.state = .onAir) : s.resolve.RelayLaw := by
  have ha : s.onAir = true := s.onAir_iff.mpr hs
  have hr (b : Nat) : s.resolve.relayRec b = if b ∈ Config.boothNumbers then s.resolvedRec b else s.relayRec b := by
    simp [State.resolve_relayRec, ha]
  -- a record is cleared, kept in HOLDING, or placed
  have hcases (b : Nat) : s.resolve.relayRec b = {} ∨
      ((s.relayRec b).status = .holding ∧ s.resolve.relayRec b = s.relayRec b) ∨
      (s.resolve.relayRec b).Stands (s.relayRec b).mode := by
    by_cases hb : b ∈ Config.boothNumbers
    · rw [hr, if_pos hb]
      rcases h.resolvedRec_cases b with ⟨hh, he⟩ | ⟨-, he⟩
      · exact .inr (.inl ⟨((s.holds_iff b).mp hh).2, he⟩)
      · exact .inr (.inr he)
    · exact .inl (by rw [hr, if_neg hb, h.rec_of_not_mem hb])
  refine ⟨fun b hb => ?_, fun b => ?_, fun b hh => ?_, fun b hl => ?_, fun b => ?_, fun b => ?_, fun b hm => ?_,
    fun hq => absurd (by simpa using hs) hq, fun b => ?_⟩
  · by_contra hn
    rw [hr, if_neg hn] at hb
    exact hn (h.booths b hb)
  · rcases hcases b with he | ⟨hh, he⟩ | he
    · simp [he]
    · rw [he]
      exact h.timer b
    · simp [he.timer, he.status]
  · rcases hcases b with he | ⟨-, he⟩ | he
    · rw [he] at hh
      cases hh
    · rw [he] at hh ⊢
      exact h.held b hh
    · exact absurd hh he.status
  · rcases hcases b with he | ⟨-, he⟩ | he
    · rw [he]
    · rw [he] at hl ⊢
      exact h.lost b hl
    · exact he.lost hl
  · rcases hcases b with he | ⟨-, he⟩ | he
    · rw [he]
      exact ⟨fun _ => rfl, fun _ => rfl⟩
    · rw [he]
      exact h.floor b
    · exact he.floor
  · rcases hcases b with he | ⟨-, he⟩ | he
    · rw [he]
      exact Nat.zero_le 3
    · rw [he]
      exact h.depth b
    · exact he.depth
  · rcases hcases b with he | ⟨hh, he⟩ | he
    · rw [he]
      exact Nat.zero_le 2
    · rw [he]
      exact h.layered b hh
    · exact he.layered fun c => he.mode ▸ hm c
  · rw [State.resolve_feedSource, hr]
    simp only [ha, true_and]
    split
    · unfold State.reportedSource
      split
      · next he => rw [h.feed, he]
      · rfl
    · exact h.feed b

end State.RelaySound

/-! ## The acts -/

namespace State.RelayLaw

variable {s t : State}

theorem congr (h : s.RelayLaw) (hf : t.framer.state = s.framer.state) (hr : t.relay.booths = s.relay.booths)
    (hm : t.mixer.feedSource = s.mixer.feedSource) : t.RelayLaw := by
  have hrec (b : Nat) : t.relayRec b = s.relayRec b := by simp only [State.relayRec, hr]
  have hfeed (b : Nat) : t.feedSource b = s.feedSource b := by simp only [State.feedSource, hm]
  have hs := h.sound.congr hrec hfeed
  exact { hs with
    layered := fun b => by rw [hrec]; exact h.layered b
    quiet := fun hq b => by rw [hrec]; exact h.quiet (hf ▸ hq) b }

theorem auto_depth (h : s.RelayLaw) (b : Nat) (hm : (s.relayRec b).mode = .auto) : (s.relayRec b).depth ≤ 2 :=
  h.layered b fun c => by rw [hm]; simp

theorem productionStart (h : s.RelayLaw) (c p : Nat) : (s.productionStart c p).RelayLaw := by
  unfold State.productionStart
  split
  · next ha => exact ((h.sound.setProducer c p).endHolds _).resolve (s.onAir_iff.mp ha)
  · exact h.congr rfl rfl rfl

theorem productionStop (h : s.RelayLaw) (c : Nat) : (s.productionStop c).RelayLaw := by
  unfold State.productionStop
  split
  · next ha => exact ((h.sound.clearProducer c).beginHolds (fun b => h.auto_depth b) c).resolve (s.onAir_iff.mp ha)
  · exact h.congr rfl rfl rfl

theorem floorLanguage (h : s.RelayLaw) (code : Nat) : (s.floorLanguage code).RelayLaw := by
  have hl : (s.setRelay { s.relay with floorLang := code }).RelayLaw := h.congr rfl rfl rfl
  unfold State.floorLanguage
  split
  · next ha => exact (hl.sound.endHolds _).resolve (s.onAir_iff.mp ha)
  · exact hl

theorem grant (h : s.RelayLaw) (b d c : Nat) : (s.grant b d c).RelayLaw :=
  State.RelayLaw.productionStart (h.congr (by simp) (by simp) (by simp [State.mixGrant, State.setCarriage])) _ _

theorem release (h : s.RelayLaw) (b c : Nat) (r : Reason) : (s.release b c r).RelayLaw :=
  State.RelayLaw.productionStop (h.congr (by simp) (by simp) (by simp [State.mixRelease, State.setCarriage])) _

theorem passQueue (h : s.RelayLaw) (c : Nat) : (s.passQueue c).RelayLaw := by
  rcases s.passQueue_cases c with ⟨-, hs⟩ | ⟨e, rest, -, hs⟩ <;> rw [hs]
  · exact h
  · have hq : (s.setChan c { s.chan c with queue := rest }).RelayLaw := h.congr rfl rfl rfl
    exact hq.grant _ _ _

theorem releaseBooth (h : s.RelayLaw) (b : Nat) : (s.releaseBooth b).RelayLaw := by
  unfold State.releaseBooth
  split
  · exact h.release _ _ _
  · exact h

theorem liveReset (h : s.RelayLaw) : s.liveReset.RelayLaw :=
  List.foldlRecOn _ _ (h.congr (by simp) (by simp) (by simp)) fun _ ht b _ => State.RelayLaw.releaseBooth ht b

end State.RelayLaw

/-- The reports of a carry-over change the producers alone. -/
theorem State.reportCarry_relayBooths (s : State) (x : Carry) :
    (s.reportCarry x).relay.booths = s.relay.booths ∧ (s.reportCarry x).mixer.feedSource = s.mixer.feedSource := by
  have hl (c : Nat) : (s.leaveOld c).relay.booths = s.relay.booths ∧ (s.leaveOld c).mixer.feedSource = s.mixer.feedSource := by
    unfold State.leaveOld
    split
    · exact ⟨rfl, rfl⟩
    · exact ⟨rfl, rfl⟩
  unfold State.reportCarry
  split
  · simpa using hl x.old
  · split
    · exact ⟨rfl, rfl⟩
    · simpa [State.setProducer, State.mixGrant, State.setCarriage] using hl x.old

theorem State.carryOver_relayBooths (s : State) :
    s.carryOver.relay.booths = s.relay.booths ∧ s.carryOver.mixer.feedSource = s.mixer.feedSource := by
  rw [State.carryOver_eq]
  constructor
  · exact (foldl_keeps _ (fun t : State => t.relay.booths) (fun t x => (t.reportCarry_relayBooths x).1) _ _).trans
      (by simp)
  · exact (foldl_keeps _ (fun t : State => t.mixer.feedSource) (fun t x => (t.reportCarry_relayBooths x).2) _ _).trans
      (by simp)

namespace State.RelayLaw

variable {s : State}

theorem planTaken (h : s.RelaySound) (hs : s.framer.state = .onAir) : s.planTaken.RelayLaw := by
  have hd : s.dropRamps.endAllHolds.RelaySound :=
    (h.congr (t := s.dropRamps) (fun _ => rfl) fun _ => rfl).endHolds _
  obtain ⟨hr, hm⟩ := s.dropRamps.endAllHolds.carryOver_relayBooths
  have hc : s.dropRamps.endAllHolds.carryOver.RelaySound :=
    hd.congr (fun b => by simp only [State.relayRec, hr]) fun b => by simp only [State.feedSource, hm]
  exact (hc.resolve (by simpa using hs)).congr (by simp [State.planTaken]) (by simp [State.planTaken])
    (by simp [State.planTaken])

/-- A frame begun changes neither relay records nor feed sources. -/
theorem beginFrame (h : s.RelaySound) (tr o m : Bool) : (s.beginFrame tr o m).RelaySound :=
  h.congr (fun _ => rfl) fun _ => rfl

theorem boundary (h : s.RelayLaw) (hs : s.framer.state = .onAir) : s.boundary.RelayLaw := by
  rcases s.boundary_cases with ⟨k, -, -, hb⟩ | ⟨-, hb⟩ <;> rw [hb]
  · refine planTaken (h.sound.congr (fun b => ?_) fun b => ?_) hs
    · exact State.relayRec_congr (by simp) b
    · simp [State.feedSource, State.beginFrame, State.fixFeeds, State.advanceRamps]
  · exact h.congr rfl rfl rfl

theorem endSettle (h : s.RelayLaw) : s.endSettle.RelayLaw :=
  planTaken (h.sound.congr (fun _ => rfl) fun _ => rfl) rfl

theorem tickTimers (h : s.RelayLaw) : s.tickTimers.RelayLaw := by
  have hr (b : Nat) : s.tickTimers.relayRec b = { s.relayRec b with timer := tickDown (s.relayRec b).timer } := by
    have : s.tickTimers.relayRec b = if b ∈ Config.boothNumbers then
        { s.relayRec b with timer := tickDown (s.relayRec b).timer } else s.relayRec b := Table.fetch_fill _ _ _ _ _
    rw [this]
    split
    · rfl
    · next hb =>
      rw [h.sound.rec_of_not_mem hb]
      rfl
  refine ⟨fun b hb => h.booths b fun he => hb (by rw [hr, he]; rfl), fun b => ?_, fun b => ?_, fun b => ?_, fun b => ?_,
    fun b => ?_, fun b => ?_, fun hq b => ?_, fun b => ?_⟩
  · rw [hr, ← h.timer b]
    simp [tickDown]
  · rw [hr]; exact h.held b
  · rw [hr]; exact h.lost b
  · rw [hr]; exact h.floor b
  · rw [hr]; exact h.depth b
  · rw [hr]; exact h.layered b
  · rw [hr, h.quiet hq b]
    rfl
  · rw [hr]; exact h.feed b

theorem relayStandby_relayRec (s : State) (b : Nat) : s.relayStandby.relayRec b =
    if b ∈ Config.boothNumbers then (s.relayRec b).standby else s.relayRec b := Table.fetch_fill _ _ _ _ _

/-- The law with every booth on the floor. -/
theorem of_standby {t : State} (hb : ∀ b, t.relayRec b ≠ {} → b ∈ Config.boothNumbers)
    (hr : ∀ b, t.relayRec b = (t.relayRec b).standby) (hf : ∀ b, t.feedSource b = .floor) : t.RelayLaw := by
  have hs (b : Nat) : (t.relayRec b).source = .floor ∧ (t.relayRec b).depth = 0 ∧ (t.relayRec b).status = .ok ∧
      (t.relayRec b).timer = none := by
    rw [hr]
    exact ⟨rfl, rfl, rfl, rfl⟩
  refine ⟨hb, fun b => ?_, fun b hh => ?_, fun b _ => (hs b).1, fun b => ?_, fun b => ?_, fun b _ => ?_, fun _ => hr,
    fun b => ?_⟩
  · simp [hs b]
  · rw [(hs b).2.2.1] at hh
    cases hh
  · simp [hs b]
  · simp [hs b]
  · simp [hs b]
  · rw [hf, (hs b).1]

theorem stop (h : s.RelayLaw) : s.stop.RelayLaw := by
  have hu : s.retireBanks.stopFramer.relayStandby.RelayLaw := by
    have hr (b : Nat) : s.retireBanks.stopFramer.relayStandby.relayRec b = (s.relayRec b).standby := by
      rw [relayStandby_relayRec, State.relayRec_congr (t := s.retireBanks.stopFramer) (s := s) (by simp)]
      split
      · rfl
      · next hb =>
        rw [h.sound.rec_of_not_mem hb]
        rfl
    refine of_standby (fun b hb => h.booths b fun he => hb (by rw [hr, he]; rfl)) (fun b => ?_) fun b => rfl
    rw [hr]
    rfl
  have hl := hu.liveReset
  unfold State.stop
  generalize s.retireBanks.stopFramer.relayStandby.liveReset = u at hl ⊢
  exact hl.congr rfl rfl rfl

end State.RelayLaw

theorem Act.relayLaw {x : Option Nat} {L : Prop} {s t : State} (a : Act x L s t) (h : s.RelayLaw) : t.RelayLaw := by
  cases a with
  | stop => exact h.stop
  | endSettle => exact h.endSettle
  | boundary onAir => exact h.boundary onAir
  | grant => exact h.grant _ _ _
  | passQueue => exact h.passQueue _
  | release => exact h.release _ _ _
  | setSource onAir booth => exact (h.sound.unholdOne (.inl booth)).resolve onAir
  | @holdExpired b due =>
    have hs : s.framer.state = .onAir := by
      by_contra hne
      rw [h.quiet hne b] at due
      cases due
    have hu := h.sound.unholdOne (b := b) (m := (s.relayRec b).mode) (.inr rfl)
    rw [← (State.RelaySound.unhold_eq (s.relayRec b)).2.2.1] at hu
    exact hu.resolve hs
  | floorLanguage => exact h.floorLanguage _
  | tickTimers => exact h.tickTimers
  | start number standby =>
    exact { h with quiet := fun _ b => h.quiet (by simp [standby]) b }
  | abandonStart starting =>
    have hq (b : Nat) := h.quiet (by simp [starting]) b
    have hu : (s.retireBanks.setFramer { s.framer with state := .standby, settle := 0 }).RelayLaw :=
      { h with quiet := fun _ b => hq b }
    exact hu.congr rfl rfl rfl
  | @interpreter b d who =>
    rcases s.setInterpreter_cases b d who with ⟨-, hs⟩ | ⟨-, ⟨-, hs⟩ | ⟨c, -, hs⟩⟩ <;> rw [hs]
    · exact h
    · exact h.congr rfl rfl rfl
    · exact h.congr (by simp) (by simp) (by simp)
  | issue =>
    exact h.congr (by simp [State.issue, State.setTally]) (by simp [State.issue, State.setTally])
      (by simp [State.issue, State.setTally])
  | closeFinal | settle | acceptSwitch | announce | announceEnd | lineMode | relaySet | window | freeSlot | changePreset =>
    exact h.congr rfl rfl rfl
  | handover => exact h.congr (by simp) (by simp) (by simp [State.handover, State.mixHandover, State.setCarriage])
  | _ => exact h.congr (by simp) (by simp) (by simp)

/-! ## Every step -/

theorem State.RelayLaw.alike {s t : State} (h : s.RelayLaw) (ha : s.alike t) : t.RelayLaw := by
  obtain ⟨_, _, _, _, _, _, rfl⟩ := ha
  exact h.congr rfl rfl rfl

theorem State.relayLaw_powered (s : State) (h d : Bool) : (s.powered h d).RelayLaw :=
  State.RelayLaw.of_standby (fun _ hb => absurd rfl hb) (fun _ => rfl) fun _ => rfl

theorem State.relayLaw_pinReset (s : State) : s.pinReset.RelayLaw :=
  State.RelayLaw.of_standby (fun _ hb => absurd rfl hb) (fun _ => rfl) fun _ => rfl

/-- Settles O56, act by act. -/
theorem relayLawKept : Obligations.RelayLawKept := by
  intro s t hs h
  have halike : ∀ s t : State, s.alike t → s.RelayLaw → t.RelayLaw := fun s t ha hl => hl.alike ha
  exact step_keeps halike (exec_keeps_of_acts halike (fun s hi de _ => s.relayLaw_powered hi de)
    (fun s _ => s.relayLaw_pinReset) (fun s hl => hl.congr (t := s.setHeld false) rfl rfl rfl)
    fun x L s t a hl => a.relayLaw hl) hs h

end Sys2Proof.Machine
end

section
/-! O57: the turns' law is kept. What the reports of a carry-over do to the open turns, and the desks once the waits have been
cleared. -/

namespace Sys2Proof

/-- A table of canonical order with every record rewritten and cleared records dropped. -/
theorem Table.fetch_map_filter {α : Type} [DecidableEq α] (d : α) (f : α → α) (hf : f d = d) {t : Table α}
    (h : Machine.Rising t) (k : Nat) :
    Table.fetch d ((t.map fun e => (e.1, f e.2)).filter fun e => decide (e.2 ≠ d)) k = f (Table.fetch d t k) := by
  induction t with
  | nil => exact hf.symm
  | cons e t ih =>
    unfold Machine.Rising at h
    rw [List.pairwise_cons] at h
    have hget : Table.fetch d (e :: t) k = if k = e.1 then e.2 else Table.fetch d t k := by
      unfold Table.fetch
      rw [Table.fetch?_cons]
      split <;> rfl
    have hcons (x : Nat × α) (l : Table α) :
        Table.fetch d (x :: l) k = if k = x.1 then x.2 else Table.fetch d l k := by
      unfold Table.fetch
      rw [Table.fetch?_cons]
      split <;> rfl
    rw [hget, List.map_cons, List.filter_cons]
    by_cases hk : k = e.1
    · -- the rest has no record of this number
      have hnot : Table.fetch d ((t.map fun e => (e.1, f e.2)).filter fun e => decide (e.2 ≠ d)) k = d := by
        refine Machine.Table.fetch_of_not_mem _ _ _ fun hm => ?_
        obtain ⟨x, hx, hxk⟩ := List.mem_map.mp hm
        obtain ⟨y, hy, rfl⟩ := List.mem_map.mp (List.mem_filter.mp hx).1
        have := h.1 y hy
        simp only at hxk
        omega
      rw [if_pos hk]
      split
      · rw [hcons, if_pos hk]
      · next hd =>
        rw [hnot]
        exact (by simpa using hd : f e.2 = d).symm
    · rw [if_neg hk]
      split
      · rw [hcons, if_neg hk]
        exact ih h.2
      · exact ih h.2

end Sys2Proof

namespace Sys2Proof.Machine

/-- R83: the clearing of waits clears the REFUSED latches and leaves the desks otherwise as they were. -/
theorem State.clearWaits_desk {s : State} (h : Table.wf {} s.bdc.desks = true) (b d : Nat) :
    s.clearWaits.desk b d = { s.desk b d with refused := false } := by
  have := Table.fetch_map_filter ({} : Desk) (fun y => { y with refused := false }) rfl ((Table.wf_iff _ _).mp h).1
    (deskKey b d)
  rw [State.desk, State.desk, ← this]
  simp only [State.clearWaits, State.setBdc]
  congr 2
  funext e
  simp [bne, BEq.beq]

theorem State.desk_of_interpreter {s : State} {b d x e : Nat} {y : Desk}
    (h : y.interpreter = (s.desk b d).interpreter) :
    ((s.setDesk b d y).desk x e).interpreter = (s.desk x e).interpreter := by
  rw [State.desk_setDesk]
  split
  · next hk => rw [h, State.desk, State.desk, hk]
  · rfl

/-- R59: desks 1 to 3 of booths have distinct keys. -/
theorem deskKey_inj {b d x e : Nat} (hd : d ∈ [1, 2, 3]) (he : e ∈ [1, 2, 3]) (h : deskKey b d = deskKey x e) :
    b = x ∧ d = e := by
  simp only [List.mem_cons, List.not_mem_nil, or_false] at hd he
  unfold deskKey at h
  omega

/-! ## The turns after the reports of a carry-over -/

theorem State.newTurn_congr {s t : State} (hd : t.bdc.desks = s.bdc.desks) (hb : t.banks = s.banks)
    (ho : t.meter.sitting.isOpen = s.meter.sitting.isOpen) (ht : t.meter.time = s.meter.time) (b d c : Nat) :
    t.newTurn b d c = s.newTurn b d c := by
  simp only [State.newTurn, ho, ht, State.carriedQuality_congr hb, State.desk, hd]

theorem State.openTurn_newTurn (s : State) (b d c x : Nat) (h : s.turn b = none) :
    (s.openTurn b d c).turn x = if x = b then s.newTurn b d c else s.turn x := by
  rw [State.openTurn_turn]
  by_cases hx : x = b
  · subst hx
    by_cases ho : s.meter.sitting.isOpen = true
    · simp [ho, State.newTurn]
    · simp [ho, State.newTurn, h]
  · simp [hx]

/-- R86: the turn of a live desk's booth after its outcome. -/
def State.carryTurn (s : State) (x : Carry) : Option Turn :=
  match x.new with
  | none => none
  | some c => if c = x.old then s.turn x.booth else s.newTurn x.booth x.desk c

/-- What the reports of a carry-over leave alone in the meter unit. -/
theorem State.reportCarry_meter (s : State) (x : Carry) :
    (s.reportCarry x).meter.sitting.isOpen = s.meter.sitting.isOpen ∧
      (s.reportCarry x).meter.time = s.meter.time ∧ (s.reportCarry x).meter.graceSetting = s.meter.graceSetting ∧
      (s.reportCarry x).meter.graceTimer = s.meter.graceTimer ∧
      (s.reportCarry x).meter.sitting.number = s.meter.sitting.number := by
  unfold State.reportCarry
  split
  · simp
  · split <;> simp

theorem State.reportCarry_turn (s : State) (x : Carry) (b : Nat) :
    (s.reportCarry x).turn b = if b = x.booth then s.carryTurn x else s.turn b := by
  have hleave (y : Nat) : (s.leaveOld x.old).turn y = s.turn y := State.turn_congr (by simp) y
  unfold State.reportCarry State.carryTurn
  cases hn : x.new with
  | none => simp only [State.closeTurn_turn, hleave]
  | some c =>
    dsimp only
    by_cases hc : c = x.old
    · rw [if_pos hc, if_pos hc, State.turn_congr (s := s) (by simp)]
      split
      · next he => rw [he]
      · rfl
    · rw [if_neg hc, if_neg hc, State.turn_congr (s := ((((s.leaveOld x.old).mixGrant c ⟨x.booth, x.desk⟩).closeTurn
        x.booth .switch).openTurn x.booth x.desk c)) (by simp),
        State.openTurn_newTurn _ _ _ _ _ (by rw [State.closeTurn_turn, if_pos rfl]), State.closeTurn_turn,
        State.turn_congr (t := (s.leaveOld x.old).mixGrant c ⟨x.booth, x.desk⟩) (s := s) (by simp)]
      split
      · exact State.newTurn_congr (by simp) (by simp) (by simp) (by simp) _ _ _
      · rfl

theorem State.foldl_reportCarry_turn_of_ne {xs : List Carry} {b : Nat} (h : ∀ x ∈ xs, x.booth ≠ b) (s : State) :
    (xs.foldl State.reportCarry s).turn b = s.turn b := by
  induction xs generalizing s with
  | nil => rfl
  | cons x xs ih =>
    rw [List.foldl_cons, ih (fun y hy => h y (List.mem_cons_of_mem _ hy)), State.reportCarry_turn,
      if_neg (h x List.mem_cons_self).symm]

theorem State.carryTurn_congr {s t : State} (hd : t.bdc.desks = s.bdc.desks) (hb : t.banks = s.banks)
    (ho : t.meter.sitting.isOpen = s.meter.sitting.isOpen) (ht : t.meter.time = s.meter.time) {x : Carry}
    (hx : t.turn x.booth = s.turn x.booth) : t.carryTurn x = s.carryTurn x := by
  simp only [State.carryTurn, hx, State.newTurn_congr hd hb ho ht]

/-- After the reports of all outcomes each booth has the turn of its outcome. -/
theorem State.foldl_reportCarry_turn {xs : List Carry} (hnd : (xs.map Carry.booth).Nodup) {x : Carry} (hx : x ∈ xs)
    (s : State) : (xs.foldl State.reportCarry s).turn x.booth = s.carryTurn x := by
  induction xs generalizing s with
  | nil => cases hx
  | cons y xs ih =>
    rw [List.map_cons, List.nodup_cons] at hnd
    rw [List.foldl_cons]
    rcases List.mem_cons.mp hx with rfl | hx
    · rw [State.foldl_reportCarry_turn_of_ne fun z hz he => hnd.1 (List.mem_map.mpr ⟨z, hz, he⟩),
        State.reportCarry_turn, if_pos rfl]
    · have hne : x.booth ≠ y.booth := fun he => hnd.1 (List.mem_map.mpr ⟨x, hx, he⟩)
      rw [ih hnd.2 hx]
      obtain ⟨ho, ht, -⟩ := s.reportCarry_meter y
      exact State.carryTurn_congr (by simp) (by simp) ho ht (by rw [State.reportCarry_turn, if_neg hne])

theorem State.carryOver_meter (s : State) :
    s.carryOver.meter.sitting.isOpen = s.meter.sitting.isOpen ∧ s.carryOver.meter.time = s.meter.time ∧
      s.carryOver.meter.graceSetting = s.meter.graceSetting ∧ s.carryOver.meter.graceTimer = s.meter.graceTimer ∧
      s.carryOver.meter.sitting.number = s.meter.sitting.number := by
  have hstart : s.carryStart.meter = s.meter := by simp
  rw [State.carryOver_eq, ← hstart]
  refine ⟨?_, ?_, ?_, ?_, ?_⟩
  · exact foldl_keeps _ (fun t : State => t.meter.sitting.isOpen) (fun t x => (t.reportCarry_meter x).1) _ _
  · exact foldl_keeps _ (fun t : State => t.meter.time) (fun t x => (t.reportCarry_meter x).2.1) _ _
  · exact foldl_keeps _ (fun t : State => t.meter.graceSetting) (fun t x => (t.reportCarry_meter x).2.2.1) _ _
  · exact foldl_keeps _ (fun t : State => t.meter.graceTimer) (fun t x => (t.reportCarry_meter x).2.2.2.1) _ _
  · exact foldl_keeps _ (fun t : State => t.meter.sitting.number) (fun t x => (t.reportCarry_meter x).2.2.2.2) _ _

theorem State.applyCarry_desks (s : State) (xs : List Carry) : (s.applyCarry xs).bdc.desks = s.bdc.desks := by
  induction xs generalizing s with
  | nil => rfl
  | cons x xs ih =>
    rw [State.applyCarry_cons, ih]
    cases x.new <;> rfl

theorem State.carryStart_desks (s : State) : s.carryStart.bdc.desks = s.clearWaits.bdc.desks :=
  State.applyCarry_desks _ _

/-- R86: the turn of a booth after the carry-over: its outcome's where it had a live desk, and as it was elsewhere. -/
theorem State.carryOver_turn (s : State) (b : Nat) :
    s.carryOver.turn b =
      if b ∈ Config.boothNumbers then
        match (s.clearWaits.booth b).live with
        | none => s.turn b
        | some (d, c) => s.clearWaits.carryTurn ⟨b, d, c, s.clearWaits.carriedTo b⟩
      else s.turn b := by
  have hsame (hno : ∀ x ∈ s.clearWaits.carries Config.boothNumbers [], x.booth ≠ b) :
      s.carryOver.turn b = s.turn b := by
    rw [State.carryOver_eq, State.foldl_reportCarry_turn_of_ne hno]
    exact State.turn_congr (by simp) b
  split
  · next hb =>
    split
    · next hl =>
      refine hsame fun x hx he => ?_
      have := ((State.mem_carries _ x).mp hx).2.1
      rw [he, hl] at this
      cases this
    · next d c hl =>
      have hx : (⟨b, d, c, s.clearWaits.carriedTo b⟩ : Carry) ∈ s.clearWaits.carries Config.boothNumbers [] :=
        (State.mem_carries _ _).mpr ⟨hb, hl, rfl⟩
      rw [State.carryOver_eq, State.foldl_reportCarry_turn (State.carries_nodup _) hx]
      exact State.carryTurn_congr s.carryStart_desks (by simp) (by simp) (by simp) (State.turn_congr (by simp) b)
  · next hb =>
    exact hsame fun x hx he => hb (he ▸ ((State.mem_carries _ x).mp hx).1)

end Sys2Proof.Machine
end

section
/-! O57, continued: the acts. -/

namespace Sys2Proof.Machine

namespace State.TurnLaw

variable {s t : State} {b d c : Nat}

/-- The law speaks of the framer's state, the open sitting, turns, live desks, interpreters and the return grace. -/
theorem congr (h : s.TurnLaw) (hf : t.framer.state = s.framer.state)
    (ho : t.meter.sitting.isOpen = s.meter.sitting.isOpen) (ht : ∀ b, t.turn b = s.turn b)
    (hl : ∀ b, (t.booth b).live = (s.booth b).live)
    (hi : ∀ b d, (t.desk b d).interpreter = (s.desk b d).interpreter)
    (hs : t.meter.graceSetting = s.meter.graceSetting) (hg : t.meter.graceTimer = s.meter.graceTimer) : t.TurnLaw where
  onAir := by rw [hf, ho]; exact h.onAir
  live b u := by rw [ht, ho, hl]; exact h.live b u
  interpreter b u := by rw [ht, hi]; exact h.interpreter b u
  metered := by simpa only [ho, ht, hl] using h.metered
  setting := by rw [hs]; exact h.setting
  grace n := by rw [hg]; exact h.grace n

/-- An act outside microphones and meter. -/
theorem congr_blocks (h : s.TurnLaw) (hf : t.framer.state = s.framer.state) (hd : t.bdc = s.bdc)
    (hm : t.meter = s.meter) : t.TurnLaw :=
  h.congr hf (by rw [hm]) (State.turn_congr hm) (fun b => by rw [State.booth_congr hd])
    (fun b d => by rw [State.desk_congr hd]) (by rw [hm]) (by rw [hm])

theorem turn_none (h : s.TurnLaw) (hl : (s.booth b).live = none) : s.turn b = none := by
  cases ht : s.turn b with
  | none => rfl
  | some u =>
    have := (h.live b u ht).2
    rw [hl] at this
    cases this

theorem turn_none_of_closed (h : s.TurnLaw) (ho : s.meter.sitting.isOpen = false) (b : Nat) : s.turn b = none := by
  cases ht : s.turn b with
  | none => rfl
  | some u =>
    have := (h.live b u ht).1
    rw [ho] at this
    cases this

theorem newTurn_some {u : Turn} (hu : s.newTurn b d c = some u) :
    s.meter.sitting.isOpen = true ∧ u.desk = d ∧ u.channel = c ∧ u.interpreter = (s.desk b d).interpreter := by
  unfold State.newTurn at hu
  split at hu
  · cases hu
    exact ⟨‹_›, rfl, rfl, rfl⟩
  · cases hu

theorem newTurn_isSome (ho : s.meter.sitting.isOpen = true) : (s.newTurn b d c).isSome = true := by
  simp [State.newTurn, ho]

/-- One booth's live desk and turn written anew together, everything else as it was. -/
theorem oneBooth (h : s.TurnLaw) (hf : t.framer.state = s.framer.state)
    (ho : t.meter.sitting.isOpen = s.meter.sitting.isOpen)
    (ht : ∀ x, t.turn x = if x = b then s.newTurn b d c else s.turn x)
    (hl : ∀ x, (t.booth x).live = if x = b then some (d, c) else (s.booth x).live)
    (hi : ∀ b d, (t.desk b d).interpreter = (s.desk b d).interpreter)
    (hs : t.meter.graceSetting = s.meter.graceSetting) (hg : t.meter.graceTimer = s.meter.graceTimer) : t.TurnLaw where
  onAir := by rw [hf, ho]; exact h.onAir
  live x u hu := by
    rw [ht] at hu
    rw [ho, hl]
    split at hu
    · obtain ⟨hopen, hd, hc, -⟩ := newTurn_some hu
      rw [if_pos ‹_›, hd, hc]
      exact ⟨hopen, rfl⟩
    · rw [if_neg ‹_›]
      exact h.live x u hu
  interpreter x u hu := by
    rw [ht] at hu
    rw [hi]
    split at hu
    · next he =>
      obtain ⟨-, hd, -, hw⟩ := newTurn_some hu
      rw [he, hd, hw]
    · exact h.interpreter x u hu
  metered hopen x hx := by
    rw [ho] at hopen
    rw [hl] at hx
    rw [ht]
    split
    · exact newTurn_isSome hopen
    · rw [if_neg ‹_›] at hx
      exact h.metered hopen x hx
  setting := by rw [hs]; exact h.setting
  grace n := by rw [hg]; exact h.grace n

theorem grant (h : s.TurnLaw) (hl : (s.booth b).live = none) (d c : Nat) : (s.grant b d c).TurnLaw := by
  refine h.oneBooth (b := b) (d := d) (c := c) (by simp) (by simp [State.grant_meter]) (fun x => ?_) (fun x => ?_)
    (fun x y => by rw [State.grant_desk]) (by simp [State.grant_meter]) (by simp [State.grant_meter])
  · rw [State.grant_turn, State.openTurn_newTurn _ _ _ _ _ (h.turn_none hl)]
  · rw [State.grant_booth]
    split <;> rfl

theorem passQueue (h : s.TurnLaw) (hm : s.MicSound none) (c : Nat) : (s.passQueue c).TurnLaw := by
  rcases s.passQueue_cases c with ⟨-, hs⟩ | ⟨e, rest, hq, hs⟩ <;> rw [hs]
  · exact h
  · have hc : (s.setChan c { s.chan c with queue := rest }).TurnLaw :=
      h.congr rfl rfl (fun _ => rfl) (fun _ => rfl) (fun _ _ => rfl) rfl rfl
    exact hc.grant (hm.live_none_of_waits (c := c) (by rw [hq]; exact List.mem_cons_self)) _ _

theorem release (h : s.TurnLaw) (b c : Nat) (r : Reason) : (s.release b c r).TurnLaw where
  onAir := by simpa using h.onAir
  live x u hu := by
    rw [State.release_turn] at hu
    rw [State.release_isOpen, State.release_booth]
    split at hu
    · cases hu
    · rw [if_neg ‹_›]
      exact h.live x u hu
  interpreter x u hu := by
    rw [State.release_turn] at hu
    rw [State.release_desk]
    split at hu
    · cases hu
    · exact h.interpreter x u hu
  metered ho x hx := by
    rw [State.release_isOpen] at ho
    rw [State.release_booth] at hx
    rw [State.release_turn]
    split at hx
    · cases hx
    · rw [if_neg ‹_›]
      exact h.metered ho x hx
  setting := by simpa using h.setting
  grace n hn := h.grace n (by simpa using hn)

theorem releaseBooth (h : s.TurnLaw) (b : Nat) : (s.releaseBooth b).TurnLaw := by
  unfold State.releaseBooth
  split
  · exact h.release _ _ _
  · exact h

theorem handover (h : s.TurnLaw) (b d e c : Nat) : (s.handover b d e c).TurnLaw := by
  refine h.oneBooth (b := b) (d := e) (c := c) (by simp) (by simp [State.handover]) (s.handover_turn b d e c)
    (fun x => ?_) (fun x y => ?_) (by simp [State.handover]) (by simp [State.handover])
  · rw [State.handover_booth]
    split <;> rfl
  · rw [State.desk_congr (s.handover_bdc b d e c)]
    rfl

theorem clearWaits (h : s.TurnLaw) (htab : s.TablesLaw) (hm : s.MicSound none) : s.clearWaits.TurnLaw :=
  h.congr rfl rfl (fun _ => rfl) (fun b => by rw [hm.clearWaits_booth])
    (fun b d => by rw [State.clearWaits_desk htab.desks]) rfl rfl

theorem setInterpreter (h : s.TurnLaw) (hm : s.MicSound none) {who : Option Nat} (hd : d ∈ [1, 2, 3]) :
    (s.setInterpreter b d who).TurnLaw := by
  have hdesk (x e : Nat) := s.desk_setDesk b d x e { s.desk b d with interpreter := who }
  rcases s.setInterpreter_cases b d who with ⟨-, hs⟩ | ⟨-, ⟨hno, hs⟩ | ⟨c, hl, hs⟩⟩ <;> rw [hs]
  · exact h
  · refine
      { h with
        interpreter := fun x u hu => ?_ }
    rw [hdesk, if_neg fun hk => ?_]
    · exact h.interpreter x u hu
    · have hl := (h.live x u hu).2
      obtain ⟨rfl, rfl⟩ := deskKey_inj (hm.live x _ _ hl) hd hk
      exact hno _ hl
  · -- the live desk's turn ends, and a new one begins with the new interpreter
    have hturn (x : Nat) : (((s.setDesk b d { s.desk b d with interpreter := who }).closeTurn b .signOn).openTurn b d
        c).turn x = if x = b then (s.setDesk b d { s.desk b d with interpreter := who }).newTurn b d c
          else s.turn x := by
      rw [State.openTurn_newTurn _ _ _ _ _ (by rw [State.closeTurn_turn, if_pos rfl]), State.closeTurn_turn]
      split
      · exact State.newTurn_congr (by simp) (by simp) (by simp) (by simp) _ _ _
      · rfl
    have hbooth (x : Nat) : (((s.setDesk b d { s.desk b d with interpreter := who }).closeTurn b .signOn).openTurn b d
        c).booth x = s.booth x := (State.booth_congr
        (s := s.setDesk b d { s.desk b d with interpreter := who }) (by simp) x)
    have hint (x e : Nat) : (((s.setDesk b d { s.desk b d with interpreter := who }).closeTurn b .signOn).openTurn b d
        c).desk x e = (s.setDesk b d { s.desk b d with interpreter := who }).desk x e := State.desk_congr (by simp) x e
    refine ⟨by simpa using h.onAir, fun x u hu => ?_, fun x u hu => ?_, fun ho x hx => ?_, by simpa using h.setting,
      fun n hn => h.grace n (by simpa using hn)⟩
    · rw [hturn] at hu
      rw [hbooth]
      split at hu
      · next he =>
        obtain ⟨hopen, hd', hc', -⟩ := newTurn_some hu
        rw [he, hd', hc', hl]
        exact ⟨by simpa using hopen, rfl⟩
      · simpa using h.live x u hu
    · rw [hturn] at hu
      rw [hint]
      split at hu
      · next he =>
        obtain ⟨-, hd', -, hw⟩ := newTurn_some hu
        rw [he, hd', hw]
      · next hne =>
        rw [hdesk, if_neg fun hk => hne (deskKey_inj (hm.live x _ _ (h.live x u hu).2) hd hk).1]
        exact h.interpreter x u hu
    · rw [hbooth] at hx
      rw [hturn]
      split
      · exact newTurn_isSome (by simpa using ho)
      · exact h.metered (by simpa using ho) x hx

/-! ## The carry-over -/

theorem carryOver (h : s.TurnLaw) (htab : s.TablesLaw) (hm : s.MicSound none) : s.carryOver.TurnLaw := by
  obtain ⟨ho, ht, hset, hgr, -⟩ := s.carryOver_meter
  have hb (b : Nat) : b ∉ Config.boothNumbers → (s.booth b).live = none := fun hb => by
    cases hl : (s.booth b).live with
    | none => rfl
    | some l => exact absurd (hm.booth_of_live hl) hb
  have hdesk (b d : Nat) : (s.carryOver.desk b d).interpreter = (s.desk b d).interpreter := by
    have : s.carryOver.desk b d = s.clearWaits.desk b d := by
      simp only [State.desk, State.carryOver_bdc, s.carryStart_desks]
    rw [this, State.clearWaits_desk htab.desks]
  -- each booth's live desk and turn after the carry-over
  have hlive (b : Nat) : (s.carryOver.booth b).live =
      (s.booth b).live.bind fun l => (s.clearWaits.carriedTo b).map fun c => (l.1, c) := by
    rw [State.carryOver_booth]
    dsimp only
    split
    · rw [hm.clearWaits_booth]
    · next hn => rw [hb b hn]; rfl
  have hnone (b : Nat) (hl : (s.booth b).live = none) : s.carryOver.turn b = none := by
    rw [State.carryOver_turn, hm.clearWaits_booth]
    simp [hl, h.turn_none hl]
  have hsome (b d c : Nat) (hl : (s.booth b).live = some (d, c)) :
      s.carryOver.turn b = s.clearWaits.carryTurn ⟨b, d, c, s.clearWaits.carriedTo b⟩ := by
    rw [State.carryOver_turn, hm.clearWaits_booth, if_pos (hm.booth_of_live hl)]
    simp [hl]
  have hw : s.clearWaits.TurnLaw := h.clearWaits htab hm
  -- the turn of a carried desk names the desk, its new channel and its interpreter
  have hcarry (b d c c' : Nat) (u : Turn) (hl : (s.booth b).live = some (d, c))
      (hu : s.clearWaits.carryTurn ⟨b, d, c, some c'⟩ = some u) :
      s.meter.sitting.isOpen = true ∧ u.desk = d ∧ u.channel = c' ∧
        u.interpreter = (s.clearWaits.desk b d).interpreter := by
    have hlw : (s.clearWaits.booth b).live = some (d, c) := by rw [hm.clearWaits_booth]; exact hl
    unfold State.carryTurn at hu
    dsimp only at hu
    split at hu
    · next he =>
      obtain ⟨hopen, hu'⟩ := hw.live b u hu
      rw [hlw] at hu'
      cases hu'
      exact ⟨hopen, rfl, he.symm, hw.interpreter b u hu⟩
    · exact newTurn_some hu
  refine ⟨by simpa [ho] using h.onAir, fun b u hu => ?_, fun b u hu => ?_, fun hopen b hx => ?_, by
    rw [hset]; exact h.setting, fun n hn => h.grace n (hgr ▸ hn)⟩
  · rw [ho, hlive]
    cases hl : (s.booth b).live with
    | none => rw [hnone b hl] at hu; cases hu
    | some l =>
      obtain ⟨d, c⟩ := l
      rw [hsome b d c hl] at hu
      cases hc : s.clearWaits.carriedTo b with
      | none => rw [hc] at hu; cases hu
      | some c' =>
        rw [hc] at hu
        obtain ⟨hopen, hd, hch, -⟩ := hcarry b d c c' u hl hu
        rw [hd, hch]
        exact ⟨hopen, rfl⟩
  · rw [hdesk]
    cases hl : (s.booth b).live with
    | none => rw [hnone b hl] at hu; cases hu
    | some l =>
      obtain ⟨d, c⟩ := l
      rw [hsome b d c hl] at hu
      cases hc : s.clearWaits.carriedTo b with
      | none => rw [hc] at hu; cases hu
      | some c' =>
        rw [hc] at hu
        obtain ⟨-, hd, -, hi⟩ := hcarry b d c c' u hl hu
        rw [hd, hi, State.clearWaits_desk htab.desks]
  · rw [ho] at hopen
    rw [hlive] at hx
    cases hl : (s.booth b).live with
    | none => simp [hl] at hx
    | some l =>
      obtain ⟨d, c⟩ := l
      cases hc : s.clearWaits.carriedTo b with
      | none => simp [hl, hc] at hx
      | some c' =>
        rw [hsome b d c hl, hc]
        unfold State.carryTurn
        dsimp only
        split
        · exact hw.metered hopen b (by rw [hm.clearWaits_booth, hl]; rfl)
        · exact newTurn_isSome hopen

theorem planTaken (h : s.TurnLaw) (htab : s.TablesLaw) (hm : s.MicSound none) : s.planTaken.TurnLaw := by
  have hd : s.dropRamps.endAllHolds.TurnLaw :=
    h.congr rfl rfl (fun _ => rfl) (fun _ => rfl) (fun _ _ => rfl) rfl rfl
  exact (hd.carryOver (htab.dropRamps.endHolds _) hm.dropRamps.endAllHolds).congr_blocks (by simp [State.planTaken])
    (by simp [State.planTaken]) (by simp [State.planTaken])

/-! ## Sittings and seconds -/

theorem foldl_closeTurn_turn (bs : List Nat) (s : State) (r : Reason) (b : Nat) :
    (bs.foldl (fun t b => t.closeTurn b r) s).turn b = if b ∈ bs then none else s.turn b := by
  induction bs generalizing s with
  | nil => rfl
  | cons x bs ih =>
    rw [List.foldl_cons, ih, State.closeTurn_turn]
    by_cases hb : b = x <;> simp [hb]

theorem closeTurns_turn (s : State) (r : Reason) (b : Nat) :
    (s.closeTurns r).turn b = if b ∈ Config.boothNumbers then none else s.turn b :=
  foldl_closeTurn_turn _ s r b

theorem foldl_closeTurn_meter (bs : List Nat) (s : State) (r : Reason) :
    (bs.foldl (fun t b => t.closeTurn b r) s).meter.sitting.isOpen = s.meter.sitting.isOpen ∧
      (bs.foldl (fun t b => t.closeTurn b r) s).meter.graceSetting = s.meter.graceSetting ∧
      (bs.foldl (fun t b => t.closeTurn b r) s).meter.graceTimer = s.meter.graceTimer ∧
      (bs.foldl (fun t b => t.closeTurn b r) s).meter.time = s.meter.time := by
  induction bs generalizing s with
  | nil => exact ⟨rfl, rfl, rfl, rfl⟩
  | cons b bs ih => simpa using ih (s.closeTurn b r)

theorem closeTurns_meter (s : State) (r : Reason) :
    (s.closeTurns r).meter.sitting.isOpen = s.meter.sitting.isOpen ∧
      (s.closeTurns r).meter.graceSetting = s.meter.graceSetting ∧
      (s.closeTurns r).meter.graceTimer = s.meter.graceTimer ∧ (s.closeTurns r).meter.time = s.meter.time := by
  unfold State.closeTurns
  exact foldl_closeTurn_meter _ s r

/-- No turn is open for a booth beyond 31. -/
theorem turn_none_of_not_mem (h : s.TurnLaw) (hm : s.MicSound none) {b : Nat} (hb : b ∉ Config.boothNumbers) :
    s.turn b = none := by
  refine h.turn_none ?_
  cases hl : (s.booth b).live with
  | none => rfl
  | some l => exact absurd (hm.booth_of_live hl) hb

/-- With the sitting closed and no turn open the law asks for the return grace alone. -/
theorem of_closed (ho : s.meter.sitting.isOpen = false) (ht : ∀ b, s.turn b = none) (hs : s.meter.graceSetting ≤ 240)
    (hg : ∀ n, s.meter.graceTimer = some n → 1 ≤ n ∧ n ≤ 14400) : s.TurnLaw :=
  ⟨fun hn => absurd (ho.symm.trans hn) nofun, fun b u hu => absurd ((ht b).symm.trans hu) nofun,
    fun b u hu => absurd ((ht b).symm.trans hu) nofun, fun hn => absurd (ho.symm.trans hn) nofun, hs, hg⟩

theorem startGrace_turn (s : State) (b : Nat) : s.startGrace.turn b = s.turn b := by
  unfold State.startGrace
  split
  · exact State.turn_congr (by simp) b
  · rfl

theorem startGrace_isOpen (s : State) : s.startGrace.meter.sitting.isOpen = s.meter.sitting.isOpen := by
  unfold State.startGrace
  split <;> simp

theorem startGrace_grace (hs : s.meter.graceSetting ≤ 240)
    (hg : ∀ n, s.meter.graceTimer = some n → 1 ≤ n ∧ n ≤ 14400) :
    s.startGrace.meter.graceSetting ≤ 240 ∧ ∀ n, s.startGrace.meter.graceTimer = some n → 1 ≤ n ∧ n ≤ 14400 := by
  unfold State.startGrace
  split
  · simpa using ⟨hs, hg⟩
  · refine ⟨hs, fun n hn => ?_⟩
    have : s.meter.graceSetting * 60 = n := by simpa using hn
    omega

theorem closeSitting (h : s.TurnLaw) (hm : s.MicSound none) : s.closeSitting.TurnLaw := by
  obtain ⟨-, hset, hgr, -⟩ := closeTurns_meter s .sittingClose
  have hturn (b : Nat) : (s.closeTurns .sittingClose).turn b = none := by
    rw [closeTurns_turn]
    split
    · rfl
    · exact h.turn_none_of_not_mem hm ‹_›
  have hmeter : ((s.closeTurns .sittingClose).closeRecord.handSitting).meter =
      (s.closeTurns .sittingClose).closeRecord.meter := by simp [State.handSitting]
  unfold State.closeSitting
  generalize s.closeTurns .sittingClose = t at hturn hset hgr hmeter
  obtain ⟨h1, h2⟩ := startGrace_grace (s := t.closeRecord.handSitting)
    (by rw [hmeter]; exact hset ▸ h.setting) (by rw [hmeter]; exact fun n hn => h.grace n (hgr ▸ hn))
  refine of_closed ?_ (fun b => ?_) h1 h2
  · rw [startGrace_isOpen, hmeter]
    rfl
  · rw [startGrace_turn, State.turn_congr hmeter]
    exact hturn b

theorem openLiveTurn_turn (s : State) (b x : Nat) (hn : s.turn b = none) :
    (s.openLiveTurn b).turn x =
      if x = b then (s.booth b).live.bind fun l => s.newTurn b l.1 l.2 else s.turn x := by
  unfold State.openLiveTurn
  cases hl : (s.booth b).live with
  | none =>
    dsimp only
    split
    · next he => rw [he, hn]; rfl
    · rfl
  | some l =>
    obtain ⟨d, c⟩ := l
    exact s.openTurn_newTurn b d c x hn

theorem openLiveTurn_frame (s : State) (b : Nat) :
    (s.openLiveTurn b).bdc = s.bdc ∧ (s.openLiveTurn b).banks = s.banks ∧
      (s.openLiveTurn b).meter = { s.meter with turns := (s.openLiveTurn b).meter.turns } := by
  unfold State.openLiveTurn
  split
  · refine ⟨by simp, by simp, ?_⟩
    unfold State.openTurn
    split <;> rfl
  · exact ⟨rfl, rfl, rfl⟩

/-- R108: the turns that the opening of a sitting gives the live desks, booth after booth. -/
theorem foldl_openLiveTurn_turn {bs : List Nat} (hnd : bs.Nodup) (s : State) (hn : ∀ b ∈ bs, s.turn b = none) (x : Nat) :
    (bs.foldl State.openLiveTurn s).turn x =
      if x ∈ bs then (s.booth x).live.bind fun l => s.newTurn x l.1 l.2 else s.turn x := by
  induction bs generalizing s with
  | nil => rfl
  | cons b bs ih =>
    rw [List.nodup_cons] at hnd
    obtain ⟨hd, hbk, hm⟩ := openLiveTurn_frame s b
    have hb := hn b List.mem_cons_self
    rw [List.foldl_cons, ih hnd.2 _ fun y hy => by
      rw [openLiveTurn_turn _ _ _ hb, if_neg fun he => hnd.1 (by rwa [← he])]
      exact hn y (List.mem_cons_of_mem _ hy)]
    have hnew (y d c : Nat) : (s.openLiveTurn b).newTurn y d c = s.newTurn y d c :=
      State.newTurn_congr (by rw [hd]) hbk (by rw [hm]) (by rw [hm]) _ _ _
    rw [State.booth_congr hd, openLiveTurn_turn _ _ _ hb]
    simp only [hnew]
    by_cases hx : x = b
    · subst hx
      simp [hnd.1]
    · simp [hx]

/-- The state in which a sitting has opened, before its turns. -/
abbrev State.sittingBegun (s : State) : State :=
  s.setMeter { s.meter with sitting := s.meter.opened, totals := [], graceTimer := none }

theorem openSitting_frame (s : State) :
    s.openSitting.meter = { (State.sittingBegun s).meter with turns := s.openSitting.meter.turns } := by
  unfold State.openSitting
  have hstep : ∀ (bs : List Nat) (t : State), (bs.foldl State.openLiveTurn t).meter =
      { t.meter with turns := (bs.foldl State.openLiveTurn t).meter.turns } := by
    intro bs
    induction bs with
    | nil => exact fun _ => rfl
    | cons b bs ih =>
      intro t
      rw [List.foldl_cons, ih, (openLiveTurn_frame t b).2.2]
  exact hstep _ _

theorem openSitting_turn (h : s.TurnLaw) (hc : s.meter.sitting.isOpen = false) (hm : s.MicSound none) (b : Nat) :
    s.openSitting.turn b = (s.booth b).live.bind fun l => (State.sittingBegun s).newTurn b l.1 l.2 := by
  unfold State.openSitting
  rw [foldl_openLiveTurn_turn boothNumbers_nodup (State.sittingBegun s) fun y _ => h.turn_none_of_closed hc y]
  split
  · rfl
  · next hb =>
    have hl : (s.booth b).live = none := by
      cases hl : (s.booth b).live with
      | none => rfl
      | some l => exact absurd (hm.booth_of_live hl) hb
    rw [hl]
    exact h.turn_none_of_closed hc b

theorem openSitting (h : s.TurnLaw) (hs : s.framer.state = .onAir) (hc : s.meter.sitting.isOpen = false)
    (hm : s.MicSound none) : s.openSitting.TurnLaw := by
  have hmeter := openSitting_frame s
  have ho : s.openSitting.meter.sitting.isOpen = true := by rw [hmeter]; rfl
  have hbegun : (State.sittingBegun s).meter.sitting.isOpen = true := rfl
  have hbdc : s.openSitting.bdc = s.bdc := by simp
  refine ⟨fun _ => by simpa using hs, fun b u hu => ?_, fun b u hu => ?_, fun _ b hl => ?_, by
    rw [hmeter]; exact h.setting, fun n hn => by rw [hmeter] at hn; cases hn⟩
  · rw [openSitting_turn h hc hm] at hu
    obtain ⟨l, hl, hu⟩ := Option.bind_eq_some_iff.mp hu
    obtain ⟨-, hd, hch, -⟩ := newTurn_some hu
    rw [State.booth_congr hbdc, hl, hd, hch]
    exact ⟨ho, rfl⟩
  · rw [openSitting_turn h hc hm] at hu
    obtain ⟨l, hl, hu⟩ := Option.bind_eq_some_iff.mp hu
    obtain ⟨-, hd, -, hi⟩ := newTurn_some hu
    rw [State.desk_congr hbdc, hd, hi]
    rfl
  · rw [State.booth_congr hbdc] at hl
    rw [openSitting_turn h hc hm]
    obtain ⟨l, hl⟩ := Option.isSome_iff_exists.mp hl
    rw [hl]
    exact newTurn_isSome hbegun

/-- A counted second changes no turn's desk, channel or interpreter. -/
theorem countTurn_turn (s : State) (b x : Nat) :
    (s.countTurn b).turn x =
      if x = b then (s.turn b).map fun t => t.count (s.heldSecond b t) (s.relaySecond b) else s.turn x := by
  unfold State.countTurn
  cases ht : s.turn b with
  | none =>
    dsimp only
    split
    · next he => rw [he, ht]; rfl
    · rfl
  | some t =>
    have : (((s.setTurn b (t.count (s.heldSecond b t) (s.relaySecond b))).setTotals b
        ((s.totals b).count (s.heldSecond b t) (s.relaySecond b))).setSitting
        { s.meter.sitting with
          onAir := if s.heldSecond b t then s.meter.sitting.onAir else satAdd Config.max32 s.meter.sitting.onAir 1
          }).turn x = (s.setTurn b (t.count (s.heldSecond b t) (s.relaySecond b))).turn x := rfl
    rw [this, State.turn_setTurn]
    rfl

theorem countTurn_frame (s : State) (b : Nat) :
    (s.countTurn b).bdc = s.bdc ∧ (s.countTurn b).framer = s.framer := by
  unfold State.countTurn
  split <;> exact ⟨rfl, rfl⟩

theorem countTurn_meter (s : State) (b : Nat) :
    (s.countTurn b).meter.sitting.isOpen = s.meter.sitting.isOpen ∧
      (s.countTurn b).meter.graceSetting = s.meter.graceSetting ∧
      (s.countTurn b).meter.graceTimer = s.meter.graceTimer := by
  unfold State.countTurn
  split <;> exact ⟨rfl, rfl, rfl⟩

theorem countTurn (h : s.TurnLaw) (b : Nat) : (s.countTurn b).TurnLaw := by
  obtain ⟨ho, hset, hgr⟩ := countTurn_meter s b
  obtain ⟨hbdc, hfr⟩ := countTurn_frame s b
  have hold (x : Nat) (u : Turn) (hu : (s.countTurn b).turn x = some u) :
      ∃ v, s.turn x = some v ∧ u.desk = v.desk ∧ u.channel = v.channel ∧ u.interpreter = v.interpreter := by
    rw [countTurn_turn] at hu
    split at hu
    · next he =>
      obtain ⟨v, hv, rfl⟩ := Option.map_eq_some_iff.mp hu
      exact ⟨v, he ▸ hv, rfl, rfl, rfl⟩
    · exact ⟨u, hu, rfl, rfl, rfl⟩
  refine ⟨by rw [ho, hfr]; exact h.onAir, fun x u hu => ?_, fun x u hu => ?_, fun hopen x hx => ?_, by
    rw [hset]; exact h.setting, fun n hn => h.grace n (hgr ▸ hn)⟩
  · obtain ⟨v, hv, hd, hc, -⟩ := hold x u hu
    rw [ho, State.booth_congr hbdc, hd, hc]
    exact h.live x v hv
  · obtain ⟨v, hv, hd, -, hi⟩ := hold x u hu
    rw [State.desk_congr hbdc, hd, hi]
    exact h.interpreter x v hv
  · rw [State.booth_congr hbdc] at hx
    have := h.metered (ho ▸ hopen) x hx
    rw [countTurn_turn]
    split
    · next he => simpa [← he] using this
    · exact this

theorem countSecond (h : s.TurnLaw) : s.countSecond.TurnLaw := by
  have hs : (s.setMeter { s.meter with time := s.meter.time + 1 }).TurnLaw :=
    h.congr rfl rfl (fun _ => rfl) (fun _ => rfl) (fun _ _ => rfl) rfl rfl
  unfold State.countSecond
  split
  · exact List.foldlRecOn _ _ hs fun _ ht b _ => State.TurnLaw.countTurn ht b
  · exact h

theorem tickGrace (h : s.TurnLaw) : s.tickGrace.TurnLaw := by
  rcases s.tickGrace_cases with ⟨-, hg⟩ | ⟨hne, hg⟩ <;> rw [hg]
  · have hu : (s.setMeter { s.meter with graceTimer := none }).TurnLaw := { h with grace := nofun }
    exact hu.congr_blocks (by simp) (by simp) (by simp)
  · refine { h with grace := fun n hn => ?_ }
    obtain ⟨m, hm, rfl⟩ := Option.map_eq_some_iff.mp hn
    have := h.grace m hm
    have : m ≠ 1 := fun he => hne (he ▸ hm)
    omega

/-! ## The framer's acts -/

/-- The law while the sitting is closed, whatever becomes of the framer and the microphones. -/
theorem congr_closed (h : s.TurnLaw) (hc : s.meter.sitting.isOpen = false) (hm : t.meter = s.meter) : t.TurnLaw :=
  of_closed (by rw [hm]; exact hc) (fun b => by rw [State.turn_congr hm]; exact h.turn_none_of_closed hc b)
    (by rw [hm]; exact h.setting) (by rw [hm]; exact h.grace)

/-- No sitting is open off air. -/
theorem closed_of_offAir (h : s.TurnLaw) (hs : s.framer.state ≠ .onAir) : s.meter.sitting.isOpen = false := by
  cases ho : s.meter.sitting.isOpen with
  | false => rfl
  | true => exact absurd (h.onAir ho) hs

theorem boundary {x : Option Nat} (h : s.TurnLaw) (htab : s.TablesLaw) (hm : s.MicBut x) : s.boundary.TurnLaw := by
  rcases s.boundary_cases with ⟨k, -, -, hb⟩ | ⟨-, hb⟩ <;> rw [hb]
  · have hx : (s.endFrame.endOverride.exchangeBanks k).MicSound none :=
      hm.sound.congr (hm.sound.entries_of_booths (by simp) fun j => by
        rw [State.exchangeBanks_booths]
        rfl) (State.booth_congr (by simp)) (State.chan_congr (by simp)) (State.carriage_congr (by simp))
        (State.producer_congr (by simp))
    have hxt : (s.endFrame.endOverride.exchangeBanks k).TablesLaw :=
      ((htab.setFramer _).setFramer _).exchangeBanks k
    have hf := (hx.congr_blocks (t := (s.endFrame.endOverride.exchangeBanks k).setFramer
      s.endFrame.endOverride.framer.switched) rfl rfl rfl rfl rfl).beginFrame true false true
    have hr := hf.congr_blocks (t := (((s.endFrame.endOverride.exchangeBanks k).setFramer
      s.endFrame.endOverride.framer.switched).beginFrame true false true).raise .switchDone 1) rfl rfl rfl rfl rfl
    have ht : (((s.endFrame.endOverride.exchangeBanks k).setFramer
        s.endFrame.endOverride.framer.switched).beginFrame true false true).TurnLaw :=
      h.congr_blocks (by simp [Framer.switched]) (by simp) (by simp)
    have hr' := ht.congr_blocks (t := (((s.endFrame.endOverride.exchangeBanks k).setFramer
      s.endFrame.endOverride.framer.switched).beginFrame true false true).raise .switchDone 1) rfl rfl rfl
    exact hr'.planTaken (((hxt.setFramer _).beginFrame _ _ _).raise _ _) hr
  · exact h.congr_blocks (by simp [Framer.continued]) (by simp) (by simp)

theorem endSettle {x : Option Nat} (h : s.TurnLaw) (htab : s.TablesLaw) (hm : s.MicBut x)
    (hs : s.framer.state = .starting) : s.endSettle.TurnLaw := by
  have hf := (hm.sound.congr_blocks (t := s.setFramer s.framer.started) rfl rfl rfl rfl rfl).beginFrame true false true
  have hr := hf.congr_blocks (t := ((s.setFramer s.framer.started).beginFrame true false true).raise .startDone 1)
    rfl rfl rfl rfl rfl
  have ht := h.congr_closed (t := ((s.setFramer s.framer.started).beginFrame true false true).raise .startDone 1)
    (h.closed_of_offAir (by simp [hs])) rfl
  exact ht.planTaken (((htab.setFramer _).beginFrame _ _ _).raise _ _) hr

theorem stop {x : Option Nat} (h : s.TurnLaw) (htab : s.TablesLaw) (hm : s.MicBut x)
    (hc : s.meter.sitting.isOpen = false) : s.stop.TurnLaw := by
  have hu : s.retireBanks.stopFramer.relayStandby.TurnLaw := h.congr_closed hc (by simp)
  have hut : s.retireBanks.stopFramer.relayStandby.TablesLaw := by
    have hf : s.retireBanks.stopFramer.TablesLaw := htab.retireBanks.setFramer _
    exact hf.relayStandby
  have hum : s.retireBanks.stopFramer.relayStandby.MicSound none :=
    hm.sound.congr (hm.sound.entries_of_booths (by simp) fun k => by
      rw [← s.retireBanks_booths k,
        State.bank_congr (t := s.retireBanks.stopFramer.relayStandby) (s := s.retireBanks) (by simp)])
      (State.booth_congr (by simp)) (State.chan_congr (by simp)) (fun c => by simp [State.carriage, State.relayStandby])
      fun c => by simp [State.producer, State.relayStandby]
  have hl : s.retireBanks.stopFramer.relayStandby.liveReset.TurnLaw :=
    List.foldlRecOn _ _ (hu.clearWaits hut hum) fun _ ht b _ => State.TurnLaw.releaseBooth ht b
  unfold State.stop
  generalize s.retireBanks.stopFramer.relayStandby.liveReset = u at hl ⊢
  exact hl.congr_blocks rfl rfl rfl

theorem tickTimers (h : s.TurnLaw) (hm : s.MicSound none) : s.tickTimers.TurnLaw :=
  h.congr rfl rfl (fun _ => rfl) (fun b => by rw [hm.tickTimers_booth]) (fun _ _ => rfl) rfl rfl

theorem countIssue (h : s.TurnLaw) : s.countIssue.TurnLaw := by
  unfold State.countIssue
  split
  · exact h.congr rfl rfl (fun _ => rfl) (fun _ => rfl) (fun _ _ => rfl) rfl rfl
  · exact h

theorem countReturn (h : s.TurnLaw) (charge : Nat) (way : Leaving) : (s.countReturn charge way).TurnLaw := by
  unfold State.countReturn
  split
  · exact h.congr rfl rfl (fun _ => rfl) (fun _ => rfl) (fun _ _ => rfl) rfl rfl
  · exact h

end State.TurnLaw

/-! ## Every act -/

theorem Act.turnLaw {x : Option Nat} {L : Prop} {s t : State} (hL : L) (a : Act x L s t) (htab : s.TablesLaw)
    (hm : s.MicBut x) (h : s.TurnLaw) : t.TurnLaw := by
  cases a with
  | start number standby => exact h.congr_closed (h.closed_of_offAir (by simp [standby])) rfl
  | abandonStart starting =>
    exact h.congr_closed (h.closed_of_offAir (by simp [starting])) (by simp)
  | stop onAir closed => exact h.stop htab hm closed
  | endSettle starting => exact h.endSettle htab hm starting
  | boundary => exact h.boundary htab hm
  | desk interpreter =>
    exact h.congr rfl rfl (fun _ => rfl) (fun _ => rfl) (fun _ _ => State.desk_of_interpreter interpreter) rfl rfl
  | recordOffer =>
    exact h.congr rfl rfl (fun _ => rfl) (fun x => by rw [State.recordOffer_booth]; split <;> simp_all)
      (fun _ _ => rfl) rfl rfl
  | dropOffer =>
    exact h.congr rfl rfl (fun _ => rfl) (fun x => by rw [State.dropOffer_booth]; split <;> simp_all)
      (fun _ _ => rfl) rfl rfl
  | joinQueue =>
    exact h.congr rfl rfl (fun _ => rfl) (fun x => by rw [State.joinQueue_booth]; split <;> simp_all)
      (fun _ _ => rfl) rfl rfl
  | withdraw =>
    exact h.congr rfl rfl (fun _ => rfl) (fun x => by rw [State.withdraw_booth]; split <;> simp_all)
      (fun _ _ => rfl) rfl rfl
  | grant onAir booth desk channel live free => exact h.grant (live hL) _ _
  | passQueue => exact h.passQueue hm.sound _
  | release => exact h.release _ _ _
  | handover => exact h.handover _ _ _ _
  | clearWaits => exact h.clearWaits htab hm.sound
  | interpreter desk => exact h.setInterpreter hm.sound desk
  | openSitting onAir closed => exact h.openSitting onAir closed hm.sound
  | closeSitting => exact h.closeSitting hm.sound
  | returnGrace range => exact { h with setting := range }
  | countSecond => exact h.countSecond
  | tickGrace => exact h.tickGrace
  | tickTimers => exact h.tickTimers hm.sound
  | issue =>
    exact State.TurnLaw.countIssue (h.congr_blocks rfl rfl rfl)
  | leaveHire =>
    exact State.TurnLaw.countReturn (h.congr_blocks (by simp [State.setTally]) (by simp [State.setTally]) (by simp [State.setTally])) _ _
  | settle | closeFinal | acceptSwitch | announceEnd | lineMode | relaySet | window | freeSlot | changePreset =>
    exact h.congr_blocks rfl rfl rfl
  | announce => exact h.congr_blocks rfl rfl rfl
  | _ => exact h.congr_blocks (by simp) (by simp) (by simp)

/-! ## Every step -/

theorem State.turnLaw_powered (s : State) (h d : Bool) : (s.powered h d).TurnLaw :=
  State.TurnLaw.of_closed rfl (fun _ => rfl) (by decide : 30 ≤ 240) nofun

theorem State.TurnLaw.pinReset {s : State} (h : s.TurnLaw) : s.pinReset.TurnLaw :=
  State.TurnLaw.of_closed rfl (fun _ => rfl) h.setting nofun

/-- A command keeps the turns' law together with the tables' and, between its acts, the microphones' law. -/
theorem exec_keeps_turnLaw (c : Instr) (s t : State) (hx : exec c s = .next t) (h : s.TablesLaw ∧ s.MicLaw ∧ s.TurnLaw) :
    t.TablesLaw ∧ t.MicLaw ∧ t.TurnLaw := by
  obtain ⟨htab, hm, h⟩ := h
  refine ⟨exec_keeps_of_acts (fun _ _ ha hl => State.TablesLaw.alike hl ha) (fun s hi de _ => s.tablesLaw_powered hi de)
    (fun _ hl => State.TablesLaw.pinReset hl) (fun _ hl => { hl with }) (fun x L s t a hl => a.tablesLaw hl) c s t hx htab,
    exec_keeps_micLaw c s t hx hm, ?_⟩
  rcases exec_acts hx with ⟨hi, de, -, rfl⟩ | ⟨-, rfl⟩ | ⟨-, rfl⟩ | ⟨x, u, hu, -, ha⟩
  · exact s.turnLaw_powered hi de
  · exact h.pinReset
  · exact h.congr_blocks rfl rfl rfl
  · have hb : u.TablesLaw ∧ u.MicBut x ∧ u.TurnLaw :=
      Acts.keeps (P := fun s => s.TablesLaw ∧ s.MicBut x ∧ s.TurnLaw)
        (fun s t a hs => ⟨a.tablesLaw hs.1, a.micBut hm hs.2.1, a.turnLaw hm hs.1 hs.2.1 hs.2.2⟩) hu ⟨htab, hm.but x, h⟩
    obtain ⟨_, _, _, _, _, _, rfl⟩ := ha
    exact hb.2.2.congr_blocks rfl rfl rfl

/-- Settles O57, act by act, the tables' and the microphones' laws being kept beside. -/
theorem turnLawKept : Obligations.TurnLawKept := by
  intro s t htab hm h hs
  have halike : ∀ s t : State, s.alike t → s.TablesLaw ∧ s.MicLaw ∧ s.TurnLaw → t.TablesLaw ∧ t.MicLaw ∧ t.TurnLaw := by
    rintro s t ha ⟨htab, hm, h⟩
    refine ⟨htab.alike ha, hm.alike ha, ?_⟩
    obtain ⟨_, _, _, _, _, _, rfl⟩ := ha
    exact h.congr_blocks rfl rfl rfl
  exact (step_keeps halike exec_keeps_turnLaw ⟨htab, hm, h⟩ hs).2.2

end Sys2Proof.Machine
end

section
/-! O58: the register, the accounts and the tally count the same hires. The law is said over the list of the hires
(`hires`), of which one act adds or takes one. -/

namespace Sys2Proof.Machine

/-! ## Tables as lists of records -/

theorem Table.perm_place {α : Type} (t : Table α) (k : Nat) (v : α) : (Table.place t k v).Perm ((k, v) :: t) := by
  induction t with
  | nil => exact .refl _
  | cons e t ih =>
    unfold Table.place
    split
    · exact .refl _
    · exact (ih.cons _).trans (.swap _ _ _)

theorem Table.perm_insert {α : Type} (t : Table α) (k : Nat) (v : α) :
    (Table.insert t k v).Perm ((k, v) :: Table.remove t k) :=
  Table.perm_place _ k v

theorem Table.remove_of_fetch?_none {α : Type} {t : Table α} {k : Nat} (h : Table.fetch? t k = none) :
    Table.remove t k = t := by
  refine List.filter_eq_self.mpr fun e he => ?_
  have : k ∉ t.map Prod.fst := fun hk => by
    have := Table.fetch?_of_mem t k hk
    rw [h] at this
    cases this
  simpa using fun hek : e.1 = k => this (hek ▸ List.mem_map_of_mem he)

theorem Table.perm_remove {α : Type} {t : Table α} {k : Nat} {v : α} (hn : (t.map Prod.fst).Nodup) (h : (k, v) ∈ t) :
    t.Perm ((k, v) :: Table.remove t k) := by
  induction t with
  | nil => cases h
  | cons e t ih =>
    obtain ⟨hnot, hn⟩ := List.nodup_cons.mp hn
    rcases List.mem_cons.mp h with rfl | ht
    · have : Table.remove ((k, v) :: t) k = Table.remove t k := by simp [Table.remove]
      rw [this, Table.remove_of_fetch?_none (Table.fetch?_of_not_mem t k hnot)]
    · have hk : e.1 ≠ k := fun he => hnot (by rw [he]; exact List.mem_map_of_mem ht)
      have : Table.remove (e :: t) k = e :: Table.remove t k := by simp [Table.remove, hk]
      rw [this]
      exact ((ih hn ht).cons e).trans (.swap _ _ _)

theorem Table.length_insert_of_mem {α : Type} {t : Table α} {k : Nat} {v : α} (w : α) (h : Table.fetch? t k = some v) :
    (Table.insert t k w).length ≤ t.length := by
  have hlt : (Table.remove t k).length < t.length :=
    List.length_filter_lt_length_iff_exists.mpr ⟨(k, v), Table.mem_of_fetch? h, by simp⟩
  rw [(Table.perm_insert t k w).length_eq, List.length_cons]
  exact hlt

theorem Table.length_remove_le {α : Type} (t : Table α) (k : Nat) : (Table.remove t k).length ≤ t.length :=
  List.length_filter_le _ _

/-- R121: a registered serial's slot holds its record. -/
theorem findSerial_some {t : Table Receiver} {serial slot : Nat} {r : Receiver}
    (h : findSerial t serial = some (slot, r)) : (slot, r) ∈ t ∧ r.serial = serial := by
  induction t with
  | nil => cases h
  | cons e t ih =>
    unfold findSerial at h
    split at h
    · cases h
      exact ⟨List.mem_cons_self, ‹_›⟩
    · exact ⟨List.mem_cons_of_mem _ (ih h).1, (ih h).2⟩

theorem findSerial_none {t : Table Receiver} {serial : Nat} (h : findSerial t serial = none) :
    ∀ e ∈ t, e.2.serial ≠ serial := by
  induction t with
  | nil => simp
  | cons e t ih =>
    unfold findSerial at h
    split at h
    · cases h
    · intro x hx
      rcases List.mem_cons.mp hx with rfl | hx
      · assumption
      · exact ih h x hx

/-! ## The hires of a register -/

/-- The hires that the records of a register hold. -/
def hires (t : Table Receiver) : List HireFields := t.filterMap fun e => e.2.hire

/-- The records alone: serials and slots once each, hire fields exactly on hire, the flag only there. -/
structure SlotsLaw (t : Table Receiver) : Prop where
  serials : (t.map fun e => e.2.serial).Nodup
  slots : (t.map Prod.fst).Nodup
  hire : ∀ e ∈ t, e.2.hire.isSome = e.2.onHire
  orphaned : ∀ e ∈ t, e.2.orphaned = true → e.2.onHire = true

/-- The accounts count the hires. -/
structure AccountsLaw (f : Nat → Option Account) (hs : List HireFields) : Prop where
  named : ∀ h ∈ hs, (f h.account).isSome
  out : ∀ a x, f a = some x → x.outCount = (hs.filter fun h => decide (h.account = a)).length
  limit : ∀ a x, f a = some x → x.outCount ≤ x.limit
  blocked : ∀ a x, f a = some x → x.refresh = x
  deposits : ∀ a x, f a = some x → x.deposits = ((hs.filter fun h => decide (h.account = a)).map HireFields.deposit).sum

/-- The tally counts the hires. -/
structure TallyLaw (t : Tally) (hs : List HireFields) : Prop where
  langs : ∀ lang n, Table.fetch? t.langs lang = some n → n = (hs.filter fun h => decide (h.preset = lang)).length
  other : t.other = (hs.filter fun h => (Table.fetch? t.langs h.preset).isNone).length
  entries : t.langs.length ≤ Config.tallyPlaces

theorem hires_filter (t : Table Receiver) (hh : ∀ e ∈ t, e.2.hire.isSome = e.2.onHire) {p : Receiver → Bool}
    {q : HireFields → Bool} (hpq : ∀ r h, r.hire = some h → p r = q h) :
    (((t.map Prod.snd).filter Receiver.onHire).filter p).map Receiver.hire = ((hires t).filter q).map some := by
  induction t with
  | nil => rfl
  | cons e t ih =>
    have ih := ih fun x hx => hh x (List.mem_cons_of_mem _ hx)
    have he := hh e List.mem_cons_self
    unfold hires at ih ⊢
    cases hr : e.2.hire with
    | none => simpa [← he, hr] using ih
    | some h =>
      cases hq : q h <;> simpa [← he, hr, hq, hpq e.2 h hr] using ih

theorem hires_count (t : Table Receiver) (hh : ∀ e ∈ t, e.2.hire.isSome = e.2.onHire) {p : Receiver → Bool}
    {q : HireFields → Bool} (hpq : ∀ r h, r.hire = some h → p r = q h) :
    (((t.map Prod.snd).filter Receiver.onHire).filter p).length = ((hires t).filter q).length := by
  simpa using congrArg List.length (hires_filter t hh hpq)

theorem hires_deposits (t : Table Receiver) (hh : ∀ e ∈ t, e.2.hire.isSome = e.2.onHire) (a : Nat) :
    ((((t.map Prod.snd).filter Receiver.onHire).filter fun r => r.names a).map fun r =>
      (r.hire.map HireFields.deposit).getD 0).sum =
      (((hires t).filter fun h => decide (h.account = a)).map HireFields.deposit).sum := by
  have := congrArg (fun l => (l.map fun o : Option HireFields => (o.map HireFields.deposit).getD 0).sum)
    (hires_filter t hh (p := fun r => r.names a) (q := fun h => decide (h.account = a)) fun r h hr => by
      simp [Receiver.names, hr])
  simpa [Function.comp_def] using this

theorem mem_hires {t : Table Receiver} {h : HireFields} : h ∈ hires t ↔ ∃ e ∈ t, e.2.hire = some h := by
  simp [hires]

/-- The accounts' state is what R139 makes of the balance. -/
theorem Account.refresh_eq_iff (x : Account) : x.refresh = x ↔ x.blocked = match x.kind with
    | .personal => decide (0 < x.balance)
    | .delegation => decide (x.credit < x.balance) := by
  obtain ⟨kind, blocked, limit, out, balance, credit, deposits⟩ := x
  simp only [Account.refresh, Account.mk.injEq, true_and, and_true]
  exact eq_comm

theorem Account.refresh_refresh (x : Account) : x.refresh.refresh = x.refresh := rfl

theorem State.hireLaw_iff (s : State) :
    s.HireLaw ↔ SlotsLaw s.register.slots ∧ AccountsLaw s.account (hires s.register.slots) ∧
      TallyLaw s.hire.tally (hires s.register.slots) := by
  have hnames (hh : ∀ e ∈ s.register.slots, e.2.hire.isSome = e.2.onHire) (a : Nat) :
      (s.register.onHire.filter fun r => r.names a).length =
        ((hires s.register.slots).filter fun h => decide (h.account = a)).length :=
    hires_count _ hh fun r h hr => by simp [Receiver.names, hr]
  have hpre (hh : ∀ e ∈ s.register.slots, e.2.hire.isSome = e.2.onHire) (l : Nat) :
      (s.register.onHire.filter fun r => r.presets l).length =
        ((hires s.register.slots).filter fun h => decide (h.preset = l)).length :=
    hires_count _ hh fun r h hr => by simp [Receiver.presets, hr]
  have hlist (hh : ∀ e ∈ s.register.slots, e.2.hire.isSome = e.2.onHire) :
      (s.register.onHire.filter fun r => !s.hire.tally.lists r).length =
        ((hires s.register.slots).filter fun h => (Table.fetch? s.hire.tally.langs h.preset).isNone).length :=
    hires_count _ hh fun r h hr => by simp [Tally.lists, hr]
  have hmem (hh : ∀ e ∈ s.register.slots, e.2.hire.isSome = e.2.onHire) (h : HireFields) :
      h ∈ hires s.register.slots ↔ ∃ r ∈ s.register.onHire, r.hire = some h := by
    rw [mem_hires]
    constructor
    · rintro ⟨e, he, hr⟩
      exact ⟨e.2, List.mem_filter.mpr ⟨List.mem_map_of_mem he, by rw [← hh e he, hr]; rfl⟩, hr⟩
    · rintro ⟨r, hr, hrh⟩
      obtain ⟨e, he, rfl⟩ := List.mem_map.mp (List.mem_filter.mp hr).1
      exact ⟨e, he, hrh⟩
  constructor
  · intro h
    refine ⟨⟨h.serials, h.slots, h.hire, h.orphaned⟩, ⟨fun x hx => ?_, fun a x hx => ?_, h.limit, fun a x hx => ?_,
      fun a x hx => ?_⟩, ⟨fun l n hn => ?_, ?_, h.entries⟩⟩
    · obtain ⟨r, hr, hrh⟩ := (hmem h.hire x).mp hx
      exact h.accounts r hr x hrh
    · rw [← hnames h.hire]; exact h.out a x hx
    · rw [Account.refresh_eq_iff]; exact h.blocked a x hx
    · rw [← hires_deposits _ h.hire]; exact h.deposits a x hx
    · rw [← hpre h.hire]; exact h.tally l n hn
    · rw [← hlist h.hire]; exact h.other
  · rintro ⟨hs, ha, ht⟩
    refine ⟨hs.serials, hs.slots, hs.hire, hs.orphaned, fun r hr h hrh => ha.named h ((hmem hs.hire h).mpr ⟨r, hr, hrh⟩),
      fun a x hx => ?_, ha.limit, fun a x hx => ?_, fun a x hx => ?_, fun l n hn => ?_, ?_, ht.entries⟩
    · rw [hnames hs.hire]; exact ha.out a x hx
    · exact (Account.refresh_eq_iff x).mp (ha.blocked a x hx)
    · exact (ha.deposits a x hx).trans (hires_deposits _ hs.hire a).symm
    · rw [hpre hs.hire]; exact ht.langs l n hn
    · rw [hlist hs.hire]; exact ht.other

/-! ## One record written -/

theorem hires_insert (t : Table Receiver) (k : Nat) (r : Receiver) :
    (hires (Table.insert t k r)).Perm (r.hire.toList ++ hires (Table.remove t k)) := by
  refine ((Table.perm_insert t k r).filterMap _).trans ?_
  cases h : r.hire <;> simp [hires, h]

theorem hires_remove {t : Table Receiver} {k : Nat} {r : Receiver} (hn : (t.map Prod.fst).Nodup) (h : (k, r) ∈ t) :
    (hires t).Perm (r.hire.toList ++ hires (Table.remove t k)) := by
  refine ((Table.perm_remove hn h).filterMap _).trans ?_
  cases h : r.hire <;> simp [hires, h]

namespace SlotsLaw

variable {t u : Table Receiver} {k : Nat} {r : Receiver}

theorem perm (h : SlotsLaw t) (hp : t.Perm u) : SlotsLaw u where
  serials := (hp.map _).nodup_iff.mp h.serials
  slots := (hp.map _).nodup_iff.mp h.slots
  hire e he := h.hire e (hp.mem_iff.mpr he)
  orphaned e he := h.orphaned e (hp.mem_iff.mpr he)

theorem remove (h : SlotsLaw t) (k : Nat) : SlotsLaw (Table.remove t k) :=
  have hsub : (Table.remove t k).Sublist t := List.filter_sublist
  ⟨h.serials.sublist (hsub.map _), h.slots.sublist (hsub.map _), fun e he => h.hire e (hsub.mem he),
    fun e he => h.orphaned e (hsub.mem he)⟩

/-- A record put in a slot: its serial is another record's only if that record stood in this slot. -/
theorem insert (h : SlotsLaw t) (hs : ∀ e ∈ Table.remove t k, e.2.serial ≠ r.serial) (hh : r.hire.isSome = r.onHire)
    (ho : r.orphaned = true → r.onHire = true) : SlotsLaw (Table.insert t k r) := by
  have hr := h.remove k
  refine perm (t := (k, r) :: Table.remove t k) ?_ (Table.perm_insert t k r).symm
  refine ⟨?_, ?_, ?_, ?_⟩
  · rw [List.map_cons, List.nodup_cons]
    refine ⟨fun hm => ?_, hr.serials⟩
    obtain ⟨e, he, hse⟩ := List.mem_map.mp hm
    exact hs e he hse
  · rw [List.map_cons, List.nodup_cons]
    refine ⟨fun hm => ?_, hr.slots⟩
    obtain ⟨e, he, hke⟩ := List.mem_map.mp hm
    simpa [hke] using (List.mem_filter.mp he).2
  · intro e he
    rcases List.mem_cons.mp he with rfl | he
    · exact hh
    · exact hr.hire e he
  · intro e he
    rcases List.mem_cons.mp he with rfl | he
    · exact ho
    · exact hr.orphaned e he

/-- Records in other slots have other serials. -/
theorem serial_ne (h : SlotsLaw t) (hk : (k, r) ∈ t) : ∀ e ∈ Table.remove t k, e.2.serial ≠ r.serial := by
  have hp : SlotsLaw ((k, r) :: Table.remove t k) := h.perm (Table.perm_remove h.slots hk)
  have hn := hp.serials
  rw [List.map_cons, List.nodup_cons] at hn
  exact fun e he hse => hn.1 (by rw [← hse]; exact List.mem_map_of_mem he)

/-- Records changed in place, with their serials, hire and presence on hire kept. -/
theorem map (h : SlotsLaw t) {f : Receiver → Receiver} (hs : ∀ r, (f r).serial = r.serial)
    (hh : ∀ r, (f r).hire = r.hire) (hon : ∀ r, (f r).onHire = r.onHire)
    (ho : ∀ r, (f r).orphaned = true → r.orphaned = true ∨ r.onHire = true) :
    SlotsLaw (t.map fun e => (e.1, f e.2)) := by
  refine ⟨?_, ?_, ?_, ?_⟩
  · simpa [Function.comp_def, hs] using h.serials
  · simpa [Function.comp_def] using h.slots
  · intro e he
    obtain ⟨x, hx, rfl⟩ := List.mem_map.mp he
    simpa [hh, hon] using h.hire x hx
  · intro e he hoe
    obtain ⟨x, hx, rfl⟩ := List.mem_map.mp he
    rw [hon]
    exact (ho _ hoe).elim (h.orphaned x hx) id

end SlotsLaw

theorem hires_map (t : Table Receiver) {f : Receiver → Receiver} (hh : ∀ r, (f r).hire = r.hire) :
    hires (t.map fun e => (e.1, f e.2)) = hires t := by
  simp [hires, List.filterMap_map, Function.comp_def, hh]

/-! ## One hire more or fewer -/

namespace AccountsLaw

variable {f g : Nat → Option Account} {hs : List HireFields} {h : HireFields} {a : Account}

theorem perm {hs' : List HireFields} (l : AccountsLaw f hs) (hp : hs.Perm hs') : AccountsLaw f hs' where
  named h hh := l.named h (hp.mem_iff.mpr hh)
  out a x hx := by rw [← (hp.filter _).length_eq]; exact l.out a x hx
  limit := l.limit
  blocked := l.blocked
  deposits a x hx := by rw [← ((hp.filter _).map _).sum_eq]; exact l.deposits a x hx

/-- An account written anew over the same hires. -/
theorem write {n : Nat} (l : AccountsLaw f hs) (hg : ∀ j, g j = if j = n then some a else f j)
    (ho : a.outCount = (hs.filter fun h => decide (h.account = n)).length) (hl : a.outCount ≤ a.limit)
    (hb : a.refresh = a)
    (hd : a.deposits = ((hs.filter fun h => decide (h.account = n)).map HireFields.deposit).sum) : AccountsLaw g hs where
  named h hh := by
    rw [hg]
    split
    · rfl
    · exact l.named h hh
  out j x hx := by
    rw [hg] at hx
    split at hx
    · next hj => cases hx; rw [hj]; exact ho
    · exact l.out j x hx
  limit j x hx := by
    rw [hg] at hx
    split at hx
    · cases hx; exact hl
    · exact l.limit j x hx
  blocked j x hx := by
    rw [hg] at hx
    split at hx
    · cases hx; exact hb
    · exact l.blocked j x hx
  deposits j x hx := by
    rw [hg] at hx
    split at hx
    · next hj => cases hx; rw [hj]; exact hd
    · exact l.deposits j x hx

/-- No hire names an account that is not there. -/
theorem filter_eq_nil {n : Nat} (l : AccountsLaw f hs) (hn : f n = none) :
    (hs.filter fun h => decide (h.account = n)) = [] := by
  refine List.filter_eq_nil_iff.mpr fun h hh he => ?_
  have := l.named h hh
  rw [of_decide_eq_true he, hn] at this
  cases this

/-- R138: one more hire, counted in its account. -/
theorem add (l : AccountsLaw f hs) (ha : f h.account = some a) (hlim : a.outCount ≠ a.limit)
    (hg : ∀ j, g j = if j = h.account then some (a.out h.deposit) else f j) : AccountsLaw g (h :: hs) where
  named x hx := by
    rw [hg]
    split
    · rfl
    · rcases List.mem_cons.mp hx with rfl | hx
      · contradiction
      · exact l.named x hx
  out j x hx := by
    rw [hg] at hx
    by_cases hj : j = h.account
    · subst hj
      rw [if_pos rfl] at hx
      cases hx
      simp [Account.out, l.out _ a ha]
    · rw [if_neg hj] at hx
      rw [List.filter_cons_of_neg (by simpa using fun he => hj he.symm)]
      exact l.out j x hx
  limit j x hx := by
    rw [hg] at hx
    split at hx
    · cases hx
      have := l.limit _ a ha
      show a.outCount + 1 ≤ a.limit
      omega
    · exact l.limit j x hx
  blocked j x hx := by
    rw [hg] at hx
    split at hx
    · cases hx
      have := l.blocked _ a ha
      rw [Account.refresh_eq_iff] at this ⊢
      exact this
    · exact l.blocked j x hx
  deposits j x hx := by
    rw [hg] at hx
    by_cases hj : j = h.account
    · subst hj
      rw [if_pos rfl] at hx
      cases hx
      simp [Account.out, l.deposits _ a ha, Nat.add_comm]
    · rw [if_neg hj] at hx
      rw [List.filter_cons_of_neg (by simpa using fun he => hj he.symm)]
      exact l.deposits j x hx

/-- R152: one hire fewer, its account settled and counted back. -/
theorem drop {charge : Nat} (l : AccountsLaw f (h :: hs)) (ha : f h.account = some a)
    (hg : ∀ j, g j = if j = h.account then some ((a.settle h.deposit charge).back h.deposit) else f j) :
    AccountsLaw g hs where
  named x hx := by
    rw [hg]
    split
    · rfl
    · exact l.named x (List.mem_cons_of_mem _ hx)
  out j x hx := by
    rw [hg] at hx
    by_cases hj : j = h.account
    · subst hj
      rw [if_pos rfl] at hx
      cases hx
      have := l.out _ a ha
      simp only [decide_true, List.filter_cons_of_pos, List.length_cons] at this
      show a.outCount - 1 = _
      omega
    · rw [if_neg hj] at hx
      have := l.out j x hx
      rwa [List.filter_cons_of_neg (by simpa using fun he => hj he.symm)] at this
  limit j x hx := by
    rw [hg] at hx
    split at hx
    · cases hx
      exact (Nat.sub_le _ _).trans (l.limit _ a ha)
    · exact l.limit j x hx
  blocked j x hx := by
    rw [hg] at hx
    split at hx
    · cases hx
      rfl
    · exact l.blocked j x hx
  deposits j x hx := by
    rw [hg] at hx
    by_cases hj : j = h.account
    · subst hj
      rw [if_pos rfl] at hx
      cases hx
      have := l.deposits _ a ha
      simp only [decide_true, List.filter_cons_of_pos, List.map_cons, List.sum_cons] at this
      show a.deposits - h.deposit = _
      omega
    · rw [if_neg hj] at hx
      have := l.deposits j x hx
      rwa [List.filter_cons_of_neg (by simpa using fun he => hj he.symm)] at this

end AccountsLaw

namespace TallyLaw

variable {t : Tally} {hs : List HireFields} {h : HireFields}

theorem perm {hs' : List HireFields} (l : TallyLaw t hs) (hp : hs.Perm hs') : TallyLaw t hs' where
  langs k n hn := by rw [← (hp.filter _).length_eq]; exact l.langs k n hn
  other := by rw [← (hp.filter _).length_eq]; exact l.other
  entries := l.entries

theorem fetch?_store {k j v : Nat} (x : Table Nat) :
    Table.fetch? (Table.store 0 x k v) j = if j = k then (if v = 0 then none else some v) else Table.fetch? x j := by
  unfold Table.store
  split
  · rw [Table.fetch?_remove]
  · rw [Table.fetch?_insert]

/-- R149: one more hire, counted in its preset's entry, in a new one, or in OTHER. -/
theorem countIn (l : TallyLaw t hs) : TallyLaw (t.countIn h.preset) (h :: hs) := by
  unfold Tally.countIn
  cases hf : Table.fetch? t.langs h.preset with
  | some n =>
    refine ⟨fun k m hm => ?_, ?_, ?_⟩
    · rw [fetch?_store] at hm
      by_cases hk : k = h.preset
      · subst hk
        simp only [if_true, Nat.add_eq_zero_iff, one_ne_zero, and_false, if_false, Option.some.injEq] at hm
        rw [List.filter_cons_of_pos (by simp), List.length_cons, ← l.langs _ n hf, hm]
      · rw [if_neg hk] at hm
        rw [List.filter_cons_of_neg (by simpa using fun he => hk he.symm)]
        exact l.langs k m hm
    · have hsame (k : Nat) : (Table.fetch? (Table.store 0 t.langs h.preset (n + 1)) k).isNone =
          (Table.fetch? t.langs k).isNone := by
        rw [fetch?_store]
        split
        · next hk => simp [hk, hf]
        · rfl
      simp only [hsame]
      rw [List.filter_cons_of_neg (by simp [hf])]
      exact l.other
    · have : Table.store 0 t.langs h.preset (n + 1) = Table.insert t.langs h.preset (n + 1) := rfl
      dsimp only
      rw [this]
      exact (Table.length_insert_of_mem _ hf).trans l.entries
  | none =>
    dsimp only
    split
    · next hroom =>
      -- OTHER is 0, so no hire had this preset before
      have hnone : ∀ x ∈ hs, (Table.fetch? t.langs x.preset).isSome := fun x hx => by
        have h0 := List.length_eq_zero_iff.mp (l.other.symm.trans hroom.2)
        have := List.filter_eq_nil_iff.mp h0 x hx
        simpa [Option.isSome_iff_ne_none] using this
      have hnot : (hs.filter fun x => decide (x.preset = h.preset)) = [] :=
        List.filter_eq_nil_iff.mpr fun x hx he => by
          have := hnone x hx
          rw [of_decide_eq_true he, hf] at this
          cases this
      refine ⟨fun k m hm => ?_, ?_, ?_⟩
      · rw [fetch?_store] at hm
        by_cases hk : k = h.preset
        · subst hk
          simp only [if_true, one_ne_zero, if_false, Option.some.injEq] at hm
          rw [List.filter_cons_of_pos (by simp), hnot, ← hm]
          rfl
        · rw [if_neg hk] at hm
          rw [List.filter_cons_of_neg (by simpa using fun he => hk he.symm)]
          exact l.langs k m hm
      · dsimp only
        rw [hroom.2, eq_comm, List.length_eq_zero_iff, List.filter_eq_nil_iff]
        intro x hx
        rw [fetch?_store]
        split
        · simp
        · next hne =>
          rcases List.mem_cons.mp hx with rfl | hx
          · exact absurd rfl hne
          · simpa [Option.isSome_iff_ne_none] using hnone x hx
      · have : Table.store 0 t.langs h.preset 1 = Table.insert t.langs h.preset 1 := rfl
        dsimp only
        rw [this, (Table.perm_insert _ _ _).length_eq, List.length_cons]
        have := Table.length_remove_le t.langs h.preset
        omega
    · refine ⟨fun k m hm => ?_, ?_, l.entries⟩
      · rw [List.filter_cons_of_neg (by simpa using fun he : h.preset = k => by rw [← he, hf] at hm; cases hm)]
        exact l.langs k m hm
      · rw [List.filter_cons_of_pos (by simp [hf]), List.length_cons, ← l.other]

/-- R149: one hire fewer, counted out of its preset's entry, which goes at 0, or of OTHER. -/
theorem countOut (l : TallyLaw t (h :: hs)) : TallyLaw (t.countOut h.preset) hs := by
  unfold Tally.countOut
  cases hf : Table.fetch? t.langs h.preset with
  | some n =>
    have hn := l.langs _ n hf
    rw [List.filter_cons_of_pos (by simp), List.length_cons] at hn
    refine ⟨fun k m hm => ?_, ?_, ?_⟩
    · rw [fetch?_store] at hm
      by_cases hk : k = h.preset
      · subst hk
        rw [if_pos rfl] at hm
        split at hm
        · cases hm
        · cases hm
          omega
      · rw [if_neg hk] at hm
        have := l.langs k m hm
        rwa [List.filter_cons_of_neg (by simpa using fun he => hk he.symm)] at this
    · have hother := l.other
      rw [List.filter_cons_of_neg (by simp [hf])] at hother
      dsimp only
      rw [hother]
      refine congrArg List.length (List.filter_congr fun x hx => ?_)
      rw [fetch?_store]
      split
      · next he =>
        have hpos : 0 < (hs.filter fun y => decide (y.preset = h.preset)).length :=
          List.length_pos_of_mem (List.mem_filter.mpr ⟨hx, by simpa using he⟩)
        rw [he, hf, if_neg (by omega)]
        rfl
      · rfl
    · dsimp only
      unfold Table.store
      split
      · exact (Table.length_remove_le _ _).trans l.entries
      · exact (Table.length_insert_of_mem _ hf).trans l.entries
  | none =>
    refine ⟨fun k m hm => ?_, ?_, l.entries⟩
    · have := l.langs k m hm
      rwa [List.filter_cons_of_neg (by simpa using fun he : h.preset = k => by rw [← he, hf] at hm; cases hm)] at this
    · have := l.other
      rw [List.filter_cons_of_pos (by simp [hf]), List.length_cons] at this
      dsimp only
      omega

end TallyLaw

end Sys2Proof.Machine
end

section
/-! O58, continued: the acts. -/

namespace Sys2Proof.Machine

/-! ## The counting laws under the acts -/

/-- An account without a receiver out goes. -/
theorem AccountsLaw.close {f g : Nat → Option Account} {hs : List HireFields} {n : Nat} {a : Account}
    (l : AccountsLaw f hs) (ha : f n = some a) (ho : a.outCount = 0) (hg : ∀ j, g j = if j = n then none else f j) :
    AccountsLaw g hs := by
  have hkeep (j : Nat) (x : Account) (hx : g j = some x) : f j = some x := by
    rw [hg] at hx
    split at hx
    · cases hx
    · exact hx
  refine ⟨fun h hh => ?_, fun j x hx => l.out j x (hkeep j x hx), fun j x hx => l.limit j x (hkeep j x hx),
    fun j x hx => l.blocked j x (hkeep j x hx), fun j x hx => l.deposits j x (hkeep j x hx)⟩
  have hnil := List.length_eq_zero_iff.mp ((l.out n a ha).symm.trans ho)
  rw [hg, if_neg fun he => List.filter_eq_nil_iff.mp hnil h hh (by simpa using he)]
  exact l.named h hh

/-- A hire that changes in its preset alone. -/
theorem AccountsLaw.represet {f : Nat → Option Account} {hs : List HireFields} {h h' : HireFields}
    (l : AccountsLaw f (h :: hs)) (ha : h'.account = h.account) (hd : h'.deposit = h.deposit) :
    AccountsLaw f (h' :: hs) where
  named x hx := by
    rcases List.mem_cons.mp hx with rfl | hx
    · rw [ha]
      exact l.named h List.mem_cons_self
    · exact l.named x (List.mem_cons_of_mem _ hx)
  out j x hx := by
    have := l.out j x hx
    simp only [List.filter_cons, ha] at this ⊢
    split at this <;> simpa [*] using this
  limit := l.limit
  blocked := l.blocked
  deposits j x hx := by
    have := l.deposits j x hx
    simp only [List.filter_cons, ha] at this ⊢
    split at this <;> simpa [*] using this

/-- R150: a hire's preset moves in the tally. -/
theorem TallyLaw.move {t : Tally} {hs : List HireFields} {h : HireFields} (l : TallyLaw t (h :: hs)) (lang : Nat) :
    TallyLaw (t.move h.preset lang) ({ h with preset := lang } :: hs) := by
  unfold Tally.move
  split
  · next he =>
    rw [← he]
    exact l
  · exact TallyLaw.countIn (h := { h with preset := lang }) l.countOut

namespace State.HireLaw

variable {s t : State}

/-- The law speaks of the slots, the accounts and the tally. -/
theorem congr (h : s.HireLaw) (hr : t.register.slots = s.register.slots) (ha : t.hire.accounts = s.hire.accounts)
    (ht : t.hire.tally = s.hire.tally) : t.HireLaw := by
  have hacc : t.account = s.account := by
    funext a
    rw [State.account, ha]
    rfl
  rw [State.hireLaw_iff] at h ⊢
  rwa [hr, hacc, ht]

/-- Other records with the same hires. -/
theorem same_hires (h : s.HireLaw) (hs : SlotsLaw t.register.slots)
    (hp : (hires s.register.slots).Perm (hires t.register.slots)) (hh : t.hire = s.hire) : t.HireLaw := by
  have hacc : t.account = s.account := by
    funext a
    rw [State.account, hh]
    rfl
  rw [State.hireLaw_iff] at h ⊢
  rw [hacc, hh]
  exact ⟨hs, h.2.1.perm hp, h.2.2.perm hp⟩

theorem sweep (h : s.HireLaw) : s.sweep.HireLaw := by
  have hslots : s.sweep.register.slots = s.register.slots.map fun e => (e.1, s.swept e.2) := by simp [State.sweep]
  have hhire (r : Receiver) : (s.swept r).hire = r.hire := by unfold State.swept; split <;> rfl
  refine h.same_hires ?_ ?_ (by simp)
  · rw [hslots]
    refine ((State.hireLaw_iff s).mp h).1.map (fun r => ?_) hhire (fun r => ?_) fun r ho => .inl ?_
    · unfold State.swept
      split <;> rfl
    · unfold State.swept
      split
      · next hs =>
        have : r.state = .onHire := by
          simp only [State.sweeps, Bool.and_eq_true, decide_eq_true_eq] at hs
          exact hs.1
        simp [Receiver.onHire, this]
      · rfl
    · unfold State.swept at ho
      split at ho <;> exact ho
  · rw [hslots, hires_map _ hhire]

theorem markOrphans (h : s.HireLaw) : s.markOrphans.HireLaw := by
  have hslots : s.markOrphans.register.slots =
      s.register.slots.map fun e => (e.1, if s.orphans e.2 then { e.2 with orphaned := true } else e.2) := by
    simp [State.markOrphans]
  have hhire (r : Receiver) : (if s.orphans r then { r with orphaned := true } else r).hire = r.hire := by
    split <;> rfl
  refine h.same_hires ?_ ?_ (by simp)
  · rw [hslots]
    refine ((State.hireLaw_iff s).mp h).1.map (f := fun r => if s.orphans r then { r with orphaned := true } else r)
      (fun r => by split <;> rfl) hhire (fun r => by split <;> rfl) fun r ho => ?_
    split at ho
    · next hs =>
      simp only [State.orphans, Bool.and_eq_true] at hs
      exact .inr hs.1
    · exact .inl ho
  · rw [hslots, hires_map _ hhire]

theorem planTaken (h : s.HireLaw) : s.planTaken.HireLaw := by
  have hc : (s.dropRamps.endAllHolds.carryOver.resolve).HireLaw := h.congr (by simp) (by simp) (by simp)
  exact hc.markOrphans

theorem boundary (h : s.HireLaw) : s.boundary.HireLaw := by
  rcases s.boundary_cases with ⟨k, -, -, hb⟩ | ⟨-, hb⟩ <;> rw [hb]
  · exact planTaken (h.congr (by simp) (by simp) (by simp))
  · exact h.congr rfl rfl rfl

theorem endSettle (h : s.HireLaw) : s.endSettle.HireLaw := planTaken (h.congr rfl rfl rfl)

theorem startGrace (h : s.HireLaw) : s.startGrace.HireLaw := by
  unfold State.startGrace
  split
  · exact h.sweep
  · exact h.congr rfl rfl rfl

theorem closeSitting (h : s.HireLaw) : s.closeSitting.HireLaw := by
  have hc : ((s.closeTurns .sittingClose).closeRecord.handSitting).HireLaw := h.congr (by simp) (by simp) (by simp)
  exact hc.startGrace

theorem tickGrace (h : s.HireLaw) : s.tickGrace.HireLaw := by
  rcases s.tickGrace_cases with ⟨-, hg⟩ | ⟨-, hg⟩ <;> rw [hg]
  · exact sweep (s := s.setMeter { s.meter with graceTimer := none }) (h.congr rfl rfl rfl)
  · exact h.congr rfl rfl rfl

/-! ## Accounts and the register -/

theorem account_setAccount (s : State) (n j : Nat) (a : Account) :
    (s.setAccount n a).account j = if j = n then some a else s.account j :=
  Table.fetch?_insert _ _ _ _

theorem setAccount (h : s.HireLaw) {n : Nat} {a : Account} (ht : t.register.slots = s.register.slots)
    (hty : t.hire.tally = s.hire.tally) (hacc : ∀ j, t.account j = if j = n then some a else s.account j)
    (ho : a.outCount = ((hires s.register.slots).filter fun h => decide (h.account = n)).length)
    (hl : a.outCount ≤ a.limit) (hb : a.refresh = a)
    (hd : a.deposits = (((hires s.register.slots).filter fun h => decide (h.account = n)).map
      HireFields.deposit).sum) : t.HireLaw := by
  rw [State.hireLaw_iff] at h ⊢
  rw [ht, hty]
  exact ⟨h.1, h.2.1.write hacc ho hl hb hd, h.2.2⟩

theorem acctOpen (h : s.HireLaw) {n : Nat} (kind : AccountKind) (limit credit : Nat) (hn : s.account n = none) :
    (s.setAccount n (Account.opened kind limit credit)).HireLaw := by
  have hl := ((State.hireLaw_iff s).mp h).2.1
  refine h.setAccount rfl rfl (account_setAccount s n · _) ?_ (Nat.zero_le _) (by cases kind <;> simp [Account.refresh, Account.opened]) ?_
  · rw [hl.filter_eq_nil hn]
    rfl
  · rw [hl.filter_eq_nil hn]
    rfl

theorem acctChange (h : s.HireLaw) {n : Nat} {a a' : Account} (ha : s.account n = some a)
    (hc : (∃ limit credit, a' = a.withLimits limit credit ∧ a.outCount ≤ a'.limit) ∨ ∃ amount, a' = a.paid amount) :
    (s.setAccount n a').HireLaw := by
  obtain ⟨-, hl, -⟩ := (State.hireLaw_iff s).mp h
  have hout : a'.outCount = a.outCount ∧ a'.deposits = a.deposits ∧ a'.refresh = a' ∧ a.outCount ≤ a'.limit := by
    rcases hc with ⟨limit, credit, rfl, hle⟩ | ⟨amount, rfl⟩
    · exact ⟨rfl, rfl, rfl, hle⟩
    · exact ⟨rfl, rfl, rfl, hl.limit n a ha⟩
  obtain ⟨ho, hd, hr, hle⟩ := hout
  exact h.setAccount rfl rfl (account_setAccount s n · _) (ho.trans (hl.out n a ha)) (ho ▸ hle) hr
    (hd.trans (hl.deposits n a ha))

theorem removeAccount (h : s.HireLaw) {n : Nat} {a : Account} (ha : s.account n = some a) (ho : a.outCount = 0) :
    (s.removeAccount n).HireLaw := by
  rw [State.hireLaw_iff] at h ⊢
  exact ⟨h.1, h.2.1.close ha ho fun j => Table.fetch?_remove _ _ _, h.2.2⟩

/-- A record off hire in place of a record off hire, or in a free slot. -/
theorem setSlot (h : s.HireLaw) {k : Nat} {r : Receiver} (hs : SlotsLaw (s.setSlot k r).register.slots)
    (hp : (hires s.register.slots).Perm (r.hire.toList ++ hires (Table.remove s.register.slots k))) :
    (s.setSlot k r).HireLaw :=
  h.same_hires hs (hp.trans (hires_insert _ _ _).symm) rfl

theorem register (h : s.HireLaw) {serial k : Nat} (cls : RxClass) (hn : s.receiver serial = none)
    (hf : Table.fetch? s.register.slots k = none) : (s.setSlot k (Receiver.fresh serial cls)).HireLaw := by
  obtain ⟨hl, -, -⟩ := (State.hireLaw_iff s).mp h
  refine h.setSlot (hl.insert (fun e he => ?_) rfl (by simp [Receiver.fresh])) ?_
  · exact findSerial_none hn e (List.mem_of_mem_filter he)
  · rw [Table.remove_of_fetch?_none hf]
    exact .refl _

/-- A record written with its serial kept. -/
theorem slotsLaw_setSlot (h : s.HireLaw) {k : Nat} {r r' : Receiver} (hm : (k, r) ∈ s.register.slots)
    (hs : r'.serial = r.serial) (hh : r'.hire.isSome = r'.onHire) (ho : r'.orphaned = true → r'.onHire = true) :
    SlotsLaw (s.setSlot k r').register.slots := by
  obtain ⟨hl, -, -⟩ := (State.hireLaw_iff s).mp h
  exact hl.insert (fun e he => hs ▸ hl.serial_ne hm e he) hh ho

theorem service (h : s.HireLaw) {k : Nat} {r r' : Receiver} (hm : (k, r) ∈ s.register.slots)
    (hs : r'.serial = r.serial) (hh : r'.hire = r.hire) (hon : r'.onHire = r.onHire) (ho : r'.orphaned = r.orphaned) :
    (s.setSlot k r').HireLaw := by
  obtain ⟨hl, -, -⟩ := (State.hireLaw_iff s).mp h
  refine h.setSlot (h.slotsLaw_setSlot hm hs ?_ ?_) ?_
  · rw [hh, hon]
    exact hl.hire _ hm
  · rw [ho, hon]
    exact hl.orphaned _ hm
  · rw [hh]
    exact hires_remove hl.slots hm

theorem freeSlot (h : s.HireLaw) {k : Nat} {r : Receiver} (hm : (k, r) ∈ s.register.slots) (hoff : r.onHire = false) :
    (s.freeSlot k).HireLaw := by
  obtain ⟨hl, -, -⟩ := (State.hireLaw_iff s).mp h
  have hnone : r.hire = none := Option.isSome_eq_false_iff.mp ((hl.hire _ hm).trans hoff) |> Option.isNone_iff_eq_none.mp
  have hp := hires_remove hl.slots hm
  rw [hnone] at hp
  exact h.same_hires (hl.remove k) hp rfl

theorem hires_insert_some {x : Table Receiver} {k : Nat} {r : Receiver} {v : HireFields} (hr : r.hire = some v) :
    (hires (Table.insert x k r)).Perm (v :: hires (Table.remove x k)) := by
  have := hires_insert x k r
  rwa [hr] at this

theorem hires_insert_none {x : Table Receiver} {k : Nat} {r : Receiver} (hr : r.hire = none) :
    (hires (Table.insert x k r)).Perm (hires (Table.remove x k)) := by
  have := hires_insert x k r
  rwa [hr] at this

theorem hires_remove_some {x : Table Receiver} {k : Nat} {r : Receiver} {v : HireFields} (hn : (x.map Prod.fst).Nodup)
    (h : (k, r) ∈ x) (hr : r.hire = some v) : (hires x).Perm (v :: hires (Table.remove x k)) := by
  have := hires_remove hn h
  rwa [hr] at this

theorem issue (h : s.HireLaw) {k n preset : Nat} {r : Receiver} {a : Account} (hm : (k, r) ∈ s.register.slots)
    (hav : r.state = .available) (ha : s.account n = some a) (hlim : a.outCount ≠ a.limit) :
    (s.issue k r n preset a).HireLaw := by
  have hsl : SlotsLaw (s.setSlot k (r.issued (s.hireFields n preset a))).register.slots :=
    h.slotsLaw_setSlot hm rfl rfl (by simp [Receiver.issued])
  obtain ⟨hl, hacc, hta⟩ := (State.hireLaw_iff s).mp h
  have hnone : r.hire = none := by
    have : r.hire.isSome = r.onHire := hl.hire _ hm
    rw [show r.onHire = false by simp [Receiver.onHire, hav]] at this
    simpa using this
  have hp := hires_remove hl.slots hm
  rw [hnone] at hp
  -- the hires are those before and the new one
  have hnew : (s.hireFields n preset a :: hires s.register.slots).Perm
      (hires (Table.insert s.register.slots k (r.issued (s.hireFields n preset a)))) :=
    (List.Perm.cons _ hp).trans (hires_insert_some rfl).symm
  have hcore : ((((s.setSlot k (r.issued (s.hireFields n preset a))).setAccount n (a.out (s.depositFor a))).setTally
      (s.hire.tally.countIn preset))).HireLaw := by
    rw [State.hireLaw_iff]
    refine ⟨hsl, AccountsLaw.perm (AccountsLaw.add (h := s.hireFields n preset a) hacc ha hlim fun j => ?_) hnew,
      TallyLaw.perm (TallyLaw.countIn (h := s.hireFields n preset a) hta) hnew⟩
    exact account_setAccount (s.setSlot k (r.issued (s.hireFields n preset a))) n j _
  exact hcore.congr (by simp [State.issue]) (by simp [State.issue]) (by simp [State.issue])

theorem changePreset (h : s.HireLaw) {k : Nat} {r : Receiver} {x : HireFields} (hm : (k, r) ∈ s.register.slots)
    (hon : r.onHire = true) (hx : r.hire = some x) (lang : Nat) : (s.changePreset k r x lang).HireLaw := by
  have hsl : SlotsLaw (s.setSlot k { r with hire := some { x with preset := lang }, orphaned := false }).register.slots :=
    h.slotsLaw_setSlot hm rfl (by simpa [Receiver.onHire] using hon) (by simp)
  obtain ⟨hl, hacc, hta⟩ := (State.hireLaw_iff s).mp h
  have hp := hires_remove_some hl.slots hm hx
  have hnew := (hires_insert_some (x := s.register.slots) (k := k)
    (r := { r with hire := some { x with preset := lang }, orphaned := false }) rfl).symm
  rw [State.hireLaw_iff]
  exact ⟨hsl, (AccountsLaw.represet (h' := { x with preset := lang }) (hacc.perm hp) rfl rfl).perm hnew, ((hta.perm hp).move lang).perm hnew⟩

theorem leaveHire (h : s.HireLaw) {k : Nat} {r : Receiver} {x : HireFields} (hm : (k, r) ∈ s.register.slots)
    (hx : r.hire = some x) (way : Leaving) : (s.leaveHire k r x way).HireLaw := by
  have hoff : (r.offHire way.state).onHire = false := by cases way <;> rfl
  have hsl : SlotsLaw (s.setSlot k (r.offHire way.state)).register.slots :=
    h.slotsLaw_setSlot hm rfl (by rw [hoff]; rfl) (by simp [Receiver.offHire])
  obtain ⟨hl, hacc, hta⟩ := (State.hireLaw_iff s).mp h
  have hp := hires_remove_some hl.slots hm hx
  have hacc := hacc.perm hp
  obtain ⟨a, ha⟩ := Option.isSome_iff_exists.mp (hacc.named x List.mem_cons_self)
  have hnew : (hires (Table.remove s.register.slots k)).Perm
      (hires (Table.insert s.register.slots k (r.offHire way.state))) := (hires_insert_none rfl).symm
  have hcore : (((s.setSlot k (r.offHire way.state)).setAccount x.account
      ((s.settled r x way).back x.deposit)).setTally (s.hire.tally.countOut x.preset)).HireLaw := by
    rw [State.hireLaw_iff]
    refine ⟨hsl, (hacc.drop ha (charge := s.hireCharge r x way) fun j => ?_).perm hnew, ((hta.perm hp).countOut).perm hnew⟩
    have hset : s.settled r x way = a.settle x.deposit (s.hireCharge r x way) := by
      simp [State.settled, State.accountOf, ha]
    rw [← hset]
    exact account_setAccount (s.setSlot k (r.offHire way.state)) _ j _
  exact hcore.congr (by simp [State.leaveHire, State.setSlot]) (by simp [State.leaveHire, State.setAccount, State.setTally])
    (by simp [State.leaveHire, State.setTally])

end State.HireLaw

/-! ## Every act -/

theorem Act.hireLaw {x : Option Nat} {L : Prop} {s t : State} (a : Act x L s t) (h : s.HireLaw) : t.HireLaw := by
  cases a with
  | endSettle => exact h.endSettle
  | boundary => exact h.boundary
  | closeSitting => exact h.closeSitting
  | tickGrace => exact h.tickGrace
  | acctOpen new => exact h.acctOpen _ _ _ new
  | acctChange found change => exact h.acctChange found change
  | acctClose found out =>
    exact State.HireLaw.removeAccount (h.congr (by simp) (by simp) (by simp)) ((congrFun (by
      funext j; simp [State.account]) _).trans found) out
  | register new free => exact h.register _ new free
  | freeSlot found off => exact h.freeSlot (findSerial_some found).1 off
  | service found serial hire onHire orphaned => exact h.service found serial hire onHire orphaned
  | @found serial slot r found lost =>
    refine State.HireLaw.service (r := r) (h.congr (by simp) (by simp) (by simp)) (by
      simpa using (findSerial_some found).1) rfl rfl ?_ rfl
    simp [Receiver.onHire, lost]
  | issue found available account limit => exact h.issue (findSerial_some found).1 available account limit
  | changePreset found onHire hire => exact h.changePreset (findSerial_some found).1 onHire hire _
  | leaveHire found onHire hire => exact h.leaveHire (findSerial_some found).1 hire _
  | window | tariff | closeFinal | settle | acceptSwitch | announceEnd | lineMode | relaySet | handoverSet | start | announce =>
    exact h.congr rfl rfl rfl
  | @interpreter b d who =>
    rcases s.setInterpreter_cases b d who with ⟨-, hs⟩ | ⟨-, ⟨-, hs⟩ | ⟨c, -, hs⟩⟩ <;> rw [hs]
    · exact h
    · exact h.congr rfl rfl rfl
    · exact h.congr (by simp) (by simp) (by simp)
  | _ => exact h.congr (by simp) (by simp) (by simp)

/-! ## Every step -/

theorem State.HireLaw.alike {s t : State} (h : s.HireLaw) (ha : s.alike t) : t.HireLaw := by
  obtain ⟨_, _, _, _, _, _, rfl⟩ := ha
  exact h.congr rfl rfl rfl

theorem State.hireLaw_powered (s : State) (h d : Bool) : (s.powered h d).HireLaw := by
  rw [State.hireLaw_iff]
  exact ⟨⟨List.nodup_nil, List.nodup_nil, nofun, nofun⟩, ⟨nofun, nofun, nofun, nofun, nofun⟩, ⟨nofun, rfl, Nat.zero_le _⟩⟩

/-- Settles O58, act by act. -/
theorem hireLawKept : Obligations.HireLawKept := by
  intro s t hs h
  have halike : ∀ s t : State, s.alike t → s.HireLaw → t.HireLaw := fun s t ha hl => hl.alike ha
  exact step_keeps halike (exec_keeps_of_acts halike (fun s hi de _ => s.hireLaw_powered hi de)
    (fun s hl => hl.congr rfl rfl rfl) (fun s hl => hl.congr (t := s.setHeld false) rfl rfl rfl)
    fun x L s t a hl => a.hireLaw hl) hs h

end Sys2Proof.Machine
end

section
/-! O26: no booth relays its own channel. A resolution never gives a booth its own channel; between resolutions neither
the sources nor the plan change, and a plan taken ends every hold before it resolves. -/

namespace Sys2Proof.Machine

/-! ## The plan on air under the acts -/

theorem State.onAirBank_setBank {s : State} {k : Nat} {p : Bank} (h : (s.bank k).status ≠ .onAir)
    (h' : p.status ≠ .onAir) : (s.setBank k p).onAirBank = s.onAirBank := by
  unfold State.onAirBank
  congr 1
  funext j
  rw [State.bank_setBank]
  split
  · next hj => simp [hj, h, h']
  · rfl

theorem State.plan_setBank {s : State} {k : Nat} {p : Bank} (h : (s.bank k).status ≠ .onAir)
    (h' : p.status ≠ .onAir) : (s.setBank k p).plan = s.plan := by
  unfold State.plan
  rw [State.onAirBank_setBank h h']
  cases hb : s.onAirBank with
  | none => rfl
  | some j =>
    have hj : (s.bank j).status = .onAir := by
      have := List.find?_some hb
      simpa using this
    have hne : j ≠ k := fun he => h (he ▸ hj)
    simp [State.bank_setBank, hne]

theorem State.planChannel_of_plan {s t : State} (hp : t.plan = s.plan) (hs : t.straps = s.straps) (b : Nat) (o : Output) :
    t.planChannel b o = s.planChannel b o := by
  simp only [State.planChannel, State.planBooth, hp, State.boothEntry_congr hs]

theorem State.relayRec_source_congr {s t : State} (h : t.relay.booths = s.relay.booths) (b : Nat) :
    (t.relayRec b).source = (s.relayRec b).source := by
  simp only [State.relayRec, h]

/-- R20: a check leaves the bank on air as it is. -/
theorem Bank.checked_of_onAir {p : Bank} (h : p.status = .onAir) : { p with status := p.status.checked } = p := by
  obtain ⟨status, channels, booths, alloc⟩ := p
  cases h
  rfl

/-! ## A resolution -/

theorem State.ownChannel_iff (s : State) (b c : Nat) :
    s.ownChannel b c = true ↔ s.planChannel b .a = some c ∨ s.planChannel b .b = some c := by
  simp [State.ownChannel]

theorem State.planChannel_none {s : State} {b : Nat} (h : s.planBooth b = none) (o : Output) :
    s.planChannel b o = none := by
  simp [State.planChannel, h]

theorem State.walk_not_own {s : State} {ok : Nat → Bool} {b c : Nat} (h : s.walk ok b = some c) :
    s.ownChannel b c = false := by
  have := List.find?_some h
  simp only [Bool.and_eq_true, Bool.not_eq_true'] at this
  exact this.2

theorem State.layeredRec_not_own {s : State} {b c : Nat} (hn : (s.relayRec b).status ≠ .holding)
    (h : (s.layeredRec b).source = .channel c) : s.ownChannel b c = false := by
  cases hp : s.planBooth b with
  | none =>
    rw [State.layeredRec_absent hp] at h
    cases h
  | some e =>
    rw [State.layeredRec_placed hp hn] at h
    split at h
    · cases h
    · split at h
      · next hl =>
        cases h
        unfold State.layer1 at hl
        split at hl
        · exact State.walk_not_own hl
        · cases hl
      · next hl =>
        cases h
        unfold State.layer2 at hl
        split at hl
        · exact State.walk_not_own hl
        · cases hl
      · cases h

/-- R92, R94: a resolution gives a booth that is not held no channel of its own. -/
theorem State.resolvedRec_not_own {s : State} {b c : Nat} (hn : (s.relayRec b).status ≠ .holding)
    (h : (s.resolvedRec b).source = .channel c) : s.ownChannel b c = false := by
  unfold State.resolvedRec at h
  split at h
  · next f _ =>
    split at h
    · unfold State.fixedRec at h
      split at h
      · cases h
      · next hown =>
        have hc : c = f := by
          split at h
          · exact (Source.channel.inj h).symm
          · split at h <;> exact (Source.channel.inj h).symm
        rw [hc]
        simpa using hown
    · exact State.layeredRec_not_own hn h
  · exact State.layeredRec_not_own hn h

theorem State.resolvedRec_of_holding {s : State} {b : Nat} (hs : (s.relayRec b).status = .holding) :
    s.resolvedRec b = s.relayRec b ∨ s.planBooth b = none := by
  cases hp : s.planBooth b with
  | none => exact .inr rfl
  | some e => exact .inl (State.resolvedRec_held hp hs)

namespace State.OwnLaw

variable {s t : State}

theorem own_iff (s : State) : s.OwnLaw ↔
    (s.framer.state = .onAir → ∀ b c, (s.relayRec b).source = .channel c → s.ownChannel b c = false) := by
  unfold State.OwnLaw
  simp only [← Bool.not_eq_true, State.ownChannel_iff, not_or]

/-- A resolution establishes the law where booths in HOLDING and unknown booths keep it. -/
theorem of_resolve (hh : ∀ b c, (s.relayRec b).status = .holding ∨ b ∉ Config.boothNumbers →
    (s.relayRec b).source = .channel c → s.ownChannel b c = false) (hs : s.framer.state = .onAir) : s.resolve.OwnLaw := by
  rw [own_iff]
  intro _ b c hc
  have hown : s.resolve.ownChannel b c = s.ownChannel b c := by
    simp only [State.ownChannel, State.planChannel_congr (t := s.resolve) (s := s) (by simp) (by simp)]
  rw [hown]
  rw [State.resolve_relayRec] at hc
  split at hc
  · by_cases hst : (s.relayRec b).status = .holding
    · rcases State.resolvedRec_of_holding hst with he | hp
      · exact hh b c (.inl hst) (he ▸ hc)
      · simp [State.ownChannel, State.planChannel_none hp]
    · exact State.resolvedRec_not_own hst hc
  · next hb =>
    exact hh b c (.inr fun hm => hb ⟨s.onAir_iff.mpr hs, hm⟩) hc

/-- The law says nothing off air. -/
theorem of_offAir (h : s.framer.state ≠ .onAir) : s.OwnLaw := fun hs => absurd hs h

theorem congr (h : s.OwnLaw) (hf : t.framer.state = s.framer.state) (hp : t.plan = s.plan) (hst : t.straps = s.straps)
    (hr : ∀ b, (t.relayRec b).source = (s.relayRec b).source) : t.OwnLaw := by
  intro hs b c hc
  rw [State.planChannel_of_plan hp hst, State.planChannel_of_plan hp hst]
  exact h (hf ▸ hs) b c (hr b ▸ hc)

/-- The blocks that the law speaks of unchanged, but for records that keep their sources. -/
theorem congr_blocks (h : s.OwnLaw) (hf : t.framer.state = s.framer.state) (hb : t.banks = s.banks)
    (hst : t.straps = s.straps) (hr : ∀ b, (t.relayRec b).source = (s.relayRec b).source) : t.OwnLaw :=
  h.congr hf (State.plan_congr hb) hst hr

theorem resolve (h : s.OwnLaw) : s.resolve.OwnLaw := by
  by_cases hs : s.framer.state = .onAir
  · exact of_resolve (fun b c _ hc => (own_iff s).mp h hs b c hc) hs
  · exact of_offAir (by simpa using hs)

/-- Records rewritten with their sources kept. -/
theorem fill_source (f : Nat → RelayRec) (hf : ∀ b, (f b).source = (s.relayRec b).source) (b : Nat) :
    ((s.setRelay { s.relay with booths := Table.fill {} f Config.boothNumbers s.relay.booths }).relayRec b).source =
      (s.relayRec b).source := by
  have : (s.setRelay { s.relay with booths := Table.fill {} f Config.boothNumbers s.relay.booths }).relayRec b =
      if b ∈ Config.boothNumbers then f b else s.relayRec b := Table.fetch_fill _ _ _ _ _
  rw [this]
  split
  · exact hf b
  · rfl

theorem endHolds (h : s.OwnLaw) (which : Nat → Bool) : (s.endHolds which).OwnLaw :=
  h.congr_blocks rfl rfl rfl fun b => fill_source _ (fun x => by
    split
    · exact (State.RelaySound.unhold_eq _).1
    · rfl) b

theorem beginHolds (h : s.OwnLaw) (c : Nat) : (s.beginHolds c).OwnLaw :=
  h.congr_blocks rfl rfl rfl fun b => fill_source _ (fun x => by
    unfold RelayRec.holdOn
    split <;> rfl) b

theorem tickTimers (h : s.OwnLaw) : s.tickTimers.OwnLaw :=
  h.congr_blocks rfl rfl rfl fun b => fill_source (fun x => { s.relayRec x with timer := tickDown (s.relayRec x).timer })
    (fun _ => rfl) b

theorem productionStart (h : s.OwnLaw) (c p : Nat) : (s.productionStart c p).OwnLaw := by
  have hp : (s.setProducer c p).OwnLaw := h.congr_blocks rfl rfl rfl fun _ => rfl
  unfold State.productionStart
  split
  · exact (hp.endHolds _).resolve
  · exact hp

theorem productionStop (h : s.OwnLaw) (c : Nat) : (s.productionStop c).OwnLaw := by
  have hp : (s.clearProducer c).OwnLaw := h.congr_blocks rfl rfl rfl fun _ => rfl
  unfold State.productionStop
  split
  · exact (hp.beginHolds _).resolve
  · exact hp

theorem floorLanguage (h : s.OwnLaw) (code : Nat) : (s.floorLanguage code).OwnLaw := by
  have hp : (s.setRelay { s.relay with floorLang := code }).OwnLaw := h.congr_blocks rfl rfl rfl fun _ => rfl
  unfold State.floorLanguage
  split
  · exact (hp.endHolds _).resolve
  · exact hp

theorem unholdOne (h : s.OwnLaw) (b : Nat) (m : SourceMode) :
    (s.setRelayRec b { (s.relayRec b).unhold with mode := m }).OwnLaw :=
  h.congr_blocks rfl rfl rfl fun x => by
    rw [s.relayRec_setRelayRec b x { (s.relayRec b).unhold with mode := m }]
    split
    · next he => exact he ▸ (State.RelaySound.unhold_eq _).1
    · rfl

theorem grant (h : s.OwnLaw) (b d c : Nat) : (s.grant b d c).OwnLaw :=
  State.OwnLaw.productionStart (h.congr_blocks (by simp) (by simp) (by simp) (State.relayRec_source_congr (by simp))) _ _

theorem release (h : s.OwnLaw) (b c : Nat) (r : Reason) : (s.release b c r).OwnLaw :=
  State.OwnLaw.productionStop (h.congr_blocks (by simp) (by simp) (by simp) (State.relayRec_source_congr (by simp))) _

theorem passQueue (h : s.OwnLaw) (c : Nat) : (s.passQueue c).OwnLaw := by
  rcases s.passQueue_cases c with ⟨-, hs⟩ | ⟨e, rest, -, hs⟩ <;> rw [hs]
  · exact h
  · have hq : (s.setChan c { s.chan c with queue := rest }).OwnLaw := h.congr_blocks rfl rfl rfl fun _ => rfl
    exact hq.grant _ _ _

/-- A plan taken ends every hold before it resolves. -/
theorem planTaken (h : s.RelaySound) (hs : s.framer.state = .onAir) : s.planTaken.OwnLaw := by
  have hd : s.dropRamps.RelaySound := h.congr (fun _ => rfl) fun _ => rfl
  have hrec (b : Nat) : s.dropRamps.endAllHolds.carryOver.relayRec b = (s.relayRec b).unhold := by
    rw [State.relayRec, s.dropRamps.endAllHolds.carryOver_relayBooths.1]
    exact (hd.endHolds_relayRec _ b).trans (if_pos rfl)
  have hr : s.dropRamps.endAllHolds.carryOver.resolve.OwnLaw := by
    refine of_resolve (fun b c hb hc => ?_) (by simpa using hs)
    rw [hrec] at hb hc
    rcases hb with hb | hb
    · exact absurd hb (State.RelaySound.unhold_eq _).2.2.2.1
    · rw [h.rec_of_not_mem hb] at hc
      cases hc
  exact hr.congr_blocks (by simp [State.planTaken]) (by simp [State.planTaken]) (by simp [State.planTaken])
    (State.relayRec_source_congr (by simp [State.planTaken]))

theorem boundary (h : s.OwnLaw) (hl : s.RelayLaw) (hs : s.framer.state = .onAir) : s.boundary.OwnLaw := by
  rcases s.boundary_cases with ⟨k, -, -, hb⟩ | ⟨-, hb⟩ <;> rw [hb]
  · refine planTaken (hl.sound.congr (fun b => ?_) fun b => ?_) hs
    · exact State.relayRec_congr (by simp) b
    · simp [State.feedSource, State.beginFrame, State.fixFeeds, State.advanceRamps]
  · exact h.congr_blocks rfl rfl rfl fun _ => rfl

end State.OwnLaw

/-! ## Every act -/

theorem Act.ownLaw {x : Option Nat} {L : Prop} {s t : State} (a : Act x L s t) (hpl : s.PlanLaw) (hrl : s.RelayLaw)
    (h : s.OwnLaw) : t.OwnLaw := by
  have hne {st : BankStatus} (he : st.editable = true) : st ≠ .onAir := fun hs => by rw [hs] at he; cases he
  cases a with
  | edit number editable status =>
    exact h.congr rfl (State.plan_setBank (hne editable) (hne status)) rfl fun _ => rfl
  | @check k number =>
    by_cases hk : (s.bank k).status = .onAir
    · refine h.congr rfl ?_ rfl fun _ => rfl
      have hb : (s.setBank k { s.bank k with status := (s.bank k).status.checked }).bank = s.bank := by
        funext j
        rw [State.bank_setBank]
        split
        · next hj => subst hj; exact Bank.checked_of_onAir hk
        · rfl
      simp only [State.plan, State.onAirBank, hb]
    · refine h.congr rfl (State.plan_setBank hk fun hc => hk ?_) rfl fun _ => rfl
      revert hc
      cases (s.bank k).status <;> simp [BankStatus.checked]
  | start => exact State.OwnLaw.of_offAir nofun
  | abandonStart => exact State.OwnLaw.of_offAir nofun
  | stop =>
    refine State.OwnLaw.of_offAir fun hs => ?_
    simp [State.stop, State.stopFramer] at hs
  | settle starting => exact State.OwnLaw.of_offAir (by simp [starting])
  | closeFinal => exact h.congr_blocks rfl rfl rfl fun _ => rfl
  | endSettle => exact State.OwnLaw.planTaken (hrl.sound.congr (fun _ => rfl) fun _ => rfl) rfl
  | @acceptSwitch k number onAir free other =>
    have hk : (s.bank k).status ≠ .onAir := fun he => other ((hpl.onAirBank_iff k).mpr he)
    exact h.congr rfl ((State.plan_congr (s := s.commitBank k .pending) rfl).trans (State.plan_setBank hk (by simp))) rfl
      fun _ => rfl
  | boundary onAir => exact h.boundary hrl onAir
  | grant => exact h.grant _ _ _
  | passQueue => exact h.passQueue _
  | release => exact h.release _ _ _
  | setSource => exact (h.unholdOne _ _).resolve
  | @holdExpired b =>
    have hu := h.unholdOne b (s.relayRec b).mode
    rw [← (State.RelaySound.unhold_eq (s.relayRec b)).2.2.1] at hu
    exact hu.resolve
  | floorLanguage => exact h.floorLanguage _
  | tickTimers => exact h.tickTimers
  | @interpreter b d who =>
    rcases s.setInterpreter_cases b d who with ⟨-, hs⟩ | ⟨-, ⟨-, hs⟩ | ⟨c, -, hs⟩⟩ <;> rw [hs]
    · exact h
    · exact h.congr_blocks rfl rfl rfl fun _ => rfl
    · exact h.congr_blocks (by simp) (by simp) (by simp) (State.relayRec_source_congr (by simp))
  | issue =>
    exact h.congr_blocks (by simp [State.issue, State.setTally]) (by simp [State.issue, State.setTally])
      (by simp [State.issue, State.setTally]) (State.relayRec_source_congr (by simp [State.issue, State.setTally]))
  | announce | announceEnd | lineMode | relaySet | window | freeSlot | changePreset | handoverSet =>
    exact h.congr_blocks rfl rfl rfl fun _ => rfl
  | _ => exact h.congr_blocks (by simp) (by simp) (by simp) (State.relayRec_source_congr (by simp))

/-! ## Every step -/

theorem State.OwnLaw.alike {s t : State} (h : s.OwnLaw) (ha : s.alike t) : t.OwnLaw := by
  obtain ⟨_, _, _, _, _, _, rfl⟩ := ha
  exact h.congr_blocks rfl rfl rfl fun _ => rfl

/-- Settles O26: the law together with the plan's and the relay records' laws, act by act. -/
theorem ownChannelNeverRelayed : Obligations.OwnChannelNeverRelayed := by
  intro s t hpl _ hrl _ ho h
  have halike : ∀ s t : State, s.alike t → s.PlanLaw ∧ s.RelayLaw ∧ s.OwnLaw → t.PlanLaw ∧ t.RelayLaw ∧ t.OwnLaw :=
    fun s t ha hl => ⟨hl.1.congr (State.alike_plan ha).1 (State.alike_plan ha).2, hl.2.1.alike ha, hl.2.2.alike ha⟩
  have hstep := step_keeps halike (exec_keeps_of_acts halike
    (fun s hi de _ => ⟨s.planLaw_powered hi de, s.relayLaw_powered hi de, State.OwnLaw.of_offAir nofun⟩)
    (fun s hl => ⟨hl.1.pinReset, s.relayLaw_pinReset, State.OwnLaw.of_offAir nofun⟩)
    (fun s hl => ⟨hl.1.congr rfl rfl, hl.2.1.congr (t := s.setHeld false) rfl rfl rfl,
      hl.2.2.congr_blocks (t := s.setHeld false) rfl rfl rfl fun _ => rfl⟩)
    fun x L s t a hl => ⟨a.planLaw hl.1, a.relayLaw hl.2.1, a.ownLaw hl.1 hl.2.1 hl.2.2⟩) ⟨hpl, hrl, ho⟩ h
  exact hstep.2.2

end Sys2Proof.Machine
end

section
/-! Resets and the shape of every answer: O3, O4, O5, O60, with the settings requests (O22), the ramps' gains (O21), the
language list (O46) and the refusals of desk requests (O38). -/

namespace Sys2Proof.Machine

open Sys2Proof

/-! ## Resets -/

/-- Settles O60, law by law. -/
theorem lawsAtReset : Obligations.LawsAtReset := by
  have hall (s : State) (h d : Bool) : (s.powered h d).journal.Law ∧ (s.powered h d).PlanLaw ∧ (s.powered h d).MicLaw ∧
      (s.powered h d).RelayLaw ∧ (s.powered h d).TurnLaw ∧ (s.powered h d).HireLaw ∧ (s.powered h d).TablesLaw ∧
      (s.powered h d).OwnLaw :=
    ⟨Journal.law_empty, s.planLaw_powered h d, s.micLaw_powered h d, s.relayLaw_powered h d, s.turnLaw_powered h d,
      s.hireLaw_powered h d, s.tablesLaw_powered h d, State.OwnLaw.of_offAir nofun⟩
  exact ⟨fun h d s => ⟨_, rfl, hall s h d⟩, hall State.reset false false⟩

/-- Settles O3: the powered state, record by record. -/
theorem powerOnValues : Obligations.PowerOnValues := by
  refine ⟨fun h d s => ⟨s.powered h d, rfl, ?_⟩, rfl⟩
  refine ⟨rfl, rfl, rfl, fun k => ⟨rfl, rfl, fun _ => rfl, fun _ => rfl⟩, rfl, fun _ => rfl, fun _ => ⟨rfl, rfl⟩, rfl, rfl,
    fun _ _ => rfl, fun _ => rfl, fun _ => rfl, rfl, rfl, fun _ => rfl, fun _ => rfl, rfl, rfl, fun _ => rfl, fun _ => rfl,
    rfl, rfl, fun _ => rfl, rfl, fun _ => rfl, rfl, rfl, rfl, rfl, rfl, rfl, rfl⟩

/-- R7: a bank taken off air: unlocked where it was locked. -/
theorem Bank.offAir_eq (p : Bank) : p.offAir =
    if p.status = .pending ∨ p.status = .onAir then { p with status := .valid, alloc := none } else p := by
  unfold Bank.offAir
  cases h : p.status <;> simp [BankStatus.editable, Bank.retired]

theorem State.retireBanks_taken (s : State) {k : Nat} (hk : k ∈ Config.bankNumbers) : s.retireBanks.bank k =
    if (s.bank k).status = .pending ∨ (s.bank k).status = .onAir then { s.bank k with status := .valid, alloc := none }
    else s.bank k := by
  rw [State.retireBanks_bank, if_pos hk, Bank.offAir_eq]

/-- Settles O4. -/
theorem resetPinClearsLiveKeepsStored : Obligations.ResetPinClearsLiveKeepsStored := by
  intro s
  refine ⟨⟨s.pinReset, rfl, ?_, fun k hk => s.retireBanks_taken hk, fun k hk => ?_, rfl, rfl, fun _ _ => rfl, fun _ => rfl,
    fun _ => rfl, rfl, rfl, rfl, ⟨_, rfl, ?_⟩, rfl⟩, ⟨_, rfl, ?_, rfl⟩⟩
  · rw [State.onlyChanges_iff]
    simp [State.pinReset]
  · exact (s.retireBanks_bank k).trans (if_neg hk)
  · simp
  · rw [State.onlyChanges_iff]
    simp

/-! ## One answer on its link -/

/-- R188: what an answer does to the links. -/
theorem State.answered_post {s u : State} (h : u.links.wire = s.links.wire) (l : Link) (a : Answer) :
    s.answered (u.post l a) a l := by
  simp only [Links.wire, Prod.mk.injEq] at h
  obtain ⟨hcon, hcou, hdesk⟩ := h
  cases l with
  | console =>
    refine ⟨rfl, rfl, ?_, rfl, rfl, rfl, hcou, hdesk⟩
    have := Nat.mod_lt (Config.answerDelay u.freeIndex) (show 0 < 3 by omega)
    show Config.answerDelay u.freeIndex % 3 ≤ 2
    omega
  | counter =>
    refine ⟨?_, hcon, hdesk⟩
    rw [← hcou]
    rfl
  | desk =>
    refine ⟨?_, hcon, hcou⟩
    rw [← hdesk]
    rfl

/-- What a request's rule does leaves every wire alone. -/
theorem Instr.rule_wire {i : Instr} {s : State} (h : firstBad (i.checks s) 1 = none) :
    (i.rule s).st.links.wire = s.links.wire := by
  obtain ⟨x, ha, -⟩ := rule_acts_moving ((firstBad_none_iff _ _).mp h)
  exact Acts.keeps (P := fun u => u.links.wire = s.links.wire) (fun _ _ a hw => a.frame.2.2.2.2.trans hw) ha rfl

theorem State.uartOpen_iff (s : State) (l : UartLink) :
    s.uartOpen l = true ↔ s.resetHeld = false ∧ (s.uart l).fifo.length < 4 := by
  unfold State.uartOpen
  rw [Bool.and_eq_true, decide_eq_true_iff, Bool.not_eq_true']
  rfl

/-- Settles O5 by the shape of every request. -/
theorem requestAnsweredOnceOnItsLink : Obligations.RequestAnsweredOnceOnItsLink := by
  refine ⟨fun i r s hr => ⟨fun hrec => ?_, fun hrec => exec_not_received hr hrec⟩, fun s => ?_⟩
  · obtain ⟨u, code, fields, hx, hu⟩ := exec_received hr hrec
    refine ⟨_, code, fields, hx, State.answered_post ?_ _ _⟩
    rcases hu with rfl | ⟨rfl, hbad⟩
    · rfl
    · exact Instr.rule_wire hbad
  · exact ⟨by simp [State.receives], s.uartOpen_iff .counter, s.uartOpen_iff .desk⟩

/-! ## Rules given as a reply -/

/-- An accepted request whose rule gives a reply is answered by that reply. -/
theorem exec_reply {i : Instr} {r : Request} {s : State} (hr : i.request = some r) (h : s.accepts i) {t : State}
    {code : AnswerCode} {fields : List Field} (hrule : i.rule s = ⟨t, code, fields⟩) :
    exec i s = .next (t.post r.link ⟨r.code, code, fields⟩) := by
  rw [exec_accepted hr h, hrule]

theorem clamp_zero (high n : Nat) : clamp 0 high n = min high n := by simp [clamp]

/-- Settles O22. -/
theorem settingsStoredClamped : Obligations.SettingsStoredClamped := by
  intro s hrec
  refine ⟨fun ramp offer => ?_, fun hold => ?_, fun minutes => ?_, fun mode hm => ?_⟩
  · refine ⟨s.setMixer { s.mixer with rampLength := min 50 ramp, offerTimeout := min 120 (max 5 offer) },
      exec_reply (i := .handoverSet ramp offer) rfl (accepts_of_receives rfl hrec rfl) ?_, ?_, rfl⟩
    · simp [Instr.rule, clamp]
    · rw [State.onlyChanges_iff]
      simp
  · refine ⟨s.setRelay { s.relay with hold := min 30 hold },
      exec_reply (i := .relaySet hold) rfl (accepts_of_receives rfl hrec rfl) ?_, ?_, rfl⟩
    · simp [Instr.rule, clamp]
    · rw [State.onlyChanges_iff]
      simp
  · refine ⟨s.setMeter { s.meter with graceSetting := min 240 minutes },
      exec_reply (i := .returnGrace minutes) rfl (accepts_of_receives rfl hrec rfl) ?_, ?_, rfl⟩
    · simp [Instr.rule, clamp]
    · rw [State.onlyChanges_iff]
      simp
  · have hacc : s.accepts (.lineMode mode) := ⟨fun r hr => by cases hr; exact hrec, fun q hq => by
      rw [List.mem_singleton.mp hq]
      exact hm⟩
    refine ⟨_, exec_reply (i := .lineMode mode) rfl hacc rfl, ?_, ?_⟩
    · rw [State.onlyChanges_iff]
      simp
    · rcases mode with _ | _ | _ | n
      · rfl
      · rfl
      · rfl
      · omega

/-! ## Ramps -/

theorem mul_div_le_of_le {g k F : Nat} (hF : 0 < F) (hk : k ≤ F) : g * k / F ≤ g :=
  Nat.div_le_of_le_mul (by rw [Nat.mul_comm F g]; exact Nat.mul_le_mul_left g hk)

/-- Settles O21. -/
theorem rampGainsStayWithinFullScale : Obligations.RampGainsStayWithinFullScale := by
  intro r hF hk hg
  have hin : r.inGain ≤ 256 := mul_div_le_of_le hF hk
  have hout : r.g0 * r.k / r.len ≤ r.g0 := mul_div_le_of_le hF hk
  -- 256 k is g0 k and at most (256 - g0) F more
  have hsum : r.inGain + r.outGain ≤ 256 := by
    have hsplit : 256 * r.k ≤ r.g0 * r.k + (256 - r.g0) * r.len := by
      have hle := Nat.mul_le_mul_left (256 - r.g0) hk
      have heq : 256 * r.k = r.g0 * r.k + (256 - r.g0) * r.k := by
        rw [← Nat.add_mul, Nat.add_sub_cancel' hg]
      omega
    have hdiv := Nat.div_le_div_right (c := r.len) hsplit
    rw [Nat.add_mul_div_right _ _ hF] at hdiv
    unfold Ramp.inGain Ramp.outGain
    omega
  refine ⟨rfl, rfl, hin, Nat.sub_le _ _, hsum, fun h => ?_, fun h => ?_, fun h => ?_, fun k' hk' hle => ⟨?_, ?_⟩⟩
  · unfold Ramp.inGain Ramp.outGain at *
    rw [h] at hout ⊢
    omega
  · simp [Ramp.inGain, Ramp.outGain, h]
  · simp [Ramp.inGain, Ramp.outGain, h, Nat.mul_div_cancel _ hF]
  · exact Nat.div_le_div_right (Nat.mul_le_mul_left _ hk')
  · exact Nat.sub_le_sub_left (Nat.div_le_div_right (Nat.mul_le_mul_left _ hk')) _

/-! ## The language list -/

theorem Bank.carries_iff (p : Bank) (lang : Nat) : p.carries lang = true ↔
    ∃ c ∈ Config.channelNumbers, (p.channel c).enabled = true ∧ (p.channel c).lang = lang := by
  simp [Bank.carries, Bank.enabledChannels, and_assoc]

/-- Settles O46: the plan on air is the one ON_AIR bank; in STANDBY there is none. -/
theorem languageList : Obligations.LanguageList := by
  intro s lang h
  unfold State.inLanguageList
  rw [Bool.or_eq_true, decide_eq_true_eq]
  refine or_congr_right ?_
  cases hp : s.onAirBank with
  | some j =>
    have hj : (s.bank j).status = .onAir := (h.onAirBank_iff j).mp hp
    have hmem : j ∈ Config.bankNumbers := h.number_of_status (by simp [hj])
    have hns : s.framer.state ≠ .standby := fun hs => h.standby hs j hj
    have hplan : s.plan = some (s.bank j) := by simp [State.plan, hp]
    simp only [hplan, Bank.carries_iff]
    constructor
    · rintro ⟨c, hc, he⟩
      exact ⟨j, hmem, c, hc, .inl hj, he⟩
    · rintro ⟨k, -, c, hc, hk | ⟨hs, -⟩, he⟩
      · have hkj : some k = some j := ((h.onAirBank_iff k).mpr hk).symm.trans hp
        cases hkj
        exact ⟨c, hc, he⟩
      · exact absurd hs hns
  | none =>
    have hs : s.framer.state = .standby := by
      by_contra hne
      obtain ⟨k, hk⟩ := h.exists_onAirBank hne
      rw [hp] at hk
      cases hk
    have hplan : s.plan = none := by simp [State.plan, hp]
    simp only [hplan, List.any_eq_true, Bool.and_eq_true, decide_eq_true_eq, Bank.carries_iff]
    constructor
    · rintro ⟨k, hk, hv, c, hc, he⟩
      exact ⟨k, hk, c, hc, .inr ⟨hs, hv⟩, he⟩
    · rintro ⟨k, hk, c, hc, hon | ⟨-, hv⟩, he⟩
      · exact absurd hon (h.standby hs k)
      · exact ⟨k, hk, hv, c, hc, he⟩

/-! ## Desk requests -/

/-- R59: what it means that the plan on air has a desk in use. -/
theorem State.deskInUse_iff (s : State) (b d : Nat) :
    s.deskInUse b d = true ↔ ∃ e, s.planBooth b = some e ∧ d ≤ e.desksInUse := by
  unfold State.deskInUse
  cases s.planBooth b <;> simp

/-- Every desk request but POLL has R63's rule. -/
theorem Instr.rule_desk {i : Instr} {r : Request} {b d : Nat} {more : List Nat} (hr : i.request = some r)
    (hl : r.link = .desk) (hc : r.code ≠ Code.poll) (hp : r.params = b :: d :: more) :
    ∃ rule, ∀ s, i.rule s = deskRule b d rule s := by
  cases i <;> cases hr
  case rxQuery l _ => cases l <;> cases hl
  case acctQuery l _ => cases l <;> cases hl
  case flagsRead l => cases l <;> cases hl
  case flagsClear l _ => cases l <;> cases hl
  case maskSet l _ => cases l <;> cases hl
  case poll => exact absurd rfl hc
  case micOn | micOff | output | coughOn | coughOff | signOn | signOff | source =>
    cases hp
    exact ⟨_, fun _ => rfl⟩
  all_goals cases hl

theorem deskRule_offAir {s : State} (b d : Nat) (rule : State → Claim) (h : s.framer.state ≠ .onAir) :
    deskRule b d rule s = ⟨s, .notOnAir, [f1 (s.lamp b d).code]⟩ := by
  have : s.onAir = false := by simpa [State.onAir] using h
  simp [deskRule, this, withLamp]

theorem deskRule_badDesk {s : State} {b d : Nat} (rule : State → Claim) (h : s.framer.state = .onAir)
    (hd : s.deskInUse b d = false) : deskRule b d rule s = ⟨s, .badDesk, [f1 (s.lamp b d).code]⟩ := by
  have : s.onAir = true := s.onAir_iff.mpr h
  simp [deskRule, this, hd, withLamp]

theorem deskRule_taken {s : State} {b d : Nat} (rule : State → Claim) (h : s.framer.state = .onAir)
    (hd : s.deskInUse b d = true) : deskRule b d rule s = withLamp b d (rule s) := by
  have : s.onAir = true := s.onAir_iff.mpr h
  simp [deskRule, this, hd]

/-- Settles O38. -/
theorem deskRequestsRefusedOffAir : Obligations.DeskRequestsRefusedOffAir := by
  intro s i r b d more hr hl hc hp hacc
  obtain ⟨rule, hrule⟩ := Instr.rule_desk hr hl hc hp
  refine ⟨fun hs => ?_, fun hs hd => ?_⟩
  · rw [exec_reply hr hacc ((hrule s).trans (deskRule_offAir b d rule hs)), hl]
  · have hno : s.deskInUse b d = false := by
      rw [← Bool.not_eq_true, State.deskInUse_iff]
      rintro ⟨e, he, hle⟩
      exact absurd hle (Nat.not_le.mpr (hd e he))
    rw [exec_reply hr hacc ((hrule s).trans (deskRule_badDesk rule hs hno)), hl]

end Sys2Proof.Machine
end

section
/-! Channel plans: edits (O8), BANK_CHECK (O10), START and SWITCH (O12). -/

namespace Sys2Proof.Machine

open Sys2Proof

/-! ## Edits -/

theorem BankStatus.editable_iff (x : BankStatus) : x.editable = true ↔ x ≠ .pending ∧ x ≠ .onAir := by
  cases x <;> simp [BankStatus.editable]

theorem editBank_taken {s : State} {k : Nat} (hp : (s.bank k).status ≠ .pending) (ha : (s.bank k).status ≠ .onAir)
    (p : Bank) : editBank k s p = ⟨s.setBank k p, .done, []⟩ := by
  unfold editBank
  rw [if_pos ((BankStatus.editable_iff _).mpr ⟨hp, ha⟩)]

theorem editBank_locked {s : State} {k : Nat} (h : (s.bank k).status = .pending ∨ (s.bank k).status = .onAir)
    (p : Bank) : editBank k s p = ⟨s, .bankLocked, []⟩ := by
  unfold editBank
  rw [if_neg fun he => ?_]
  rw [BankStatus.editable_iff] at he
  exact h.elim he.1 he.2

/-- A bank written alone. -/
theorem State.setBank_frame (s : State) (k : Nat) (p : Bank) :
    s.onlyChanges (s.setBank k p) [.banks] ∧ (∀ j, j ≠ k → (s.setBank k p).bank j = s.bank j) ∧
      (s.setBank k p).bank k = p := by
  refine ⟨?_, fun j hj => by rw [State.bank_setBank, if_neg hj], by rw [State.bank_setBank, if_pos rfl]⟩
  rw [State.onlyChanges_iff]
  simp

theorem Bank.channel_store (p : Bank) (st : BankStatus) (c x : Nat) (e : ChannelEntry) :
    Bank.channel { p with status := st, channels := Table.store {} p.channels c e } x =
      if x = c then e else p.channel x :=
  Table.fetch_store _ _ _ _ _

theorem State.boothEntry_store (s : State) (p : Bank) (st : BankStatus) (b x : Nat) (e : BoothEntry) :
    s.boothEntry { p with
      status := st, booths := Table.store (BoothEntry.cleared s.desksPerBooth) p.booths b e } x =
      if x = b then e else s.boothEntry p x :=
  Table.fetch_store _ _ _ _ _

/-- Settles O8. -/
theorem planEditsTaken : Obligations.PlanEditsTaken := by
  refine ⟨fun s k hp ha => ⟨fun c enabled lang quality fill hacc => ?_,
    fun b present ca cb n c1 c2 c3 c4 desks hacc => ?_, fun hacc => ?_, fun j hacc => ?_⟩, fun s k hl => ⟨?_, ?_, ?_, ?_⟩⟩
  · obtain ⟨hf, ho, hk⟩ := s.setBank_frame k { s.bank k with
      status := .edited, channels := Table.store {} (s.bank k).channels c (ChannelEntry.ofParams enabled lang quality fill) }
    refine ⟨_, exec_reply rfl hacc (editBank_taken hp ha _), hf, ho, ?_⟩
    rw [hk]
    exact ⟨rfl, fun x => Bank.channel_store _ _ _ _ _, rfl, rfl⟩
  · obtain ⟨hf, ho, hk⟩ := s.setBank_frame k { s.bank k with
      status := .edited
      booths := Table.store (BoothEntry.cleared s.desksPerBooth) (s.bank k).booths b
        (BoothEntry.ofParams present ca cb ([c1, c2, c3, c4].take n) desks) }
    refine ⟨_, exec_reply rfl hacc (editBank_taken hp ha _), hf, ho, ?_⟩
    rw [hk]
    exact ⟨rfl, fun x => s.boothEntry_store _ _ _ _ _, rfl, rfl⟩
  · obtain ⟨hf, ho, hk⟩ := s.setBank_frame k {}
    refine ⟨_, exec_reply rfl hacc (editBank_taken hp ha _), hf, ho, ?_⟩
    rw [hk]
    exact ⟨rfl, rfl, fun _ => rfl, fun _ => rfl⟩
  · obtain ⟨hf, ho, hk⟩ := s.setBank_frame k (s.bank j).copy
    refine ⟨_, exec_reply rfl hacc (editBank_taken hp ha _), hf, ho, ?_⟩
    rw [hk]
    exact ⟨fun h => by simp [Bank.copy, h], fun h => by simp [Bank.copy, h]⟩
  · exact fun c enabled lang quality fill hacc => exec_reply rfl hacc (editBank_locked hl _)
  · exact fun b present ca cb n c1 c2 c3 c4 desks hacc => exec_reply rfl hacc (editBank_locked hl _)
  · exact fun hacc => exec_reply rfl hacc (editBank_locked hl _)
  · exact fun j hacc => exec_reply rfl hacc (editBank_locked hl _)

/-! ## BANK_CHECK -/

theorem BankStatus.checked_eq (x : BankStatus) : x.checked = if x = .pending ∨ x = .onAir then x else .valid := by
  cases x <;> rfl

/-- Settles O10. -/
theorem bankCheckVerdict : Obligations.BankCheckVerdict := by
  intro s k hacc
  refine ⟨fun code fields hv => exec_reply rfl hacc ?_, fun hv => ?_⟩
  · simp [Instr.rule, bankCheckReply, hv]
  · obtain ⟨hf, ho, hk⟩ := s.setBank_frame k { s.bank k with status := (s.bank k).status.checked }
    refine ⟨_, exec_reply (i := .bankCheck k) rfl hacc (t := s.setBank k { s.bank k with
      status := (s.bank k).status.checked }) ?_, hf, ho, ?_⟩
    · simp only [Instr.rule, bankCheckReply, hv]
      rfl
    · rw [hk, BankStatus.checked_eq]

/-! ## START and SWITCH -/

theorem State.onAirBank_ne {s : State} {k : Nat} (h : (s.bank k).status ≠ .onAir) : s.onAirBank ≠ some k := by
  intro he
  have := List.find?_some he
  exact h (by simpa using this)

/-- Settles O12. -/
theorem startAndSwitchCommitABank : Obligations.StartAndSwitchCommitABank := by
  refine ⟨fun s k hv => ⟨fun hacc hs => ?_, fun hacc hs hp hk => ?_⟩, fun s k => ⟨fun hacc => ⟨fun hs => ?_, ?_⟩,
    fun hacc => ⟨fun hs => ?_, fun hs => ⟨fun j hj => ?_, fun hp => ⟨fun hl hk => ?_, fun hk code fields hv => ?_⟩⟩⟩⟩⟩
  · obtain ⟨hf, ho, hb⟩ := s.setBank_frame k { s.bank k with
      status := .onAir, alloc := some (s.allocation (s.bank k)) }
    refine ⟨(s.commitBank k .onAir).beginSettle, exec_reply (i := .start k) rfl hacc ?_, ?_, ho, hb, rfl⟩
    · simp only [Instr.rule, startReply, hs, hv]
      rfl
    · rw [State.onlyChanges_iff]
      simp [State.beginSettle, State.commitBank]
  · obtain ⟨hf, ho, hb⟩ := s.setBank_frame k { s.bank k with
      status := .pending, alloc := some (s.allocation (s.bank k)) }
    have hon : s.onAir = true := s.onAir_iff.mpr hs
    refine ⟨s.acceptSwitch k, exec_reply (i := .switch k) rfl hacc ?_, ?_, ho, hb, rfl⟩
    · simp only [Instr.rule, switchReply, hon, hp, hv, State.onAirBank_ne hk]
      rfl
    · rw [State.onlyChanges_iff]
      simp [State.acceptSwitch, State.commitBank]
  · exact exec_reply (i := .start k) rfl hacc (by simp [Instr.rule, startReply, hs])
  · exact fun hs code fields hv => exec_reply (i := .start k) rfl hacc (by simp [Instr.rule, startReply, hs, hv])
  · have hon : s.onAir = false := by simpa [State.onAir] using hs
    exact exec_reply (i := .switch k) rfl hacc (by simp [Instr.rule, switchReply, hon])
  · have hon : s.onAir = true := s.onAir_iff.mpr hs
    exact exec_reply (i := .switch k) rfl hacc (by simp [Instr.rule, switchReply, hon, hj])
  · have hon : s.onAir = true := s.onAir_iff.mpr hs
    exact exec_reply (i := .switch k) rfl hacc (by
      simp [Instr.rule, switchReply, hon, hp, (hl.onAirBank_iff k).mpr hk])
  · have hon : s.onAir = true := s.onAir_iff.mpr hs
    exact exec_reply (i := .switch k) rfl hacc (by
      simp [Instr.rule, switchReply, hon, hp, State.onAirBank_ne hk, hv])

end Sys2Proof.Machine
end

section
/-! Validation: each of conditions 1 to 8 finds the first channel or booth that breaks it (O9). -/

namespace Sys2Proof.Machine

open Sys2Proof

/-- What the check of condition `n` gives: nothing where it is met, else a reason of the condition and, but for condition
1, the lowest channel or booth that breaks it. -/
structure State.Reports (s : State) (p : Bank) (n : Nat) (o : Option PlanFault) : Prop where
  none_iff : o = none ↔ s.meets p n
  condition : ∀ f, o = some f → f.1.condition = n
  first : ∀ f, o = some f → n = 1 → f.2 = none
  item : ∀ f, o = some f → n ≠ 1 → ∃ x ∈ Config.channelNumbers, f.2 = some x ∧ s.breaks p x n ∧
    (∀ y ∈ Config.channelNumbers, y < x → ¬ s.breaks p y n) ∧
    (n = 4 → (f.1 = .aNotEnabled ↔ ∀ c, (s.boothEntry p x).a = some c → (p.channel c).enabled = false))

/-- The first number with a property: no lower one has it. -/
theorem find?_channelNumbers {B : Nat → Bool} {x : Nat} (h : Config.channelNumbers.find? B = some x) :
    x ∈ Config.channelNumbers ∧ B x = true ∧ ∀ y ∈ Config.channelNumbers, y < x → B y = false := by
  obtain ⟨hx, before, after, heq, hbefore⟩ := List.find?_eq_some_iff_append.mp h
  have hsorted : Config.channelNumbers.Pairwise (· < ·) := List.pairwise_lt_range'
  refine ⟨List.mem_of_find?_eq_some h, hx, fun y hy hlt => ?_⟩
  rw [heq] at hy hsorted
  rcases List.mem_append.mp hy with hy | hy
  · simpa using hbefore y hy
  · rcases List.mem_cons.mp hy with rfl | hy
    · omega
    · have := (List.pairwise_cons.mp (List.pairwise_append.mp hsorted).2.1).1 y hy
      omega

theorem find?_filter_and (l : List Nat) (p q : Nat → Bool) :
    (l.filter p).find? q = l.find? fun a => p a && q a := by
  induction l with
  | nil => rfl
  | cons a l ih => cases hp : p a <;> simp [hp, ih, List.find?_cons]

/-- A check that looks for the first number breaking its condition. -/
theorem State.reports_find {s : State} {p : Bank} {n : Nat} {B : Nat → Bool} (reason : PlanReason)
    (hB : ∀ x ∈ Config.channelNumbers, B x = true ↔ s.breaks p x n) (hr : reason.condition = n) (h1 : n ≠ 1)
    (h4 : n ≠ 4) : s.Reports p n ((Config.channelNumbers.find? B).map fun x => (reason, some x)) where
  none_iff := by
    unfold State.meets
    rw [if_neg h1, Option.map_eq_none_iff, List.find?_eq_none]
    exact forall₂_congr fun x hx => not_congr (hB x hx)
  condition f hf := by
    obtain ⟨x, -, rfl⟩ := Option.map_eq_some_iff.mp hf
    exact hr
  first f hf hn := absurd hn h1
  item f hf _ := by
    obtain ⟨x, hx, rfl⟩ := Option.map_eq_some_iff.mp hf
    obtain ⟨hm, hb, hl⟩ := find?_channelNumbers hx
    exact ⟨x, hm, rfl, (hB x hm).mp hb, fun y hy hlt => by rw [← hB y hy, hl y hy hlt]; simp, fun hn => absurd hn h4⟩

/-! ## The eight conditions -/

theorem Bank.mem_enabledChannels (p : Bank) (c : Nat) :
    c ∈ p.enabledChannels ↔ c ∈ Config.channelNumbers ∧ (p.channel c).enabled = true := List.mem_filter

theorem State.mem_presentBooths (s : State) (p : Bank) (b : Nat) :
    b ∈ s.presentBooths p ↔ b ∈ Config.boothNumbers ∧ (s.boothEntry p b).present = true := List.mem_filter

theorem State.reports_noChannel (s : State) (p : Bank) : s.Reports p 1 p.failNoChannel where
  none_iff := by
    have hne : p.enabledChannels ≠ [] ↔ ∃ c ∈ Config.channelNumbers, (p.channel c).enabled = true := by
      exact ⟨fun h => (List.exists_mem_of_ne_nil _ h).imp fun c hc => (p.mem_enabledChannels c).mp hc,
        fun ⟨c, hc, he⟩ => List.ne_nil_of_mem ((p.mem_enabledChannels c).mpr ⟨hc, he⟩)⟩
    unfold Bank.failNoChannel State.meets
    rw [if_pos rfl, ← hne]
    split
    · next h => simp [h]
    · next h => exact iff_of_true rfl h
  condition f hf := by
    unfold Bank.failNoChannel at hf
    split at hf <;> cases hf
    rfl
  first f hf _ := by
    unfold Bank.failNoChannel at hf
    split at hf <;> cases hf
    rfl
  item f hf hn := absurd rfl hn

theorem State.reports_noLanguage (s : State) (p : Bank) : s.Reports p 2 p.failNoLanguage := by
  unfold Bank.failNoLanguage Bank.enabledChannels
  rw [find?_filter_and]
  refine State.reports_find _ (fun x _ => ?_) rfl (by omega) (by omega)
  simp only [State.breaks, Bool.and_eq_true, Bool.not_eq_true', ← Bool.not_eq_true, inRange_iff]

theorem State.reports_repeat (s : State) (p : Bank) : s.Reports p 3 p.failRepeat := by
  have : p.failRepeat = (Config.channelNumbers.find? fun c => (p.channel c).enabled &&
      p.enabledChannels.any fun e => decide (e < c) && decide ((p.channel e).lang = (p.channel c).lang)).map
      fun c => (.languageRepeat, some c) := by
    unfold Bank.failRepeat
    conv_lhs => rw [Bank.enabledChannels.eq_def]
    rw [find?_filter_and]
    rfl
  rw [this]
  refine State.reports_find _ (fun x _ => ?_) rfl (by omega) (by omega)
  simp only [State.breaks, Bool.and_eq_true, List.any_eq_true, Bank.mem_enabledChannels, decide_eq_true_eq]
  refine and_congr_right fun _ => exists_congr fun e => ?_
  tauto

theorem State.reports_sameOutputs (s : State) (p : Bank) : s.Reports p 5 (s.failSameOutputs p) := by
  unfold State.failSameOutputs State.presentBooths
  rw [find?_filter_and]
  refine State.reports_find _ (fun x _ => ?_) rfl (by omega) (by omega)
  simp only [State.breaks, Bool.and_eq_true, decide_eq_true_eq, Option.isSome_iff_exists]
  refine and_congr_right fun _ => ?_
  constructor
  · rintro ⟨⟨c, hc⟩, he⟩
    exact ⟨c, he.trans hc, hc⟩
  · rintro ⟨c, ha, hb⟩
    exact ⟨⟨c, hb⟩, ha.trans hb.symm⟩

theorem State.boothsOn_eq (s : State) (p : Bank) (x : Output) (c : Nat) : s.boothsOn p x c =
    (Config.boothNumbers.filter fun b =>
      (s.boothEntry p b).present && decide ((s.boothEntry p b).channelOn x = some c)).length := by
  unfold State.boothsOn State.presentBooths
  rw [List.filter_filter]
  refine congrArg List.length (List.filter_congr fun b _ => ?_)
  rw [Bool.and_comm]

/-- Two members of a list without repetition. -/
theorem one_lt_length_iff {l : List Nat} (h : l.Nodup) : 1 < l.length ↔ ∃ x ∈ l, ∃ y ∈ l, x ≠ y := by
  rw [← List.toFinset_card_of_nodup h, Finset.one_lt_card]
  simp

theorem State.reports_aShared (s : State) (p : Bank) : s.Reports p 6 (s.failAShared p) := by
  refine State.reports_find _ (fun n _ => ?_) rfl (by omega) (by omega)
  rw [decide_eq_true_iff, State.boothsOn_eq, one_lt_length_iff (boothNumbers_nodup.filter _)]
  simp only [State.breaks, List.mem_filter, Bool.and_eq_true, decide_eq_true_eq]
  constructor
  · rintro ⟨x, ⟨hx, hpx, hax⟩, y, ⟨hy, hpy, hay⟩, hne⟩
    exact ⟨x, hx, y, hy, hne, hpx, hpy, hax, hay⟩
  · rintro ⟨x, hx, y, hy, hne, hpx, hpy, hax, hay⟩
    exact ⟨x, ⟨hx, hpx, hax⟩, y, ⟨hy, hpy, hay⟩, hne⟩

theorem State.reports_bOvershared (s : State) (p : Bank) : s.Reports p 7 (s.failBOvershared p) := by
  refine State.reports_find _ (fun n _ => ?_) rfl (by omega) (by omega)
  rw [decide_eq_true_iff, State.boothsOn_eq]
  exact .rfl

theorem State.reports_ownLanguage (s : State) (p : Bank) : s.Reports p 8 (s.failOwnLanguage p) := by
  have hown (e : BoothEntry) (x : Output) : p.ownLanguage e x = true ↔
      ∃ c, e.channelOn x = some c ∧ (p.channel c).lang ∈ e.prefs := by
    unfold Bank.ownLanguage
    cases e.channelOn x <;> simp
  unfold State.failOwnLanguage State.presentBooths
  rw [find?_filter_and]
  refine State.reports_find _ (fun n _ => ?_) rfl (by omega) (by omega)
  simp only [State.breaks, Bool.and_eq_true, Bool.or_eq_true, hown]
  refine and_congr_right fun _ => ⟨?_, ?_⟩
  · rintro (h | h)
    · exact ⟨.a, h⟩
    · exact ⟨.b, h⟩
  · rintro ⟨_ | _, h⟩
    · exact .inl h
    · exact .inr h

/-- R15, condition 4 for one booth. -/
theorem Bank.outputFault_cases (p : Bank) (e : BoothEntry) :
    (p.outputFault e = none ∧ ¬ (∀ c, e.a = some c → (p.channel c).enabled = false) ∧
        ¬ ∃ c, e.b = some c ∧ (p.channel c).enabled = false) ∨
      (p.outputFault e = some .aNotEnabled ∧ ∀ c, e.a = some c → (p.channel c).enabled = false) ∨
      (p.outputFault e = some .bNotEnabled ∧ ¬ (∀ c, e.a = some c → (p.channel c).enabled = false) ∧
        ∃ c, e.b = some c ∧ (p.channel c).enabled = false) := by
  unfold Bank.outputFault
  cases ha : e.a with
  | none => exact .inr (.inl ⟨rfl, nofun⟩)
  | some a =>
    cases hena : (p.channel a).enabled with
    | false => exact .inr (.inl ⟨by simp [hena], fun c hc => by cases hc; exact hena⟩)
    | true =>
      have hna : ¬ ∀ c, some a = some c → (p.channel c).enabled = false := fun h => by
        rw [h a rfl] at hena
        cases hena
      cases hb : e.b with
      | none => exact .inl ⟨by simp [hena], hna, by simp⟩
      | some b =>
        cases henb : (p.channel b).enabled with
        | false => exact .inr (.inr ⟨by simp [hena, henb], hna, b, rfl, henb⟩)
        | true =>
          refine .inl ⟨by simp [hena, henb], hna, ?_⟩
          rintro ⟨c, hc, hec⟩
          cases hc
          rw [henb] at hec
          cases hec

theorem findSome?_map_eq {α β : Type} (f : Nat → Option α) (g : Nat → α → β) (l : List Nat) :
    (l.findSome? fun b => (f b).map (g b)) = (l.find? fun b => (f b).isSome).bind fun b => (f b).map (g b) := by
  induction l with
  | nil => rfl
  | cons b l ih => cases h : f b <;> simp [h, ih]

theorem State.reports_outputs (s : State) (p : Bank) : s.Reports p 4 (s.failOutputs p) := by
  have heq : s.failOutputs p = (Config.channelNumbers.find? fun b => (s.boothEntry p b).present &&
      (p.outputFault (s.boothEntry p b)).isSome).bind fun b =>
        (p.outputFault (s.boothEntry p b)).map fun r => (r, some b) := by
    unfold State.failOutputs
    rw [findSome?_map_eq (fun b => p.outputFault (s.boothEntry p b)) (fun b r => (r, some b))]
    unfold State.presentBooths
    rw [find?_filter_and]
    rfl
  have hB (b : Nat) : ((s.boothEntry p b).present && (p.outputFault (s.boothEntry p b)).isSome) = true ↔
      s.breaks p b 4 := by
    rw [Bool.and_eq_true]
    refine and_congr_right fun _ => ?_
    rcases p.outputFault_cases (s.boothEntry p b) with ⟨h, ha, hb⟩ | ⟨h, ha⟩ | ⟨h, ha, hb⟩ <;> rw [h]
    · simp only [Option.isSome_none, Bool.false_eq_true, false_iff, not_or]
      exact ⟨ha, hb⟩
    · simp only [Option.isSome_some, true_iff]
      exact .inl ha
    · simp only [Option.isSome_some, true_iff]
      exact .inr hb
  rw [heq]
  refine ⟨?_, fun f hf => ?_, fun f _ hn => by omega, fun f hf _ => ?_⟩
  · unfold State.meets
    rw [if_neg (by omega)]
    constructor
    · intro h x hx hbr
      cases hfind : Config.channelNumbers.find? fun b => (s.boothEntry p b).present &&
          (p.outputFault (s.boothEntry p b)).isSome with
      | none => exact List.find?_eq_none.mp hfind x hx ((hB x).mpr hbr)
      | some y =>
        rw [hfind, Option.bind_some, Option.map_eq_none_iff] at h
        have := (find?_channelNumbers hfind).2.1
        simp [h] at this
    · intro h
      rw [List.find?_eq_none.mpr fun x hx => by rw [hB]; exact h x hx]
      rfl
  · obtain ⟨x, -, hx⟩ := Option.bind_eq_some_iff.mp hf
    obtain ⟨r, hr, rfl⟩ := Option.map_eq_some_iff.mp hx
    rcases p.outputFault_cases (s.boothEntry p x) with ⟨h, -⟩ | ⟨h, -⟩ | ⟨h, -⟩ <;> rw [h] at hr <;> cases hr <;> rfl
  · obtain ⟨x, hfind, hx⟩ := Option.bind_eq_some_iff.mp hf
    obtain ⟨r, hr, rfl⟩ := Option.map_eq_some_iff.mp hx
    obtain ⟨hm, hb, hl⟩ := find?_channelNumbers hfind
    refine ⟨x, hm, rfl, (hB x).mp hb, fun y hy hlt => by rw [← hB y, hl y hy hlt]; simp, fun _ => ?_⟩
    rcases p.outputFault_cases (s.boothEntry p x) with ⟨h, -⟩ | ⟨h, ha⟩ | ⟨h, ha, -⟩ <;> rw [h] at hr <;> cases hr
    · exact ⟨fun _ => ha, fun _ => rfl⟩
    · exact ⟨nofun, fun hall => absurd hall ha⟩

/-! ## Validation -/

/-- The check of condition `n`. -/
def State.checkOf (s : State) (p : Bank) : Nat → Option PlanFault
  | 1 => p.failNoChannel
  | 2 => p.failNoLanguage
  | 3 => p.failRepeat
  | 4 => s.failOutputs p
  | 5 => s.failSameOutputs p
  | 6 => s.failAShared p
  | 7 => s.failBOvershared p
  | 8 => s.failOwnLanguage p
  | _ => none

theorem State.reports_checkOf (s : State) (p : Bank) {n : Nat} (h1 : 1 ≤ n) (h8 : n ≤ 8) :
    s.Reports p n (s.checkOf p n) := by
  interval_cases n
  exacts [s.reports_noChannel p, s.reports_noLanguage p, s.reports_repeat p, s.reports_outputs p,
    s.reports_sameOutputs p, s.reports_aShared p, s.reports_bOvershared p, s.reports_ownLanguage p]

theorem State.planFault_eq (s : State) (p : Bank) :
    s.planFault p = (List.range' 1 8).findSome? (s.checkOf p) := rfl

theorem State.planFault_none_iff (s : State) (p : Bank) :
    s.planFault p = none ↔ ∀ n, 1 ≤ n → n ≤ 8 → s.meets p n := by
  rw [State.planFault_eq, List.findSome?_eq_none_iff]
  constructor
  · intro h n h1 h8
    exact (s.reports_checkOf p h1 h8).none_iff.mp (h n (List.mem_range'_1.mpr ⟨h1, by omega⟩))
  · intro h n hn
    obtain ⟨h1, h8⟩ := List.mem_range'_1.mp hn
    exact (s.reports_checkOf p h1 (by omega)).none_iff.mpr (h n h1 (by omega))

/-- The first condition that fails is reported. -/
theorem State.planFault_first (s : State) (p : Bank) {n : Nat} (h1 : 1 ≤ n) (h8 : n ≤ 8) (hn : ¬ s.meets p n)
    (hb : ∀ m, 1 ≤ m → m < n → s.meets p m) : s.planFault p = s.checkOf p n := by
  have hsplit : List.range' 1 8 = List.range' 1 (n - 1) ++ n :: List.range' (n + 1) (8 - n) := by
    interval_cases n <;> rfl
  have hbefore : (List.range' 1 (n - 1)).findSome? (s.checkOf p) = none := by
    rw [List.findSome?_eq_none_iff]
    intro m hm
    obtain ⟨hm1, hm2⟩ := List.mem_range'_1.mp hm
    exact (s.reports_checkOf p hm1 (by omega)).none_iff.mpr (hb m hm1 (by omega))
  rw [State.planFault_eq, hsplit, List.findSome?_append, hbefore, Option.none_or, List.findSome?_cons]
  cases hc : s.checkOf p n with
  | none => exact absurd ((s.reports_checkOf p h1 h8).none_iff.mp hc) hn
  | some f => rfl

/-- R16: the need by qualities. -/
theorem need_by_quality (p : Bank) (l : List Nat) : (l.map fun c => (p.channel c).quality.need).sum =
    2 * (l.filter fun c => (p.channel c).quality = .full).length +
      (l.filter fun c => (p.channel c).quality = .narrow).length +
      (l.filter fun c => (p.channel c).quality = .auto).length := by
  induction l with
  | nil => rfl
  | cons c l ih =>
    rw [List.map_cons, List.sum_cons, ih]
    cases hq : (p.channel c).quality <;> simp [hq, Quality.need] <;> omega

/-- Settles O9: the conditions are checked in their order (`State.planFault_first`), then the budget. -/
theorem validationIsTheNineConditions : Obligations.ValidationIsTheNineConditions := by
  intro s p
  have hall : (∀ n, 1 ≤ n → n ≤ 8 → s.meets p n) → s.validationRefusal p =
      if s.budget < p.need then some (.overBudget, [f1 p.need, f1 s.budget]) else none := fun h => by
    rw [State.validationRefusal, (s.planFault_none_iff p).mpr h]
  refine ⟨⟨fun h => ?_, fun ⟨h, hn⟩ => ?_⟩, fun h hn => ?_, fun n h1 h8 hn hb => ?_, need_by_quality p _⟩
  · have hmeets : ∀ n, 1 ≤ n → n ≤ 8 → s.meets p n := by
      rw [← s.planFault_none_iff p]
      unfold State.validationRefusal at h
      split at h
      · cases h
      · assumption
    refine ⟨hmeets, ?_⟩
    rw [hall hmeets] at h
    split at h
    · cases h
    · exact Nat.le_of_not_lt ‹_›
  · rw [hall h]
    exact if_neg (Nat.not_lt.mpr hn)
  · rw [hall h]
    exact if_pos hn
  · have hr := s.reports_checkOf p h1 h8
    cases hc : s.checkOf p n with
    | none => exact absurd (hr.none_iff.mp hc) hn
    | some f =>
      obtain ⟨reason, item⟩ := f
      refine ⟨reason, item, hr.condition _ hc, ?_, fun h => hr.first _ hc h, fun h => hr.item _ hc h⟩
      rw [State.validationRefusal, s.planFault_first p h1 h8 hn hb, hc]
      rfl

end Sys2Proof.Machine
end

section
/-! The allocation (O11): places laid out one after another; the AUTO channels with a second slot are those of the lowest
ranks, and ranks are distinct. -/

namespace Sys2Proof.Machine

open Sys2Proof

theorem layOut_fst (count : Nat → Nat) (cs : List Nat) (slot : Nat) : (layOut count cs slot).map Prod.fst = cs := by
  induction cs generalizing slot with
  | nil => rfl
  | cons c cs ih => rw [layOut, List.map_cons, ih]

theorem layOut_head (count : Nat → Nat) (cs : List Nat) (slot : Nat) :
    ∀ e ∈ (layOut count cs slot).head?, e.2.first = slot := by
  cases cs with
  | nil => simp [layOut]
  | cons c cs =>
    intro e he
    cases he
    rfl

/-- Each place lies between the first slot and the slot after the last one. -/
theorem layOut_place {count : Nat → Nat} {cs : List Nat} {slot : Nat} {e : Nat × Place} (h : e ∈ layOut count cs slot) :
    slot ≤ e.2.first ∧ e.2.first + e.2.count ≤ slot + (cs.map count).sum ∧ e.2.count = count e.1 := by
  induction cs generalizing slot with
  | nil => cases h
  | cons c cs ih =>
    rw [List.map_cons, List.sum_cons]
    rcases List.mem_cons.mp h with rfl | h
    · exact ⟨le_rfl, by simp only; omega, rfl⟩
    · obtain ⟨h1, h2, h3⟩ := ih h
      exact ⟨by omega, by omega, h3⟩

theorem layOut_chain (count : Nat → Nat) (cs : List Nat) (slot : Nat) :
    ((layOut count cs slot).map Prod.snd).IsChain fun x y => y.first = x.first + x.count := by
  induction cs generalizing slot with
  | nil => exact .nil
  | cons c cs ih =>
    cases cs with
    | nil => exact .singleton _
    | cons d ds => exact .cons_cons rfl (ih (slot + count c))

/-! ## Ranks -/

variable {s : State} {p : Bank}

theorem State.ranksBefore_iff (e c : Nat) : s.ranksBefore p e c = true ↔
    s.demand (p.channel c).lang < s.demand (p.channel e).lang ∨
      s.demand (p.channel e).lang = s.demand (p.channel c).lang ∧ e < c := by
  simp [State.ranksBefore]

/-- A channel that ranks before another has the lower rank. -/
theorem State.rank_lt {e c : Nat} (he : e ∈ p.autoChannels) (h : s.ranksBefore p e c = true) : s.rank p e < s.rank p c := by
  have hsub : ∀ x, s.ranksBefore p x e = true → s.ranksBefore p x c = true := fun x hx => by
    rw [State.ranksBefore_iff] at h hx ⊢
    omega
  have hself : s.ranksBefore p e e = false := by
    rw [← Bool.not_eq_true, State.ranksBefore_iff]
    omega
  have heq : p.autoChannels.filter (fun x => s.ranksBefore p x e) =
      (p.autoChannels.filter fun x => s.ranksBefore p x c).filter fun x => s.ranksBefore p x e := by
    rw [List.filter_filter]
    refine List.filter_congr fun x _ => ?_
    cases hx : s.ranksBefore p x e with
    | false => simp
    | true => simp [hsub x hx]
  unfold State.rank
  rw [heq]
  exact List.length_filter_lt_length_iff_exists.mpr ⟨e, List.mem_filter.mpr ⟨he, h⟩, by simp [hself]⟩

theorem State.rank_injective {e c : Nat} (he : e ∈ p.autoChannels) (hc : c ∈ p.autoChannels)
    (h : s.rank p e = s.rank p c) : e = c := by
  by_contra hne
  have htotal : s.ranksBefore p e c = true ∨ s.ranksBefore p c e = true := by
    rw [State.ranksBefore_iff, State.ranksBefore_iff]
    omega
  rcases htotal with hb | hb
  · have := State.rank_lt he hb
    omega
  · have := State.rank_lt hc hb
    omega

theorem State.rank_lt_length {c : Nat} (hc : c ∈ p.autoChannels) : s.rank p c < p.autoChannels.length := by
  refine List.length_filter_lt_length_iff_exists.mpr ⟨c, hc, ?_⟩
  rw [State.ranksBefore_iff]
  omega

theorem Bank.enabledChannels_nodup (p : Bank) : p.enabledChannels.Nodup := (List.nodup_range').filter _

/-- At most as many channels have a rank below a bound as the bound says. -/
theorem State.length_rank_lt (s : State) (p : Bank) (n : Nat) :
    (p.autoChannels.filter fun c => decide (s.rank p c < n)).length ≤ n := by
  have hnd : ((p.autoChannels.filter fun c => decide (s.rank p c < n)).map (s.rank p)).Nodup := by
    refine List.Nodup.map_on (fun x hx y hy h => ?_) ((p.enabledChannels_nodup.filter _).filter _)
    exact State.rank_injective (List.mem_of_mem_filter hx) (List.mem_of_mem_filter hy) h
  have hsub : (p.autoChannels.filter fun c => decide (s.rank p c < n)).map (s.rank p) ⊆ List.range n := by
    intro x hx
    obtain ⟨c, hc, rfl⟩ := List.mem_map.mp hx
    exact List.mem_range.mpr (by simpa using (List.mem_filter.mp hc).2)
  simpa using (hnd.subperm hsub).length_le

/-! ## The frame holds the allocation -/

/-- The slots given are the need and one more for each AUTO channel of a rank below the spare. -/
theorem State.sum_slotCount (l : List Nat) : (l.map (s.slotCount p)).sum =
    (l.map fun c => (p.channel c).quality.need).sum +
      ((l.filter fun c => (p.channel c).quality = .auto).filter fun c => decide (s.rank p c < s.extraSlots p)).length := by
  induction l with
  | nil => rfl
  | cons c l ih =>
    simp only [List.map_cons, List.sum_cons, ih]
    unfold State.slotCount
    cases hq : (p.channel c).quality with
    | full => simp [hq, Quality.need]; omega
    | narrow => simp [hq, Quality.need]; omega
    | auto =>
      by_cases hr : s.rank p c < s.extraSlots p
      · simp [hq, hr, Quality.need]; omega
      · simp [hq, hr, Quality.need]; omega

theorem State.sum_slotCount_le (h : p.need ≤ s.budget) : (p.enabledChannels.map (s.slotCount p)).sum ≤ s.budget := by
  rw [State.sum_slotCount]
  have hlen := s.length_rank_lt p (s.extraSlots p)
  have hneed : (p.enabledChannels.map fun c => (p.channel c).quality.need).sum = p.need := rfl
  have hextra : s.extraSlots p ≤ s.budget - p.need := Nat.min_le_left _ _
  unfold Bank.autoChannels at hlen
  omega

/-- Settles O11. -/
theorem allocationWithinBudgetByDemand : Obligations.AllocationWithinBudgetByDemand := by
  intro s p h
  refine ⟨layOut_fst _ _ _, layOut_head _ _ _, fun e he => ?_, layOut_chain _ _ _⟩
  obtain ⟨h1, h2, h3⟩ := layOut_place he
  have hsum := State.sum_slotCount_le (s := s) (p := p) h
  have hslots : s.budget + 2 = s.slots := by
    unfold State.budget State.slots
    split <;> rfl
  refine ⟨h1, by omega, h3.trans ?_⟩
  have hmem : e.1 ∈ p.enabledChannels := by
    have := List.mem_map_of_mem (f := Prod.fst) he
    rwa [State.allocation, layOut_fst] at this
  unfold State.slotCount
  cases hq : (p.channel e.1).quality with
  | full => rfl
  | narrow => rfl
  | auto =>
    have hauto : e.1 ∈ p.autoChannels := List.mem_filter.mpr ⟨hmem, by simpa using hq⟩
    have hlt := State.rank_lt_length (s := s) hauto
    have hiff : s.rank p e.1 < s.extraSlots p ↔ s.rank p e.1 < s.slots - 2 - p.need := by
      unfold State.extraSlots State.budget
      omega
    dsimp only
    rw [if_congr hiff rfl rfl]
    rfl

end Sys2Proof.Machine
end

section
/-! SUPPORT. Raises that follow one another, the entries that the meter unit hands to the journal, and the statements about
the journal, the flags and the sittings (O27 to O30, O50, O51). -/

namespace Sys2Proof.Machine

open Sys2Proof

/-! ## Raises of one flag -/

theorem Table.remove_place {α : Type} (t : Table α) (k : Nat) (v : α) :
    Table.remove (Table.place t k v) k = Table.remove t k := by
  induction t with
  | nil => simp [Table.place, Table.remove]
  | cons e t ih =>
    obtain ⟨a, w⟩ := e
    unfold Table.place
    split
    · simp [Table.remove]
    · unfold Table.remove at ih ⊢
      rw [List.filter_cons, List.filter_cons, ih]

theorem Table.remove_remove {α : Type} (t : Table α) (k : Nat) : Table.remove (Table.remove t k) k = Table.remove t k := by
  simp [Table.remove]

/-- Of two records stored under one number the second stands. -/
theorem Table.store_store {α : Type} [DecidableEq α] (d : α) (t : Table α) (k : Nat) (v w : α) :
    Table.store d (Table.store d t k v) k w = Table.store d t k w := by
  have h : Table.remove (Table.store d t k v) k = Table.remove t k := by
    unfold Table.store
    split
    · exact Table.remove_remove t k
    · rw [Table.insert, Table.remove_place, Table.remove_remove]
  rw [Table.store, Table.insert, h, Table.store, Table.insert]

@[simp] theorem FlagSet.raise_zero (f : FlagSet) (i : Nat) : f.raise i 0 = f := rfl

theorem satAdd_satAdd (limit a m n : Nat) : satAdd limit (satAdd limit a m) n = satAdd limit a (m + n) := by
  unfold satAdd
  omega

theorem FlagSet.raise_pos (f : FlagSet) (i : Nat) {n : Nat} (hn : n ≠ 0) :
    f.raise i n = { f with
      states := f.states ||| (1 <<< i), counts := Table.store 0 f.counts i (satAdd Config.max16 (f.count i) n) } :=
  if_neg hn

/-- Two raises of one flag are one raise by the sum of their amounts. -/
theorem FlagSet.raise_raise (f : FlagSet) (i m n : Nat) : (f.raise i m).raise i n = f.raise i (m + n) := by
  by_cases hm : m = 0
  · simp [hm]
  · by_cases hn : n = 0
    · simp [hn]
    · have hc : (f.raise i m).count i = satAdd Config.max16 (f.count i) m := by
        rw [FlagSet.count_raise _ _ _ _ hm, if_pos rfl]
      rw [FlagSet.raise_pos _ i hn, hc, FlagSet.raise_pos f i hm, FlagSet.raise_pos f i (n := m + n) (by omega)]
      simp only [FlagSet.mk.injEq, true_and, Table.store_store]
      rw [satAdd_satAdd, BitVec.or_assoc, BitVec.or_self]
      exact ⟨rfl, rfl, trivial⟩

@[simp] theorem State.raise_zero (s : State) (f : ConsoleFlag) : s.raise f 0 = s := by
  simp [State.raise, State.setFlags, State.flags, State.setLinks]

theorem State.raise_raise (s : State) (f : ConsoleFlag) (m n : Nat) : (s.raise f m).raise f n = s.raise f (m + n) := by
  unfold State.raise
  simp only [State.setFlags, State.flags, State.setLinks, FlagSet.raise_raise]

theorem State.raise_links_congr {s t : State} (h : t.links = s.links) (f : ConsoleFlag) (n : Nat) :
    (t.raise f n).links = (s.raise f n).links := by
  simp [State.raise, State.setFlags, State.flags, State.setLinks, h]

theorem State.raiseCounter_links_congr {s t : State} (h : t.links = s.links) (f : CounterFlag) (n : Nat) :
    (t.raiseCounter f n).links = (s.raiseCounter f n).links := by
  simp [State.raiseCounter, State.setFlags, State.flags, State.setLinks, h]

/-! ## An entry written, an entry handed over -/

theorem State.raiseLevel_links (s : State) :
    s.raiseLevel.links = if s.journal.entries.length = 896 then (s.raise .journalHigh 1).links
      else if s.journal.entries.length = 992 then ((s.raise .journalFull 1).raiseCounter .journalFull 1).links
      else s.links := by
  have hfull : s.journal.free = Config.journalReserve ↔ s.journal.entries.length = 992 := by
    simp only [Journal.free, Config.journalSize, Config.journalReserve]
    omega
  unfold State.raiseLevel
  rw [show Config.journalHigh = 896 from rfl]
  split
  · rfl
  · simp only [hfull]
    split <;> rfl

theorem State.writeEntry_length (s : State) (body : EntryBody) :
    (s.writeEntry body).journal.entries.length = s.journal.entries.length + 1 := by
  simp [State.writeEntry_journal, Journal.append]

/-- R174: the flags of a write follow from the number of entries that it leaves. -/
theorem State.writeEntry_links (s : State) (body : EntryBody) :
    (s.writeEntry body).links = if s.journal.entries.length + 1 = 896 then (s.raise .journalHigh 1).links
      else if s.journal.entries.length + 1 = 992 then ((s.raise .journalFull 1).raiseCounter .journalFull 1).links
      else s.links := by
  have hl : (s.setJournal (s.journal.append s.meter.time body)).journal.entries.length =
      s.journal.entries.length + 1 := by simp [Journal.append]
  rw [State.writeEntry, State.raiseLevel_links, hl]
  rfl

theorem State.writeEntry_frame (s : State) (body : EntryBody) : s.onlyChanges (s.writeEntry body) [.journal, .links] := by
  rw [State.onlyChanges_iff]
  simp

theorem Journal.free_eq_zero (j : Journal) : j.free = 0 ↔ 1024 ≤ j.entries.length := by
  rw [Journal.free, show Config.journalSize = 1024 from rfl]
  omega

theorem State.handOver_of_room {s : State} (h : s.journal.entries.length < 1024) (body : EntryBody) :
    s.handOver body = s.writeEntry body := if_neg (by rw [Journal.free_eq_zero]; omega)

theorem State.handOver_of_full {s : State} (h : 1024 ≤ s.journal.entries.length) (body : EntryBody) :
    s.handOver body = s.raise .turnFolded 1 := if_pos ((Journal.free_eq_zero _).2 h)

/-! ## Entries handed over one after another -/

/-- From `s` to `t` the entries `bodies` have been handed to the journal in this order, and meter time has not moved. -/
structure State.HandedTo (s t : State) (bodies : List EntryBody) : Prop where
  journal : t.journal = s.journalWith bodies
  time : t.meter.time = s.meter.time

theorem Journal.foldl_append_length (time : Nat) (bodies : List EntryBody) (j : Journal) :
    (bodies.foldl (fun j x => j.append time x) j).entries.length = j.entries.length + bodies.length := by
  induction bodies generalizing j with
  | nil => rfl
  | cons x bodies ih =>
    rw [List.foldl_cons, ih]
    simp only [Journal.append, List.length_append, List.length_cons, List.length_nil]
    omega

theorem State.journalWith_length (s : State) (bodies : List EntryBody) :
    (s.journalWith bodies).entries.length = s.journal.entries.length + min bodies.length s.room := by
  rw [State.journalWith, Journal.foldl_append_length, List.length_take, Nat.min_comm]

theorem State.journalWith_concat (s : State) (bodies : List EntryBody) (x : EntryBody) :
    s.journalWith (bodies ++ [x]) =
      if bodies.length < s.room then (s.journalWith bodies).append s.meter.time x else s.journalWith bodies := by
  unfold State.journalWith
  rw [List.take_append]
  split
  · rename_i h
    rw [List.take_of_length_le (by omega : bodies.length ≤ s.room),
      List.take_of_length_le (by simp only [List.length_singleton]; omega), List.foldl_append, List.foldl_cons,
      List.foldl_nil]
  · rename_i h
    rw [Nat.sub_eq_zero_of_le (by omega), List.take_zero, List.append_nil]

theorem State.HandedTo.refl (s : State) : s.HandedTo s [] := ⟨by simp [State.journalWith], rfl⟩

theorem State.HandedTo.congr {s t u : State} {bodies : List EntryBody} (h : s.HandedTo t bodies)
    (hj : u.journal = t.journal) (ht : u.meter.time = t.meter.time) : s.HandedTo u bodies :=
  ⟨hj.trans h.journal, ht.trans h.time⟩

theorem State.HandedTo.length {s t : State} {bodies : List EntryBody} (h : s.HandedTo t bodies) :
    t.journal.entries.length = s.journal.entries.length + min bodies.length s.room := by
  rw [h.journal, s.journalWith_length]

/-- The journal of `t` has room exactly as long as fewer entries have been handed over than `s` had room for. -/
theorem State.HandedTo.full_iff {s t : State} {bodies : List EntryBody} (h : s.HandedTo t bodies) :
    1024 ≤ t.journal.entries.length ↔ s.room ≤ bodies.length := by
  rw [h.length, State.room]
  omega

theorem State.HandedTo.handOver {s t : State} {bodies : List EntryBody} (h : s.HandedTo t bodies) (x : EntryBody) :
    s.HandedTo (t.handOver x) (bodies ++ [x]) := by
  refine ⟨?_, by simpa using h.time⟩
  rw [State.handOver_journal, s.journalWith_concat, h.time, ← h.journal]
  by_cases hf : 1024 ≤ t.journal.entries.length
  · have hlen := h.full_iff.1 hf
    rw [if_pos ((Journal.free_eq_zero _).2 hf), if_neg (by omega)]
  · have hlen : ¬ s.room ≤ bodies.length := fun hr => hf (h.full_iff.2 hr)
    rw [if_neg (fun hz => hf ((Journal.free_eq_zero _).1 hz)), if_pos (by omega)]

@[simp] theorem State.handedOver_zero (s : State) : s.handedOver 0 = s := by
  unfold State.handedOver
  have h1 : ¬ (s.journal.entries.length < 896 ∧ 896 ≤ s.journal.entries.length + min 0 s.room) := by omega
  have h2 : ¬ (s.journal.entries.length < 992 ∧ 992 ≤ s.journal.entries.length + min 0 s.room) := by omega
  simp only [h1, h2, if_false, Nat.zero_sub, State.raise_zero]

/-- One more entry handed over adds the flags of its write, or TURN_FOLDED where it finds no room. -/
theorem State.handedOver_succ (s : State) (n : Nat) :
    s.handedOver (n + 1) =
      if n < s.room then
        if s.journal.entries.length + n + 1 = 896 then (s.handedOver n).raise .journalHigh 1
        else if s.journal.entries.length + n + 1 = 992 then
          ((s.handedOver n).raise .journalFull 1).raiseCounter .journalFull 1
        else s.handedOver n
      else (s.handedOver n).raise .turnFolded 1 := by
  unfold State.handedOver
  by_cases hroom : n < s.room
  · have ha : s.journal.entries.length + min (n + 1) s.room = s.journal.entries.length + n + 1 := by omega
    have hb : s.journal.entries.length + min n s.room = s.journal.entries.length + n := by omega
    have hx : n + 1 - s.room = 0 := by omega
    have hy : n - s.room = 0 := by omega
    simp only [hroom, if_true, ha, hb, hx, hy, State.raise_zero]
    by_cases h896 : s.journal.entries.length + n + 1 = 896
    · have hnow : s.journal.entries.length < 896 ∧ 896 ≤ s.journal.entries.length + n + 1 := by omega
      have hbefore : ¬ (s.journal.entries.length < 896 ∧ 896 ≤ s.journal.entries.length + n) := by omega
      have hfull : ¬ (s.journal.entries.length < 992 ∧ 992 ≤ s.journal.entries.length + n + 1) := by omega
      have hfull' : ¬ (s.journal.entries.length < 992 ∧ 992 ≤ s.journal.entries.length + n) := by omega
      simp only [if_pos hnow, if_neg hbefore, if_neg hfull, if_neg hfull', if_pos h896]
    · rw [if_neg h896]
      have hhigh : (s.journal.entries.length < 896 ∧ 896 ≤ s.journal.entries.length + n + 1) ↔
          (s.journal.entries.length < 896 ∧ 896 ≤ s.journal.entries.length + n) := by omega
      simp only [hhigh]
      by_cases h992 : s.journal.entries.length + n + 1 = 992
      · have hnow : s.journal.entries.length < 992 ∧ 992 ≤ s.journal.entries.length + n + 1 := by omega
        have hbefore : ¬ (s.journal.entries.length < 992 ∧ 992 ≤ s.journal.entries.length + n) := by omega
        simp only [if_pos hnow, if_neg hbefore, if_pos h992]
      · have hfull : (s.journal.entries.length < 992 ∧ 992 ≤ s.journal.entries.length + n + 1) ↔
            (s.journal.entries.length < 992 ∧ 992 ≤ s.journal.entries.length + n) := by omega
        rw [if_neg h992]
        simp only [hfull]
  · have ha : min (n + 1) s.room = min n s.room := by omega
    have hx : n + 1 - s.room = (n - s.room) + 1 := by omega
    simp only [hroom, if_false, ha, hx, State.raise_raise]

/-- The flags of one more entry handed over. -/
theorem State.HandedTo.links_handOver {s t : State} {bodies : List EntryBody} (h : s.HandedTo t bodies)
    (hl : t.links = (s.handedOver bodies.length).links) (x : EntryBody) :
    (t.handOver x).links = (s.handedOver (bodies.length + 1)).links := by
  rw [State.handedOver_succ]
  by_cases hf : 1024 ≤ t.journal.entries.length
  · have hlen := h.full_iff.1 hf
    rw [State.handOver_of_full hf, if_neg (by omega), State.raise_links_congr hl]
  · have hlen : bodies.length < s.room := by
      by_contra hr
      exact hf (h.full_iff.2 (by omega))
    have hlength : t.journal.entries.length = s.journal.entries.length + bodies.length := by rw [h.length]; omega
    rw [State.handOver_of_room (by omega), State.writeEntry_links, hlength, if_pos hlen]
    split
    · exact State.raise_links_congr hl _ _
    · split
      · exact State.raiseCounter_links_congr (State.raise_links_congr hl _ _) _ _
      · exact hl

/-! ## A turn closed -/

theorem State.closeTurn_of_none {s : State} {b : Nat} (h : s.turn b = none) (r : Reason) : s.closeTurn b r = s := by
  simp only [State.closeTurn, h]

theorem State.closeTurn_of_room {s : State} {b : Nat} {x : Turn} (h : s.turn b = some x)
    (hroom : s.journal.entries.length < 1024) (r : Reason) :
    s.closeTurn b r = (s.retireTurn b).writeEntry (.turn (s.turnBody b x r)) := by
  have hfree : ¬ s.journal.free = 0 := by rw [Journal.free_eq_zero]; omega
  simp only [State.closeTurn, h, State.endTurn]
  rw [if_neg hfree, State.handOver_of_room (by simpa using hroom)]

theorem State.closeTurn_of_full {s : State} {b : Nat} {x : Turn} (h : s.turn b = some x)
    (hfull : 1024 ≤ s.journal.entries.length) (r : Reason) :
    s.closeTurn b r = ((s.retireTurn b).foldTurn b x).raise .turnFolded 1 := by
  simp only [State.closeTurn, h, State.endTurn]
  rw [if_pos ((Journal.free_eq_zero _).2 hfull), State.handOver_of_full (by simpa using hfull)]

@[simp] theorem State.retireTurn_sitting (s : State) (b : Nat) :
    (s.retireTurn b).meter.sitting = s.meter.sitting.countTurn := rfl

@[simp] theorem State.retireTurn_totals (s : State) (b c : Nat) : (s.retireTurn b).totals c = s.totals c := rfl

@[simp] theorem State.retireTurn_time (s : State) (b : Nat) : (s.retireTurn b).meter.time = s.meter.time := rfl

@[simp] theorem State.foldTurn_sitting (s : State) (b : Nat) (x : Turn) : (s.foldTurn b x).meter.sitting =
    { s.meter.sitting with folded := satAdd Config.max16 s.meter.sitting.folded 1 } := rfl

@[simp] theorem State.foldTurn_time (s : State) (b : Nat) (x : Turn) : (s.foldTurn b x).meter.time = s.meter.time := rfl

theorem State.foldTurn_totals (s : State) (b : Nat) (x : Turn) (c : Nat) :
    (s.foldTurn b x).totals c = if c = b then { s.totals b with
      foldedTurns := satAdd Config.max16 (s.totals b).foldedTurns 1
      foldedSeconds := satAdd Config.max32 (s.totals b).foldedSeconds (x.onAir + x.held) } else s.totals c :=
  Table.fetch_store ({} : Totals) s.meter.totals b c _

theorem State.closeTurn_journal (s : State) (b : Nat) (r : Reason) :
    (s.closeTurn b r).journal = match s.turn b with
      | none => s.journal
      | some x => (s.handOver (.turn (s.turnBody b x r))).journal := by
  cases h : s.turn b with
  | none => rw [State.closeTurn_of_none h]
  | some x =>
    by_cases hfull : 1024 ≤ s.journal.entries.length
    · simp [State.closeTurn_of_full h hfull, State.handOver_of_full hfull]
    · simp [State.closeTurn_of_room h (by omega), State.handOver_of_room (by omega : s.journal.entries.length < 1024),
        State.writeEntry_journal]

theorem State.closeTurn_links (s : State) (b : Nat) (r : Reason) :
    (s.closeTurn b r).links = match s.turn b with
      | none => s.links
      | some x => (s.handOver (.turn (s.turnBody b x r))).links := by
  cases h : s.turn b with
  | none => rw [State.closeTurn_of_none h]
  | some x =>
    by_cases hfull : 1024 ≤ s.journal.entries.length
    · rw [State.closeTurn_of_full h hfull]
      dsimp only
      rw [State.handOver_of_full hfull]
      exact State.raise_links_congr (by simp) _ _
    · rw [State.closeTurn_of_room h (by omega)]
      dsimp only
      rw [State.handOver_of_room (by omega), State.writeEntry_links, State.writeEntry_links, State.retireTurn_journal]
      rfl

/-! ## Turns closed one after another -/

/-- From `s` to `t` the open turns of the booths `bs` have ended in this order with a reason: handed to the journal, counted
in the sitting, and folded into the totals where the journal had no room. -/
structure State.TurnsHanded (s t : State) (bs : List Nat) (r : Reason) : Prop where
  handed : s.HandedTo t (s.turnEntries bs r)
  sitting : t.meter.sitting = s.turnsCounted bs
  totals : s.turnsFolded t bs

theorem State.metered_concat (s : State) (bs : List Nat) (b : Nat) :
    s.metered (bs ++ [b]) = if (s.turn b).isSome then s.metered bs ++ [b] else s.metered bs := by
  unfold State.metered
  rw [List.filter_append]
  split <;> rename_i h <;> simp [h]

theorem State.turnEntries_concat_none {s : State} {b : Nat} (h : s.turn b = none) (bs : List Nat) (r : Reason) :
    s.turnEntries (bs ++ [b]) r = s.turnEntries bs r := by
  simp [State.turnEntries, h]

theorem State.turnEntries_concat_some {s : State} {b : Nat} {x : Turn} (h : s.turn b = some x) (bs : List Nat)
    (r : Reason) :
    s.turnEntries (bs ++ [b]) r = s.turnEntries bs r ++ [.turn ⟨s.meter.sitting.number, b, x, s.meter.time, r⟩] := by
  simp [State.turnEntries, h]

theorem State.turnEntries_length (s : State) (bs : List Nat) (r : Reason) :
    (s.turnEntries bs r).length = (s.metered bs).length := by
  induction bs with
  | nil => rfl
  | cons b bs ih =>
    unfold State.turnEntries State.metered at ih ⊢
    cases h : s.turn b <;> simp [h, ih]

theorem grown_zero (limit count : Nat) : grown limit count 0 = count := rfl

theorem satAdd_grown (limit count n : Nat) : satAdd limit (grown limit count n) 1 = grown limit count (n + 1) := by
  unfold satAdd grown
  rw [if_neg (by omega : ¬ n + 1 = 0)]
  split <;> omega

theorem State.TurnsHanded.refl (s : State) (r : Reason) : s.TurnsHanded s [] r where
  handed := State.HandedTo.refl s
  sitting := by simp [State.turnsCounted, State.metered, grown_zero]
  totals := fun b => by simp [State.metered]

theorem State.TurnsHanded.congr {s t u : State} {bs : List Nat} {r : Reason} (h : s.TurnsHanded t bs r)
    (hj : u.journal = t.journal) (ht : u.meter.time = t.meter.time) (hs : u.meter.sitting = t.meter.sitting)
    (htot : u.meter.totals = t.meter.totals) : s.TurnsHanded u bs r where
  handed := h.handed.congr hj ht
  sitting := hs.trans h.sitting
  totals := fun b => by
    rw [show u.totals b = t.totals b by simp only [State.totals, htot]]
    exact h.totals b

theorem State.TurnsHanded.number {s t : State} {bs : List Nat} {r : Reason} (h : s.TurnsHanded t bs r) :
    t.meter.sitting.number = s.meter.sitting.number := by
  rw [h.sitting]
  rfl

/-- One more turn closed, of a booth that has the turn that it had. -/
theorem State.TurnsHanded.closeTurn {s t : State} {bs : List Nat} {r : Reason} (h : s.TurnsHanded t bs r) {b : Nat}
    (hb : b ∉ bs) (ht : t.turn b = s.turn b) : s.TurnsHanded (t.closeTurn b r) (bs ++ [b]) r := by
  cases hx : s.turn b with
  | none =>
    rw [State.closeTurn_of_none (ht.trans hx)]
    have hm : s.metered (bs ++ [b]) = s.metered bs := by simp [State.metered_concat, hx]
    refine ⟨?_, ?_, ?_⟩
    · rw [State.turnEntries_concat_none hx]
      exact h.handed
    · rw [h.sitting, State.turnsCounted, State.turnsCounted, hm]
    · intro c
      rw [hm]
      exact h.totals c
  | some x =>
    have htx := ht.trans hx
    have hm : s.metered (bs ++ [b]) = s.metered bs ++ [b] := by simp [State.metered_concat, hx]
    have hbm : b ∉ s.metered bs := fun hin => hb (List.mem_filter.1 hin).1
    have hfull := h.handed.full_iff
    rw [State.turnEntries_length] at hfull
    have hbody : EntryBody.turn (t.turnBody b x r) = .turn ⟨s.meter.sitting.number, b, x, s.meter.time, r⟩ := by
      rw [State.turnBody, h.number, h.handed.time]
    refine ⟨?_, ?_, ?_⟩
    · rw [State.turnEntries_concat_some hx, ← hbody]
      refine (h.handed.handOver (.turn (t.turnBody b x r))).congr ?_ (by simp)
      rw [State.closeTurn_journal, htx]
    · by_cases hf : 1024 ≤ t.journal.entries.length
      · have hroom := hfull.1 hf
        rw [State.closeTurn_of_full htx hf]
        simp only [State.turnsCounted, hm, List.length_append, List.length_singleton,
          show (s.metered bs).length + 1 - s.room = ((s.metered bs).length - s.room) + 1 by omega, ← satAdd_grown]
        simp [State.raise_meter, Sitting.countTurn, h.sitting, State.turnsCounted, Config.max16]
      · have hroom : ¬ s.room ≤ (s.metered bs).length := fun hr => hf (hfull.2 hr)
        rw [State.closeTurn_of_room htx (by omega)]
        simp only [State.turnsCounted, hm, List.length_append, List.length_singleton,
          show (s.metered bs).length + 1 - s.room = (s.metered bs).length - s.room by omega, ← satAdd_grown]
        simp [Sitting.countTurn, h.sitting, State.turnsCounted, Config.max16]
    · intro c
      rw [hm]
      by_cases hf : 1024 ≤ t.journal.entries.length
      · have hroom := hfull.1 hf
        have hdrop : (s.metered bs ++ [b]).drop s.room = (s.metered bs).drop s.room ++ [b] :=
          List.drop_append_of_le_length hroom
        have hnot (y : Nat) (hy : y = b) : y ∉ (s.metered bs).drop s.room :=
          fun hin => hbm (hy ▸ List.mem_of_mem_drop hin)
        rw [State.closeTurn_of_full htx hf, hdrop]
        rw [show ((((t.retireTurn b).foldTurn b x).raise .turnFolded 1).totals c) =
          ((t.retireTurn b).foldTurn b x).totals c from rfl, State.foldTurn_totals]
        simp only [State.retireTurn_totals, h.totals c, h.totals b, List.mem_append, List.mem_singleton]
        by_cases hc : c = b
        · subst hc
          simp [hnot c rfl, hx, satAdd, Config.max16, Config.max32]
        · simp [hc]
      · have hroom : ¬ s.room ≤ (s.metered bs).length := fun hr => hf (hfull.2 hr)
        have hdrop : (s.metered bs ++ [b]).drop s.room = [] := List.drop_eq_nil_of_le (by simp; omega)
        have hnone : (s.metered bs).drop s.room = [] := List.drop_eq_nil_of_le (by omega)
        rw [State.closeTurn_of_room htx (by omega), hdrop]
        rw [show (((t.retireTurn b).writeEntry (.turn (t.turnBody b x r))).totals c) = t.totals c by
          simp [State.totals, State.retireTurn, State.clearTurn, State.setSitting], h.totals c, hnone]

/-- The flags of one more turn closed. -/
theorem State.TurnsHanded.links_closeTurn {s t : State} {bs : List Nat} {r : Reason} (h : s.TurnsHanded t bs r)
    (hl : t.links = (s.handedOver (s.metered bs).length).links) {b : Nat} (ht : t.turn b = s.turn b) :
    (t.closeTurn b r).links = (s.handedOver (s.metered (bs ++ [b])).length).links := by
  rw [State.closeTurn_links, ht, State.metered_concat]
  cases hx : s.turn b with
  | none => simpa using hl
  | some x =>
    have hlen := State.turnEntries_length s bs r
    simpa [hlen] using h.handed.links_handOver (by rw [hlen]; exact hl) (.turn (t.turnBody b x r))

/-- The turns of booths without repetition closed in order. -/
theorem State.TurnsHanded.foldl_closeTurn {s : State} {r : Reason} (bs : List Nat) {t : State} {pre : List Nat}
    (h : s.TurnsHanded t pre r) (hl : t.links = (s.handedOver (s.metered pre).length).links)
    (hnd : (pre ++ bs).Nodup) (ht : ∀ b ∈ bs, t.turn b = s.turn b) :
    s.TurnsHanded (bs.foldl (fun t b => t.closeTurn b r) t) (pre ++ bs) r ∧
      (bs.foldl (fun t b => t.closeTurn b r) t).links = (s.handedOver (s.metered (pre ++ bs)).length).links := by
  induction bs generalizing t pre with
  | nil => simpa using ⟨h, hl⟩
  | cons b bs ih =>
    have hassoc : pre ++ b :: bs = pre ++ [b] ++ bs := by simp
    have hb : b ∉ pre := fun hin => (List.nodup_append.1 hnd).2.2 b hin b (by simp) rfl
    rw [hassoc] at hnd ⊢
    have hturn := ht b (by simp)
    refine ih (h.closeTurn hb hturn) (h.links_closeTurn hl hturn) hnd fun x hx => ?_
    have hne : x ≠ b := by
      rintro rfl
      exact (List.nodup_append.1 hnd).2.2 x (by simp) x hx rfl
    rw [State.closeTurn_turn, if_neg hne]
    exact ht x (by simp [hx])

theorem State.closeTurns_handed (s : State) (r : Reason) :
    s.TurnsHanded (s.closeTurns r) Config.boothNumbers r ∧
      (s.closeTurns r).links = (s.handedOver (s.metered Config.boothNumbers).length).links :=
  (State.TurnsHanded.refl s r).foldl_closeTurn Config.boothNumbers (by simp [State.metered])
    (by simpa using boothNumbers_nodup) fun _ _ => rfl

end Sys2Proof.Machine
end

section
/-! The journal (O50), the flags (O51), sittings (O27, O28), the meter second (O29) and the return grace (O30). -/

namespace Sys2Proof.Machine

open Sys2Proof

/-! ## Writes and folds -/

/-- R112: what the end of a turn leaves, with its booth's turn and without it. -/
theorem State.closeTurn_turnEnded (s : State) (b : Nat) (r : Reason) : s.turnEnded (s.closeTurn b r) b r := by
  refine ⟨fun hn => ?_, fun x hx => ⟨fun hroom => ?_, fun hfull => ?_⟩⟩
  · rw [State.closeTurn_of_none hn]
    exact ⟨rfl, rfl, rfl⟩
  · rw [State.closeTurn_of_room hx hroom]
    refine ⟨by rw [State.writeEntry_journal]; rfl, by simp; rfl, ?_⟩
    simp [State.retireTurn, State.clearTurn, State.setSitting]
  · rw [State.closeTurn_of_full hx hfull]
    refine ⟨by simp, rfl, ?_, fun y hy => ?_⟩
    · exact (State.foldTurn_totals _ b x b).trans (if_pos rfl)
    · exact (State.foldTurn_totals _ b x y).trans (if_neg hy)

/-- Settles O50. -/
theorem journalWritesAndFolds : Obligations.JournalWritesAndFolds := by
  refine fun s body => ⟨⟨_, rfl, s.writeEntry_frame body, ?_, ?_, ?_⟩, fun h => State.handOver_of_room h body,
    fun h => ?_, fun b reason => ⟨s.closeTurn_turnEnded b reason, ?_, ⟨by simp, by simp, by simp, fun x hx => ?_⟩, ?_,
      fun hturn hfull => ?_⟩⟩
  · rw [State.writeEntry_journal]
    rfl
  · rw [State.writeEntry_journal]
    rfl
  · rw [State.writeEntry_length, State.writeEntry_links]
  · rw [State.handOver_of_full h, State.onlyChanges_iff]
    simp
  · rw [State.closeTurn_turn, if_pos rfl]
  · rw [State.closeTurn_turn, if_neg hx]
  · rw [State.onlyChanges_iff]
    simp
  · obtain ⟨x, hx⟩ := Option.isSome_iff_exists.mp hturn
    rw [State.closeTurn_of_full hx hfull]
    exact State.raise_links_congr (by simp) _ _

/-! ## Flags -/

theorem FlagSet.raise_states (f : FlagSet) (i j n : Nat) (hi : i < 16) (hn : 0 < n) :
    (f.raise i n).states.getLsbD j = (f.states.getLsbD j || decide (j = i)) := by
  rw [FlagSet.raise_pos f i (by omega)]
  have hbit : (BitVec.ofNat 16 (1 <<< i)).getLsbD j = decide (j = i) := by
    rw [BitVec.getLsbD_ofNat, Nat.one_shiftLeft, Nat.testBit_two_pow]
    by_cases h : j = i
    · simp [h, hi]
    · simp [h, Ne.symm h]
  exact (BitVec.getLsbD_or (x := f.states)).trans (congrArg _ hbit)

theorem FlagSet.attention_iff (f : FlagSet) :
    f.attention = true ↔ ∃ i, i < 16 ∧ f.states.getLsbD i = true ∧ f.mask.getLsbD i = true := by
  unfold FlagSet.attention
  rw [decide_eq_true_iff]
  constructor
  · intro h
    by_contra hno
    refine h (BitVec.eq_of_getLsbD_eq fun i hi => ?_)
    rw [BitVec.getLsbD_and, show (0 : Half).getLsbD i = false from BitVec.getLsbD_zero, Bool.and_eq_false_iff]
    by_contra hb
    push Not at hb
    exact hno ⟨i, hi, by simpa using hb.1, by simpa using hb.2⟩
  · rintro ⟨i, -, hs, hm⟩ hz
    have := congrArg (fun w => BitVec.getLsbD w i) hz
    simp [hs, hm] at this

/-- A selection within 16 bits reads bit for bit as its number does. -/
theorem getLsbD_ofNat_half (n i : Nat) (hi : i < 16) : (BitVec.ofNat 16 n).getLsbD i = n.testBit i := by
  rw [BitVec.getLsbD_ofNat, decide_eq_true hi, Bool.true_and]

theorem Table.fetch_filter {α : Type} (d : α) (p : Nat → Bool) (t : Table α) (k : Nat) :
    Table.fetch d (t.filter fun e => p e.1) k = if p k then Table.fetch d t k else d := by
  unfold Table.fetch
  induction t with
  | nil => simp
  | cons e t ih =>
    rw [List.filter_cons]
    by_cases hk : k = e.1
    · subst hk
      cases hp : p e.1 <;> simp_all [Table.fetch?_cons]
    · cases hp : p e.1 <;> simp_all [Table.fetch?_cons]

theorem FlagSet.clear_count (f : FlagSet) (selection : Half) (i : Nat) :
    (f.clear selection).count i = if selection.getLsbD i then 0 else f.count i := by
  have h := Table.fetch_filter 0 (fun k => !bitSet selection k) f.counts i
  unfold FlagSet.count FlagSet.clear
  rw [h]
  cases hb : selection.getLsbD i <;> simp [bitSet, hb]

theorem State.setFlags_frame (s : State) (l : MasterLink) (f : FlagSet) :
    s.onlyChanges (s.setFlags l f) [.links] ∧ s.sameLinks (s.setFlags l f) ∧
      ∀ m, m ≠ l → (s.setFlags l f).flags m = s.flags m := by
  refine ⟨?_, (State.sameLinks_iff_wire _ _).mpr (by simp), fun m hm => by simp [hm]⟩
  rw [State.onlyChanges_iff]
  simp

theorem flagCount_le (l : MasterLink) : l.flagCount ≤ 16 := by cases l <;> decide

/-- A selection or mask beyond the assigned bits is turned away with its place. -/
theorem exec_bits_refused {s : State} {l : MasterLink} {n : Nat} (hrec : s.receives (Link.ofMaster l) = true)
    (hn : (if l = .console then 0x07FF else 0x000F) < n) :
    exec (.maskSet l n) s = .next (s.post (Link.ofMaster l) ⟨Code.maskSet, .badParameter, [f1 1]⟩) ∧
      exec (.flagsClear l n) s = .next (s.post (Link.ofMaster l) ⟨Code.flagsClear, .badParameter, [f1 1]⟩) := by
  obtain ⟨q, hmask, hclear, hq⟩ : ∃ q, Instr.paramsInRange s (.maskSet l n) = [q] ∧
      Instr.paramsInRange s (.flagsClear l n) = [q] ∧ ¬ q := by
    cases l with
    | console => exact ⟨_, rfl, rfl, Nat.not_le.mpr hn⟩
    | counter => exact ⟨_, rfl, rfl, Nat.not_le.mpr hn⟩
  have hmask := firstBad_of_forall₂ (checks_iff_ranges s (.maskSet l n)) 1 (p := 0) (by rw [hmask]; rfl) hq
    fun j _ hj => by omega
  have hclear := firstBad_of_forall₂ (checks_iff_ranges s (.flagsClear l n)) 1 (p := 0) (by rw [hclear]; rfl) hq
    fun j _ hj => by omega
  constructor
  · rw [exec_request (i := .maskSet l n) rfl, serve_received _ _ _ _ (by cases l <;> exact hrec), checked_bad _ _ _ _ hmask]
    cases l <;> rfl
  · rw [exec_request (i := .flagsClear l n) rfl, serve_received _ _ _ _ (by cases l <;> exact hrec),
      checked_bad _ _ _ _ hclear]
    cases l <;> rfl

theorem mask_toNat {l : MasterLink} {s : State} {n : Nat} (h : s.accepts (.maskSet l n)) : n < 65536 := by
  have := h.2 _ List.mem_cons_self
  cases l <;> simp at this <;> omega

/-- Settles O51. -/
theorem flagRequests : Obligations.FlagRequests := by
  refine ⟨fun s l => ⟨fun hacc => ?_, fun mask hacc => ?_, fun hrec n hn => exec_bits_refused hrec hn,
    fun selection hacc => ?_⟩, fun f i n hi hn => ⟨?_, fun j => f.raise_states i j n hi hn, fun j => ?_⟩,
    fun s l => (s.flags l).attention_iff⟩
  · cases l <;> exact exec_reply rfl hacc rfl
  · obtain ⟨hf, hw, hm⟩ := s.setFlags_frame l { s.flags l with mask := BitVec.ofNat 16 mask }
    refine ⟨_, ?_, hf, hw, hm, ?_, ?_, ?_⟩
    · cases l <;> exact exec_reply rfl hacc rfl
    · rw [State.flags_setFlags, if_pos rfl]
      exact (BitVec.toNat_ofNat mask 16).trans (Nat.mod_eq_of_lt (b := 65536) (mask_toNat hacc))
    · rw [State.flags_setFlags, if_pos rfl]
    · rw [State.flags_setFlags, if_pos rfl]
  · obtain ⟨hf, hw, hm⟩ := s.setFlags_frame l ((s.flags l).clear (BitVec.ofNat 16 selection))
    have hflags : (s.setFlags l ((s.flags l).clear (BitVec.ofNat 16 selection))).flags l =
        (s.flags l).clear (BitVec.ofNat 16 selection) := by rw [State.flags_setFlags, if_pos rfl]
    have hsel : (List.range l.flagCount).filter (bitSet (BitVec.ofNat 16 selection)) =
        (List.range l.flagCount).filter fun i => selection.testBit i :=
      List.filter_congr fun i hi => getLsbD_ofNat_half _ _
        (lt_of_lt_of_le (List.mem_range.mp hi) (flagCount_le l))
    refine ⟨_, ?_, hf, hw, hm, ?_, fun i hi => ⟨?_, ?_⟩⟩
    · rw [hflags, ← hsel]
      cases l <;> exact exec_reply rfl hacc rfl
    · rw [hflags]
      rfl
    · rw [hflags, FlagSet.clear, BitVec.getLsbD_and, BitVec.getLsbD_not, getLsbD_ofNat_half _ _ hi]
      simp [hi]
    · rw [hflags, FlagSet.clear_count, getLsbD_ofNat_half _ _ hi]
  · rw [FlagSet.raise_pos f i (by omega)]
  · rw [FlagSet.count_raise _ _ _ _ (by omega)]
    rfl

end Sys2Proof.Machine
end

section
/-! Sittings (O27, O28), the meter second (O29) and the return grace (O30). -/

namespace Sys2Proof.Machine

open Sys2Proof

/-! ## The overdue sweep -/

theorem State.sweeps_eq (s : State) (r : Receiver) : s.sweeps r = s.dueBack r := by
  unfold State.sweeps State.dueBack
  cases r.state <;> cases hh : r.hire with
  | none => simp
  | some h => cases ha : s.account h.account <;> simp [ha]

theorem State.sweep_sweptTo (s : State) : s.sweptTo s.sweep := by
  refine ⟨by simp [State.sweep], ?_, s.sweepCount, ?_, ?_⟩
  · show s.register.slots.map (fun e => (e.1, s.swept e.2)) = _
    refine List.map_congr_left fun e _ => ?_
    rw [State.swept, s.sweeps_eq]
  · unfold State.sweepCount
    simp only [State.sweeps_eq]
  · exact State.raiseCounter_links_congr (State.raise_links_congr (by simp) _ _) _ _

/-- The sweep speaks of the register, the accounts and the flags alone. -/
theorem State.sweptTo.congr {s t u v : State} (h : s.sweptTo t) (hr : u.register = s.register) (hh : u.hire = s.hire)
    (hl : u.links = s.links) (hr' : v.register = t.register) (hl' : v.links = t.links) : u.sweptTo v := by
  obtain ⟨hw, hs, n, hn, hlinks⟩ := h
  have hdue : u.dueBack = s.dueBack := by
    funext r
    simp only [State.dueBack, State.account, hh]
  refine ⟨by rw [hr', hr, hw], by rw [hr', hr, hdue, hs], n, by rw [hr, hdue, hn], ?_⟩
  rw [hl', hlinks]
  exact (State.raiseCounter_links_congr (State.raise_links_congr hl _ _) _ _).symm

/-- Settles O30. -/
theorem graceExpirySweeps : Obligations.GraceExpirySweeps := by
  refine fun s => ⟨fun h => ?_, fun h => ⟨s.graceExpired, ?_, ?_, ?_, by simp [State.graceExpired], ?_⟩⟩
  · show execReturnGraceExpiry s = _
    rw [execReturnGraceExpiry, if_neg h]
  · show execReturnGraceExpiry s = _
    rw [execReturnGraceExpiry, if_pos h]
  · rw [State.onlyChanges_iff]
    simp
  · rw [State.sameLinks_iff_wire]
    simp [State.graceExpired]
  · exact (State.sweep_sweptTo _).congr rfl rfl rfl rfl rfl

/-! ## Sittings -/

/-- Settles O27. -/
theorem sittingOpens : Obligations.SittingOpens := by
  intro s hrec
  have hacc : s.accepts .sittingOpen := accepts_of_receives rfl hrec rfl
  refine ⟨fun ho => ?_, fun ho hs => ?_, fun ho hs hm ht => ⟨s.openSitting, s.meter.opened.number, ?_, rfl, ?_, ?_⟩⟩
  · exact exec_reply (i := .sittingOpen) rfl hacc (by simp [Instr.rule, ho])
  · exact exec_reply (i := .sittingOpen) rfl hacc (by simp [Instr.rule, ho, State.onAir, hs])
  · exact exec_reply (i := .sittingOpen) rfl hacc (by simp [Instr.rule, ho, State.onAir, hs])
  · rw [State.onlyChanges_iff]
    simp
  · have hmeter := State.TurnLaw.openSitting_frame s
    have hturn := ht.openSitting_turn ho hm.sound
    refine ⟨by rw [hmeter]; rfl, by rw [hmeter]; rfl, by rw [hmeter]; rfl, by rw [hmeter]; rfl, fun b => ?_,
      fun b hb => ?_, fun b d c hb => ?_⟩
    · unfold State.totals
      rw [hmeter]
      rfl
    · rw [hturn, hb]
      rfl
    · rw [hturn, hb]
      rfl

/-- R109: the effect of SITTING_CLOSE up to the return grace. -/
def State.sittingEnded (s : State) : State := (s.closeTurns .sittingClose).closeRecord.handSitting

theorem State.sittingEnded_meter (s : State) :
    s.sittingEnded.meter = (s.closeTurns .sittingClose).closeRecord.meter := by
  simp [State.sittingEnded, State.handSitting]

/-- What SITTING_CLOSE hands to the journal, and the flags of it. -/
theorem State.sittingEnded_handed (s : State) :
    ∃ x : Sitting, x = s.turnsCounted Config.boothNumbers ∧
      s.sittingEnded.meter.sitting = { x with isOpen := false, closeTime := some s.meter.time } ∧
      s.turnsFolded s.sittingEnded Config.boothNumbers ∧
      s.sittingEnded.journal = s.journalWith (s.turnEntries Config.boothNumbers .sittingClose ++
        [.sitting { x with isOpen := false, closeTime := some s.meter.time }.body]) ∧
      s.sittingEnded.links = (s.handedOver ((s.metered Config.boothNumbers).length + 1)).links := by
  obtain ⟨hh, hl⟩ := s.closeTurns_handed .sittingClose
  have hmeter := s.sittingEnded_meter
  have hlen := s.turnEntries_length Config.boothNumbers .sittingClose
  have hended : s.sittingEnded = (s.closeTurns .sittingClose).closeRecord.handSitting := rfl
  have hclosed : (s.closeTurns .sittingClose).closeRecord.meter.sitting =
      { s.turnsCounted Config.boothNumbers with isOpen := false, closeTime := some s.meter.time } := by
    rw [← hh.sitting, ← hh.handed.time]
    generalize s.closeTurns .sittingClose = t
    rfl
  have htotals (b : Nat) : s.sittingEnded.totals b = (s.closeTurns .sittingClose).totals b := by
    simp only [State.totals, hmeter]
    generalize s.closeTurns .sittingClose = t
    rfl
  have hrec : s.HandedTo (s.closeTurns .sittingClose).closeRecord (s.turnEntries Config.boothNumbers .sittingClose) :=
    hh.handed.congr (by simp) (by generalize s.closeTurns .sittingClose = t; rfl)
  have hrl : (s.closeTurns .sittingClose).closeRecord.links =
      (s.handedOver (s.turnEntries Config.boothNumbers .sittingClose).length).links := by
    rw [hlen, ← hl]
    simp
  refine ⟨_, rfl, by rw [hmeter, hclosed], fun b => ?_, ?_, ?_⟩
  · rw [htotals]
    exact hh.totals b
  · rw [hended, State.handSitting, hclosed]
    exact (hrec.handOver _).journal
  · rw [hended, State.handSitting, ← hlen]
    exact hrec.links_handOver hrl _

theorem State.closeSitting_eq (s : State) : s.closeSitting = s.sittingEnded.startGrace := rfl

theorem State.handedOver_register (s : State) (n : Nat) : (s.handedOver n).register = s.register := by
  unfold State.handedOver
  dsimp only
  (repeat' split) <;> simp

theorem State.handedOver_hire (s : State) (n : Nat) : (s.handedOver n).hire = s.hire := by
  unfold State.handedOver
  dsimp only
  (repeat' split) <;> simp

theorem State.startGrace_sitting (s : State) : s.startGrace.meter.sitting = s.meter.sitting := by
  unfold State.startGrace
  split <;> simp

theorem State.startGrace_totals (s : State) (b : Nat) : s.startGrace.totals b = s.totals b := by
  unfold State.startGrace State.totals
  split <;> simp

theorem State.startGrace_time (s : State) : s.startGrace.meter.time = s.meter.time ∧
    s.startGrace.meter.graceSetting = s.meter.graceSetting := by
  unfold State.startGrace
  split <;> simp

/-- Settles O28. -/
theorem sittingCloses : Obligations.SittingCloses := by
  intro s hrec
  have hacc : s.accepts .sittingClose := accepts_of_receives rfl hrec rfl
  refine ⟨fun ho => exec_reply (i := .sittingClose) rfl hacc (by simp [Instr.rule, ho]), fun ho hm ht => ?_⟩
  obtain ⟨x, hx, hsit, hfold, hjournal, hlinks⟩ := s.sittingEnded_handed
  have hmeter := s.sittingEnded_meter
  obtain ⟨-, hset, hgr, htime⟩ := State.TurnLaw.closeTurns_meter s .sittingClose
  have hset' : s.sittingEnded.meter.graceSetting = s.meter.graceSetting := by
    rw [hmeter, ← hset]
    generalize s.closeTurns .sittingClose = t
    rfl
  have hgr' : s.sittingEnded.meter.graceTimer = s.meter.graceTimer := by
    rw [hmeter, ← hgr]
    generalize s.closeTurns .sittingClose = t
    rfl
  have htime' : s.sittingEnded.meter.time = s.meter.time := by
    rw [hmeter, ← htime]
    generalize s.closeTurns .sittingClose = t
    rfl
  have hregister : s.sittingEnded.register = s.register := by simp [State.sittingEnded]
  have hhire : s.sittingEnded.hire = s.hire := by simp [State.sittingEnded]
  have hturn (b : Nat) : s.sittingEnded.startGrace.turn b = none := by
    have hlaw := (State.TurnLaw.closeSitting ht hm.sound).turn_none_of_closed (b := b)
    rw [State.closeSitting_eq, State.startGrace_sitting, hsit] at hlaw
    exact hlaw rfl
  refine ⟨s.sittingEnded.startGrace, x, exec_reply (i := .sittingClose) rfl hacc ?_, ?_, ?_, hx, ?_, hturn, fun b => ?_, ?_,
    ?_, ?_, _, rfl, fun hz => ⟨?_, ?_, ?_⟩, fun hz => ⟨?_, ?_⟩⟩
  · simp only [Instr.rule, ho, if_true, State.closeSitting_eq]
    rw [State.startGrace_sitting, hsit, hx]
    rfl
  · rw [State.onlyChanges_iff]
    simp [State.sittingEnded]
  · rw [State.sameLinks_iff_wire]
    simp [State.sittingEnded, State.handSitting]
  · rw [State.startGrace_sitting, hsit]
  · rw [State.startGrace_totals]
    exact hfold b
  · rw [(State.startGrace_time _).1, htime']
  · rw [(State.startGrace_time _).2, hset']
  · rw [State.startGrace_journal, hjournal, hx]
    rfl
  · simp [State.startGrace, hset', hz, hregister]
  · simp [State.startGrace, hset', hz, Nat.mul_comm]
  · simp [State.startGrace, hset', hz, hlinks]
  · rw [State.startGrace, if_pos (hset'.trans hz)]
    exact s.sittingEnded.sweep_sweptTo.congr (by rw [State.handedOver_register, hregister])
      (by rw [State.handedOver_hire, hhire]) hlinks.symm rfl rfl
  · rw [State.startGrace, if_pos (hset'.trans hz), State.sweep_meter, hgr']

/-! ## The meter second -/

theorem State.countTurn_rest (s : State) (b : Nat) : (s.countTurn b).bdc = s.bdc ∧ (s.countTurn b).framer = s.framer ∧
    (s.countTurn b).relay = s.relay ∧ (s.countTurn b).meter = { s.meter with
      turns := (s.countTurn b).meter.turns, totals := (s.countTurn b).meter.totals
      sitting := { s.meter.sitting with onAir := (s.countTurn b).meter.sitting.onAir } } := by
  unfold State.countTurn
  split <;> exact ⟨rfl, rfl, rfl, rfl⟩

theorem State.countTurn_totals (s : State) (b x : Nat) : (s.countTurn b).totals x =
    if x = b then ((s.turn b).map fun t => (s.totals b).count (s.heldSecond b t) (s.relaySecond b)).getD (s.totals b)
    else s.totals x := by
  unfold State.countTurn
  cases ht : s.turn b with
  | none =>
    dsimp only
    split
    · next he => rw [he]; rfl
    · rfl
  | some t => exact Table.fetch_store ({} : Totals) s.meter.totals b x _

/-- R113: whether booth `b` has a turn whose second is on air. -/
def State.countsOnAir (s : State) (b : Nat) : Bool := (s.turn b).any fun t => !s.heldSecond b t

theorem State.countTurn_onAir (s : State) (b : Nat) (h : s.meter.sitting.onAir ≤ 4294967295) :
    (s.countTurn b).meter.sitting.onAir = min 4294967295 (s.meter.sitting.onAir + (if s.countsOnAir b then 1 else 0)) := by
  unfold State.countTurn State.countsOnAir
  cases ht : s.turn b with
  | none => simp [h]
  | some t =>
    show (if s.heldSecond b t = true then s.meter.sitting.onAir else satAdd Config.max32 s.meter.sitting.onAir 1) = _
    cases hh : s.heldSecond b t <;> simp [hh, h, satAdd, Config.max32]

theorem State.heldSecond_congr {s t : State} (hb : t.bdc = s.bdc) (hf : t.framer = s.framer) (b : Nat) (x : Turn) :
    t.heldSecond b x = s.heldSecond b x := by
  simp only [State.heldSecond, State.desk_congr hb, hf]

theorem State.relaySecond_congr {s t : State} (h : t.relay = s.relay) (b : Nat) : t.relaySecond b = s.relaySecond b := by
  simp only [State.relaySecond, State.relayRec_congr h]

/-- From `s` to `t` the second of the booths `bs` has been counted: in their turns, their totals and the sitting. -/
structure State.Counted (s t : State) (bs : List Nat) : Prop where
  rest : t.meter = { s.meter with
    turns := t.meter.turns, totals := t.meter.totals
    sitting := { s.meter.sitting with onAir := t.meter.sitting.onAir } }
  turn : ∀ b, t.turn b = if b ∈ bs then (s.turn b).map fun x => x.count (s.heldSecond b x) (s.relaySecond b) else s.turn b
  totals : ∀ b, t.totals b =
    if b ∈ bs then
      ((s.turn b).map fun x => (s.totals b).count (s.heldSecond b x) (s.relaySecond b)).getD (s.totals b)
    else s.totals b
  onAir : s.meter.sitting.onAir ≤ 4294967295 →
    t.meter.sitting.onAir = min 4294967295 (s.meter.sitting.onAir + (bs.filter s.countsOnAir).length)

/-- R106, step 2: booths without repetition counted one after another. -/
theorem State.foldl_countTurn {bs : List Nat} (hnd : bs.Nodup) (s : State) :
    s.Counted (bs.foldl State.countTurn s) bs := by
  induction bs generalizing s with
  | nil => exact ⟨rfl, fun _ => rfl, fun _ => rfl, fun h => by simp [h]⟩
  | cons b bs ih =>
    obtain ⟨hb, hnd⟩ := List.nodup_cons.mp hnd
    obtain ⟨hbdc, hframer, hrelay, hmeter⟩ := s.countTurn_rest b
    obtain ⟨hrest, hturn, htotals, honAir⟩ := ih hnd (s.countTurn b)
    have hheld := State.heldSecond_congr hbdc hframer
    have hrel := State.relaySecond_congr hrelay
    refine ⟨?_, fun x => ?_, fun x => ?_, fun hle => ?_⟩
    · rw [List.foldl_cons, hrest, hmeter]
    · rw [List.foldl_cons, hturn, State.TurnLaw.countTurn_turn]
      simp only [hheld, hrel, List.mem_cons]
      by_cases hx : x = b
      · subst hx
        simp [hb]
      · simp [hx]
    · rw [List.foldl_cons, htotals, State.TurnLaw.countTurn_turn, State.countTurn_totals]
      simp only [hheld, hrel, List.mem_cons]
      by_cases hx : x = b
      · subst hx
        simp [hb]
      · simp [hx]
    · have hone := s.countTurn_onAir b hle
      have hfilter : bs.filter (s.countTurn b).countsOnAir = bs.filter s.countsOnAir :=
        List.filter_congr fun x hx => by
          have hne : x ≠ b := fun he => hb (he ▸ hx)
          simp only [State.countsOnAir, State.TurnLaw.countTurn_turn, if_neg hne, hheld]
      rw [List.foldl_cons, honAir (by rw [hone]; exact Nat.min_le_left _ _), hone, hfilter, List.filter_cons]
      cases s.countsOnAir b <;> simp <;> omega

theorem State.tickTimers_booth_mem (s : State) {b : Nat} (hb : b ∈ Config.boothNumbers) :
    s.tickTimers.booth b = { s.booth b with offerTimer := (s.booth b).offerTimer.map fun n => n - 1 } :=
  (Table.fetch_fill _ _ _ _ _).trans (if_pos hb)

theorem State.tickTimers_relayRec_mem (s : State) {b : Nat} (hb : b ∈ Config.boothNumbers) :
    s.tickTimers.relayRec b = { s.relayRec b with timer := (s.relayRec b).timer.map fun n => n - 1 } :=
  (Table.fetch_fill _ _ _ _ _).trans (if_pos hb)

theorem State.tickGrace_meter (s : State) : s.tickGrace.meter = { s.meter with
    graceTimer := if s.meter.graceTimer = some 1 then none else s.meter.graceTimer.map fun n => n - 1 } := by
  rcases s.tickGrace_cases with ⟨h, hg⟩ | ⟨h, hg⟩ <;> rw [hg] <;> simp [h]

theorem State.relaySecond_iff (s : State) (b : Nat) :
    s.relaySecond b = true ↔ ∃ c, (s.relayRec b).source = .channel c := by
  unfold State.relaySecond
  cases (s.relayRec b).source <;> simp

theorem State.heldSecond_iff (s : State) (b : Nat) (x : Turn) :
    s.heldSecond b x = true ↔ (s.desk b x.desk).cough = true ∨ s.framer.override ≠ .off := by
  simp [State.heldSecond]

theorem State.countsOnAir_eq (s : State) : s.countsOnAir = fun b =>
    (s.turn b).any fun x => !(s.desk b x.desk).cough && decide (s.framer.override = .off) := by
  funext b
  refine congrArg (fun p => Option.any p (s.turn b)) (funext fun x => ?_)
  simp [State.heldSecond]

theorem State.countSecond_counted {s : State} (h : s.meter.time < 4294967295) :
    (s.setMeter { s.meter with time := s.meter.time + 1 }).Counted s.countSecond Config.boothNumbers := by
  rw [State.countSecond, if_pos (show s.meter.time < Config.max32 from h)]
  exact State.foldl_countTurn boothNumbers_nodup _

theorem State.countSecond_saturated {s : State} (h : 4294967295 ≤ s.meter.time) : s.countSecond = s :=
  if_neg (by rw [show Config.max32 = 4294967295 from rfl]; omega)

/-- R106, steps 1 and 2: what a second leaves of the meter but for turns, totals and the sitting's on-air seconds. -/
theorem State.countSecond_meter (s : State) : s.countSecond.meter = { s.meter with
    time := if s.meter.time < 4294967295 then s.meter.time + 1 else s.meter.time
    turns := s.countSecond.meter.turns, totals := s.countSecond.meter.totals
    sitting := { s.meter.sitting with onAir := s.countSecond.meter.sitting.onAir } } := by
  by_cases h : s.meter.time < 4294967295
  · rw [if_pos h]
    exact (State.countSecond_counted h).rest
  · rw [State.countSecond_saturated (by omega), if_neg h]

/-- The state after a meter second that is counted. -/
def State.secondPassed (s : State) : State := s.countSecond.tickGrace.tickTimers

theorem State.secondPassed_meter (s : State) : s.secondPassed.meter = { s.countSecond.meter with
    graceTimer := if s.meter.graceTimer = some 1 then none else s.meter.graceTimer.map fun n => n - 1 } := by
  have hg : s.countSecond.meter.graceTimer = s.meter.graceTimer := by rw [s.countSecond_meter]
  rw [State.secondPassed, State.tickTimers_meter, State.tickGrace_meter, hg]

theorem State.secondPassed_turn (s : State) (b : Nat) : s.secondPassed.turn b = s.countSecond.turn b := by
  simp only [State.turn, s.secondPassed_meter]

theorem State.secondPassed_totals (s : State) (b : Nat) : s.secondPassed.totals b = s.countSecond.totals b := by
  simp only [State.totals, s.secondPassed_meter]

/-- R116: what the second does to the return grace. -/
theorem State.secondPassed_grace (s : State) :
    (s.meter.graceTimer = some 1 → s.secondPassed.meter.graceTimer = none ∧ s.sweptTo s.secondPassed) ∧
    (s.meter.graceTimer ≠ some 1 → s.secondPassed.meter.graceTimer = s.meter.graceTimer.map (fun n => n - 1) ∧
      s.secondPassed.register = s.register ∧ s.secondPassed.links = s.links) := by
  have hg : s.countSecond.meter.graceTimer = s.meter.graceTimer := by rw [s.countSecond_meter]
  rcases s.countSecond.tickGrace_cases with ⟨h, ht⟩ | ⟨h, ht⟩
  · refine ⟨fun h1 => ⟨by rw [s.secondPassed_meter, if_pos h1], ?_⟩, fun h1 => absurd (hg ▸ h) h1⟩
    rw [State.secondPassed, ht]
    exact (State.sweep_sweptTo (s.countSecond.setMeter { s.countSecond.meter with graceTimer := none })).congr (by simp)
      (by simp) (by simp) (by simp) (by simp)
  · refine ⟨fun h1 => absurd (hg.trans h1) h, fun h1 => ⟨by rw [s.secondPassed_meter, if_neg h1], ?_, ?_⟩⟩ <;>
      rw [State.secondPassed, ht] <;> simp

/-- Settles O29. -/
theorem meterSecondCounts : Obligations.MeterSecondCounts := by
  intro s
  refine ⟨fun hp => ?_, fun hp => ?_⟩
  · show execMeterSecond s = _
    rw [execMeterSecond, if_pos hp]
  have hexec : exec .meterSecond s = .next s.secondPassed := by
    show execMeterSecond s = _
    rw [execMeterSecond, if_neg (by simp [hp])]
    rfl
  obtain ⟨hgrace, hno⟩ := s.secondPassed_grace
  have hmeter := s.secondPassed_meter
  have hcount := s.countSecond_meter
  refine ⟨s.secondPassed, hexec, ?_, ?_, ?_, hgrace, hno, fun b hb => ⟨?_, ?_⟩, ?_, ?_, ?_, ?_, ?_, ?_, ?_,
    fun b hb => ?_, fun hsat b => ?_, fun b hb x hx hlt => ?_⟩
  · rw [State.onlyChanges_iff]
    simp [State.secondPassed]
  · rw [hmeter, hcount]
  · rw [hmeter, hcount]
  · rw [State.secondPassed, State.tickTimers_booth_mem _ hb, State.booth_congr (s := s) (by simp)]
  · rw [State.secondPassed, State.tickTimers_relayRec_mem _ hb, State.relayRec_congr (s := s) (by simp)]
  · simp [State.secondPassed, State.tickTimers]
  · simp [State.secondPassed, State.tickTimers]
  · simp [State.secondPassed, State.tickTimers]
  · simp [State.secondPassed, State.tickTimers]
  · simp [State.secondPassed, State.tickTimers]
  · rw [hmeter, hcount]
  · intro hle
    rw [hmeter]
    by_cases h : s.meter.time < 4294967295
    · rw [if_pos h]
      refine ((State.countSecond_counted h).onAir hle).trans ?_
      rw [show (s.setMeter { s.meter with time := s.meter.time + 1 }).countsOnAir = s.countsOnAir from rfl,
        s.countsOnAir_eq]
      rfl
    · rw [if_neg h, State.countSecond_saturated (by omega)]
  · rw [s.secondPassed_turn, s.secondPassed_totals]
    by_cases h : s.meter.time < 4294967295
    · have hb' : (s.setMeter { s.meter with time := s.meter.time + 1 }).turn b = none := hb
      rw [(State.countSecond_counted h).turn, (State.countSecond_counted h).totals, hb']
      exact ⟨ite_self _, ite_self _⟩
    · rw [State.countSecond_saturated (by omega)]
      exact ⟨hb, rfl⟩
  · rw [s.secondPassed_turn, s.secondPassed_totals, State.countSecond_saturated hsat]
    exact ⟨rfl, rfl⟩
  · have hx' : (s.setMeter { s.meter with time := s.meter.time + 1 }).turn b = some x := hx
    refine ⟨s.heldSecond b x, s.relaySecond b, s.heldSecond_iff b x, s.relaySecond_iff b, ?_, ?_⟩
    · rw [s.secondPassed_turn, (State.countSecond_counted hlt).turn, if_pos hb, hx']
      rfl
    · rw [s.secondPassed_totals, (State.countSecond_counted hlt).totals, if_pos hb, hx']
      rfl

end Sys2Proof.Machine
end

section
/-! The receiver register: registration and reading (O42), withdrawal, repair, rack reports and FOUND (O43). -/

namespace Sys2Proof.Machine

open Sys2Proof

/-! ## Searches over slots -/

theorem firstFree_eq (t : Table Receiver) (n slot : Nat) :
    firstFree t slot n = (List.range' slot n).find? fun x => (Table.fetch? t x).isNone := by
  induction n generalizing slot with
  | zero => rfl
  | succ n ih =>
    rw [firstFree, List.range'_succ, List.find?_cons, ih]
    cases (Table.fetch? t slot).isNone <;> rfl

theorem firstOccupied_eq (t : Table Receiver) (n slot : Nat) :
    firstOccupied t slot n = ((List.range' slot n).find? fun x => (Table.fetch? t x).isSome).bind fun x =>
      (Table.fetch? t x).map fun r => (x, r) := by
  induction n generalizing slot with
  | zero => rfl
  | succ n ih =>
    rw [firstOccupied, List.range'_succ, List.find?_cons]
    cases h : Table.fetch? t slot with
    | none => simpa using ih (slot + 1)
    | some r => simp [h]

/-- R126, R127: the slots in the order in which RX_REGISTER_NEXT searches them. -/
def Register.searchOrder (x : Register) : List Nat :=
  List.range' x.window.write (x.window.last + 1 - x.window.write) ++
    (if x.window.wrap then List.range' x.window.first (x.window.write - x.window.first) else [])

theorem Register.nextFree_eq (x : Register) :
    x.nextFree = x.searchOrder.find? fun k => (Table.fetch? x.slots k).isNone := by
  rw [Register.searchOrder, List.find?_append, Register.nextFree, Register.searchRound, Register.searchForward,
    firstFree_eq, firstFree_eq]
  cases x.window.wrap with
  | false => simp
  | true =>
    cases (List.range' x.window.write (x.window.last + 1 - x.window.write)).find? fun k => (Table.fetch? x.slots k).isNone
    <;> rfl

theorem Table.fetch?_eq_of_mem {α : Type} {t : Table α} (hn : (t.map Prod.fst).Nodup) {k : Nat} {v : α}
    (h : (k, v) ∈ t) : Table.fetch? t k = some v := by
  obtain ⟨w, hw⟩ := Option.isSome_iff_exists.mp (Table.fetch?_of_mem t k (List.mem_map_of_mem h))
  have := List.inj_on_of_nodup_map hn (Table.mem_of_fetch? hw) h rfl
  rw [hw, (Prod.mk.inj this).2]

/-- R121: with serials and slots unique the serial lookup finds exactly the records in the slots. -/
theorem findSerial_iff {t : Table Receiver} (hs : (t.map fun e => e.2.serial).Nodup) (serial slot : Nat) (r : Receiver) :
    findSerial t serial = some (slot, r) ↔ (slot, r) ∈ t ∧ r.serial = serial := by
  refine ⟨findSerial_some, fun ⟨hm, hr⟩ => ?_⟩
  cases hf : findSerial t serial with
  | none => exact absurd hr (findSerial_none hf _ hm)
  | some e =>
    obtain ⟨hm', hr'⟩ := findSerial_some (slot := e.1) (r := e.2) hf
    exact congrArg some (List.inj_on_of_nodup_map hs hm' hm (hr'.trans hr.symm))

/-! ## Registration and the window -/

/-- One slot written, its window kept. -/
theorem State.setSlot_rule (s : State) (slot : Nat) (r : Receiver) :
    s.onlyChanges (s.setSlot slot r) [.register] ∧ s.slotsBut (s.setSlot slot r) slot ∧
      Table.fetch? (s.setSlot slot r).register.slots slot = some r := by
  refine ⟨?_, ⟨rfl, fun x hx => ?_⟩, ?_⟩
  · rw [State.onlyChanges_iff]
    simp
  · exact (Table.fetch?_insert _ _ _ _).trans (if_neg hx)
  · exact (Table.fetch?_insert _ _ _ _).trans (if_pos rfl)

theorem State.setWindow_frame (s : State) (w : Window) : s.onlyChanges (s.setWindow w) [.register] := by
  rw [State.onlyChanges_iff]
  simp [State.setWindow]

/-- Settles O42. -/
theorem registrationTakesAFreeSlot : Obligations.RegistrationTakesAFreeSlot := by
  refine fun s => ⟨fun serial cls fresh hfresh => ⟨fun hacc => ⟨fun slot r hr => ?_, fun hn => ⟨fun slot hs => ?_,
    fun hs => ?_⟩⟩, fun hacc order horder => ⟨fun slot r hr => ?_, fun hn => ⟨fun slot hs => ?_, fun hs => ?_⟩⟩⟩,
    fun first last mode hacc => ⟨_, exec_reply (i := .rxWindow first last mode) rfl hacc rfl, s.setWindow_frame _, rfl, rfl⟩,
    fun hrec walk hwalk => ⟨fun slot r hs hr => ?_, fun hs => ?_⟩, fun hh ht serial slot r => ?_⟩
  · exact exec_reply (i := .rxRegister serial cls) rfl hacc (by simp only [Instr.rule, registerReply, hr])
  · have hfree : firstFree s.register.slots 0 Config.registerSize = some slot := by
      rw [firstFree_eq, ← hs, List.range_eq_range', show Config.registerSize = 2048 from rfl]
    obtain ⟨hf, hb, hat⟩ := s.setSlot_rule slot (Receiver.fresh serial (RxClass.ofPlace cls))
    exact ⟨_, exec_reply (i := .rxRegister serial cls) rfl hacc (by
      simp only [Instr.rule, registerReply, hn, hfree]), hf, by rw [hat, hfresh]; rfl, hb⟩
  · have hfull : firstFree s.register.slots 0 Config.registerSize = none := by
      rw [firstFree_eq, ← hs, List.range_eq_range', show Config.registerSize = 2048 from rfl]
    exact exec_reply (i := .rxRegister serial cls) rfl hacc (by simp only [Instr.rule, registerReply, hn, hfull])
  · exact exec_reply (i := .rxRegisterNext serial cls) rfl hacc (by simp only [Instr.rule, registerNextReply, hr])
  · have hfree : s.register.nextFree = some slot := by rw [Register.nextFree_eq, ← hs, horder]; rfl
    obtain ⟨hf, hb, hat⟩ := s.setSlot_rule slot (Receiver.fresh serial (RxClass.ofPlace cls))
    refine ⟨(s.setSlot slot (Receiver.fresh serial (RxClass.ofPlace cls))).setWindow (s.register.window.advance slot),
      exec_reply (i := .rxRegisterNext serial cls) rfl hacc (by
        simp only [Instr.rule, registerNextReply, hn, hfree]), ?_, hat.trans (by rw [hfresh]; rfl), hb.2, rfl⟩
    rw [State.onlyChanges_iff]
    simp [State.setWindow]
  · have hfull : s.register.nextFree = none := by rw [Register.nextFree_eq, ← hs, horder]; rfl
    exact exec_reply (i := .rxRegisterNext serial cls) rfl hacc (by simp only [Instr.rule, registerNextReply, hn, hfull])
  · have hfirst : firstOccupied s.register.slots s.register.window.read
        (s.register.window.last + 1 - s.register.window.read) = some (slot, r) := by
      rw [firstOccupied_eq, ← hwalk, hs]
      simp [hr]
    exact ⟨s.setWindow { s.register.window with read := slot + 1 },
      exec_reply (i := .rxReadNext) rfl (accepts_of_receives rfl hrec rfl) (by
        simp only [Instr.rule, readNextReply, hfirst]), s.setWindow_frame _, rfl, rfl⟩
  · have hnone : firstOccupied s.register.slots s.register.window.read
        (s.register.window.last + 1 - s.register.window.read) = none := by
      rw [firstOccupied_eq, ← hwalk, hs]
      rfl
    exact ⟨s.setWindow { s.register.window with read := s.register.window.last + 1 },
      exec_reply (i := .rxReadNext) rfl (accepts_of_receives rfl hrec rfl) (by
        simp only [Instr.rule, readNextReply, hnone]), s.setWindow_frame _, rfl, rfl⟩
  · rw [State.receiver, findSerial_iff hh.serials]
    exact and_congr_left fun _ => ⟨Table.fetch?_eq_of_mem hh.slots, Table.mem_of_fetch?⟩

/-! ## Service -/

theorem Receiver.onHire_iff (r : Receiver) : r.onHire = true ↔ r.state = .onHire ∨ r.state = .overdue := by
  simp [Receiver.onHire]

theorem State.hireSideRoom_iff (s : State) : s.hireSideRoom = true ↔ 32 < s.journal.free := decide_eq_true_iff

/-- R132: a rack result that a record not on hire takes. -/
theorem Receiver.racked_ofPlace {r : Receiver} {n : Nat} (h : r.state = .charging ∨ r.state = .available ∧ n = 1) :
    r.racked (RackResult.ofPlace n) = some (if n = 0 then { r with state := .available, lastRack := .charged }
      else { r with state := .faulty, lastRack := .fault }) := by
  unfold Receiver.racked RackResult.ofPlace
  rcases h with h | ⟨h, rfl⟩
  · by_cases hn : n = 0 <;> simp [h, hn]
  · simp [h]

theorem Receiver.racked_none {r : Receiver} {n : Nat} (hn : n ≤ 1) (h : ¬ (r.state = .charging ∨ r.state = .available ∧ n = 1)) :
    r.racked (RackResult.ofPlace n) = none := by
  unfold Receiver.racked RackResult.ofPlace
  obtain ⟨hc, ha⟩ := not_or.mp h
  cases hs : r.state with
  | charging => exact absurd hs hc
  | available =>
    have : n = 0 := by
      have : n ≠ 1 := fun h1 => ha ⟨hs, h1⟩
      omega
    simp [this]
  | onHire => rfl
  | overdue => rfl
  | lost => rfl
  | faulty => rfl

/-- A serial that is not registered is answered so by every request that names a receiver. -/
theorem rule_noSuchReceiver {s : State} {serial : Nat} (h : s.receiver serial = none) {i : Instr}
    (hi : i ∈ [.rxQuery .console serial, .rxQuery .counter serial, .rxWithdraw serial, .repaired serial,
        .rackReport serial 0, .rackReport serial 1, .rxReturn serial, .lost serial, .found serial] ∨
      (∃ x, i = .rxPreset serial x) ∨ (∃ x y z, i = .issue serial x y z)) :
    i.rule s = ⟨s, .noSuchReceiver, []⟩ := by
  rcases hi with hi | ⟨x, rfl⟩ | ⟨x, y, z, rfl⟩
  · simp only [List.mem_cons, List.not_mem_nil, or_false] at hi
    rcases hi with rfl | rfl | rfl | rfl | rfl | rfl | rfl | rfl | rfl <;>
      simp only [Instr.rule, queryReply, withdrawReply, repairedReply, rackReportReply, leaveReply, foundReply, h]
  · simp only [Instr.rule, presetReply, h]
  · simp only [Instr.rule, issueReply, h]

/-- A slot freed, its window kept. -/
theorem State.freeSlot_rule (s : State) (slot : Nat) :
    s.onlyChanges (s.freeSlot slot) [.register] ∧ s.slotsBut (s.freeSlot slot) slot ∧
      Table.fetch? (s.freeSlot slot).register.slots slot = none := by
  refine ⟨?_, ⟨rfl, fun x hx => ?_⟩, ?_⟩
  · rw [State.onlyChanges_iff]
    simp [State.freeSlot]
  · exact (Table.fetch?_remove _ _ _).trans (if_neg hx)
  · exact (Table.fetch?_remove _ _ _).trans (if_pos rfl)

/-- R132: the rule of RACK_REPORT for a receiver not on hire. -/
theorem rackReportReply_offHire {s : State} {serial slot : Nat} {r : Receiver} (h : s.receiver serial = some (slot, r))
    (hoff : r.onHire = false) (result : RackResult) : rackReportReply serial result s = rackReply slot r result s := by
  simp only [rackReportReply, h, hoff]

/-- Settles O43. -/
theorem receiverService : Obligations.ReceiverService := by
  refine fun s serial => ⟨fun hn i r hr hacc hi => exec_reply hr hacc (rule_noSuchReceiver hn hi), fun slot r hr =>
    ⟨fun l hacc => ?_, fun hacc => ⟨fun hst => ?_, fun h1 h2 => ?_⟩, fun hacc => ⟨fun hst => ?_, fun hst => ?_⟩,
      fun n hacc h1 h2 => ⟨fun hst => ?_, fun hst => ?_⟩, fun hacc => ⟨fun hst => ?_, fun hst hroom => ?_,
      fun hst hroom => ?_⟩⟩⟩
  · have hrule : (Instr.rxQuery l serial).rule s = ⟨s, .done, receiverFields slot r⟩ := by
      simp only [Instr.rule, queryReply, hr]
    cases l <;> exact exec_reply rfl hacc hrule
  · exact exec_reply (i := .rxWithdraw serial) rfl hacc (by
      simp only [Instr.rule, withdrawReply, hr, r.onHire_iff.mpr hst, if_true])
  · obtain ⟨hf, hb, hat⟩ := s.freeSlot_rule slot
    have hoff : r.onHire = false := by simp [Receiver.onHire, h1, h2]
    exact ⟨_, exec_reply (i := .rxWithdraw serial) rfl hacc (by
      simp only [Instr.rule, withdrawReply, hr, hoff, Bool.false_eq_true, if_false]), hf, hat, hb⟩
  · exact exec_reply (i := .repaired serial) rfl hacc (by simp only [Instr.rule, repairedReply, hr, if_neg hst])
  · obtain ⟨hf, hb, hat⟩ := s.setSlot_rule slot { r with state := .charging, lastRack := .none }
    exact ⟨_, exec_reply (i := .repaired serial) rfl hacc (by simp only [Instr.rule, repairedReply, hr, if_pos hst]),
      hf, hb, hat⟩
  · have hoff : r.onHire = false := by simp [Receiver.onHire, h1, h2]
    obtain ⟨hf, hb, hat⟩ := s.setSlot_rule slot (if n = 0 then { r with state := .available, lastRack := .charged }
      else { r with state := .faulty, lastRack := .fault })
    refine ⟨_, _, exec_reply (i := .rackReport serial n) rfl hacc ?_, rfl, hf, hb, hat⟩
    simp only [Instr.rule, rackReportReply_offHire hr hoff, rackReply, Receiver.racked_ofPlace hst]
  · have hoff : r.onHire = false := by simp [Receiver.onHire, h1, h2]
    have hn : n ≤ 1 := hacc.2 (n ≤ 1) (by simp [Instr.paramsInRange])
    exact exec_reply (i := .rackReport serial n) rfl hacc (by
      simp only [Instr.rule, rackReportReply_offHire hr hoff, rackReply, Receiver.racked_none hn hst])
  · exact exec_reply (i := .found serial) rfl hacc (by simp only [Instr.rule, foundReply, hr, ne_eq, hst, not_false_eq_true,
      if_true])
  · have hfull : s.hireSideRoom = false := by
      rw [Bool.eq_false_iff, ne_eq, s.hireSideRoom_iff]
      omega
    exact exec_reply (i := .found serial) rfl hacc (by simp [Instr.rule, foundReply, hr, hst, hfull])
  · have hfree := s.hireSideRoom_iff.mpr hroom
    refine ⟨(s.writeEntry (.found r.serial)).setSlot slot { r with state := .charging },
      exec_reply (i := .found serial) rfl hacc (by simp [Instr.rule, foundReply, hr, hst, hfree]), ?_, ?_, ⟨by simp [State.setSlot],
        fun x hx => ?_⟩, ?_, by simp [State.writeEntry_journal], by simp⟩
    · rw [State.onlyChanges_iff]
      simp
    · rw [State.sameLinks_iff_wire]
      simp
    · refine (Table.fetch?_insert _ _ _ _).trans ((if_neg hx).trans ?_)
      simp
    · exact (Table.fetch?_insert _ _ _ _).trans (if_pos rfl)

end Sys2Proof.Machine
end

section
/-! Hire accounts and the tariff (O44), ISSUE and RX_PRESET (O45), and the end of a hire (O47). -/

namespace Sys2Proof.Machine

open Sys2Proof

/-! ## Accounts -/

/-- One account written. -/
theorem State.setAccount_rule (s : State) (n : Nat) (a : Account) :
    s.onlyChanges (s.setAccount n a) [.hire] ∧ s.accountsBut (s.setAccount n a) n ∧
      (s.setAccount n a).hire.tally = s.hire.tally ∧ (s.setAccount n a).account n = some a := by
  refine ⟨?_, ⟨rfl, fun x hx => ?_⟩, rfl, ?_⟩
  · rw [State.onlyChanges_iff]
    simp
  · exact (Table.fetch?_insert _ _ _ _).trans (if_neg hx)
  · exact (Table.fetch?_insert _ _ _ _).trans (if_pos rfl)

theorem Account.opened_ofPlace (kind limit credit : Nat) : Account.opened (AccountKind.ofPlace kind) limit credit =
    if kind = 0 then ⟨.personal, false, min 2 (max 1 limit), 0, 0, 0, 0⟩
    else ⟨.delegation, false, min 255 (max 1 limit), 0, 0, min 9999999 credit, 0⟩ := by
  unfold AccountKind.ofPlace
  split <;> rfl

/-! What ACCT_LIMIT (R141) and ACCT_PAY (R142) make of an account. -/

theorem Account.withLimits_limit (a : Account) (limit credit : Nat) : (a.withLimits limit credit).limit =
    match a.kind with
    | .personal => min 2 (max 1 limit)
    | .delegation => min 255 (max 1 limit) := by
  unfold Account.withLimits Account.refresh
  cases h : a.kind <;> rfl

theorem Account.withLimits_credit (a : Account) (limit credit : Nat) : (a.withLimits limit credit).credit =
    match a.kind with
    | .personal => 0
    | .delegation => min 9999999 credit := by
  unfold Account.withLimits Account.refresh
  cases h : a.kind <;> rfl

theorem Account.refresh_eq (a : Account) : a.refresh = { a with blocked := a.refresh.blocked } := rfl

theorem Account.refresh_blocked (a : Account) : a.refresh.blocked =
    match a.kind with
    | .personal => decide (0 < a.balance)
    | .delegation => decide (a.credit < a.balance) := rfl

theorem Account.withLimits_blocked (a : Account) (limit credit : Nat) : (a.withLimits limit credit).blocked =
    match a.kind with
    | .personal => decide (0 < a.balance)
    | .delegation => decide ((a.withLimits limit credit).credit < a.balance) := Account.refresh_blocked _

theorem Account.paid_balance (a : Account) (amount : Nat) : (a.paid amount).balance = a.balance - amount := by
  show a.balance - min amount a.balance = a.balance - amount
  omega

theorem Account.paid_blocked (a : Account) (amount : Nat) : (a.paid amount).blocked =
    match a.kind with
    | .personal => decide (0 < (a.paid amount).balance)
    | .delegation => decide (a.credit < (a.paid amount).balance) := Account.refresh_blocked _

/-- What every account request answers where the account is unknown. -/
theorem rule_accountUnknown {s : State} {n : Nat} (h : s.account n = none) :
    (∀ limit credit, (Instr.acctLimit n limit credit).rule s = ⟨s, .accountUnknown, []⟩) ∧
      (∀ amount, (Instr.acctPay n amount).rule s = ⟨s, .accountUnknown, []⟩) ∧
      (Instr.acctClose n).rule s = ⟨s, .accountUnknown, []⟩ ∧
      ∀ l, (Instr.acctQuery l n).rule s = ⟨s, .accountUnknown, []⟩ := by
  refine ⟨fun _ _ => ?_, fun _ => ?_, ?_, fun _ => ?_⟩ <;>
    simp only [Instr.rule, acctLimitReply, acctPayReply, acctCloseReply, acctQueryReply, h]

theorem Tally.total_eq (t : Tally) : t.total = (t.langs.map Prod.snd).sum + t.other := rfl

theorem Tariff.ofParams_eq (grace unit rate cap fee loss deposit : Nat) :
    Tariff.ofParams grace unit rate cap fee loss deposit =
      ⟨min 60 grace, min 240 (max 5 unit), min 65535 rate, min 999999 cap, min 65535 fee, min 999999 loss,
        min 65535 deposit⟩ := by
  simp [Tariff.ofParams, clamp]

/-- Settles O44. -/
theorem accountRequests : Obligations.AccountRequests := by
  refine fun s => ⟨fun n kind limit credit hacc => ⟨fun hsome => ?_, fun hn hfull => ?_, fun hn hroom => ?_⟩,
    fun n hn => ?_, fun n a ha => ⟨fun limit credit hacc limit' credit' hl hc => ⟨fun hlt => ?_, fun hle => ?_⟩,
      fun amount hacc => ?_, fun hacc => ⟨fun hout => ?_, fun hout hfull => ?_, fun hout hroom => ?_⟩, fun l hacc => ?_⟩,
    fun hrec grace unit rate cap fee loss deposit => ⟨fun huse => ?_, fun huse => ?_⟩⟩
  · exact exec_reply (i := .acctOpen n kind limit credit) rfl hacc (by
      simp only [Instr.rule, acctOpenReply, Option.isSome_iff_ne_none.mpr hsome, if_true])
  · exact exec_reply (i := .acctOpen n kind limit credit) rfl hacc (by
      simp only [Instr.rule, acctOpenReply, hn, Option.isSome_none, Bool.false_eq_true, if_false,
        if_pos (show Config.accountPlaces ≤ s.hire.accounts.length from hfull)])
  · obtain ⟨hf, hb, ht, hat⟩ := s.setAccount_rule n (Account.opened (AccountKind.ofPlace kind) limit credit)
    exact ⟨_, _, exec_reply (i := .acctOpen n kind limit credit) rfl hacc (by
      simp only [Instr.rule, acctOpenReply, hn, Option.isSome_none, Bool.false_eq_true, if_false,
        if_neg (show ¬ Config.accountPlaces ≤ s.hire.accounts.length from Nat.not_le.mpr hroom)]),
      Account.opened_ofPlace kind limit credit, hf, hat, hb, ht⟩
  · obtain ⟨hlimit, hpay, hclose, hquery⟩ := rule_accountUnknown hn
    exact ⟨fun limit credit hacc => exec_reply (i := .acctLimit n limit credit) rfl hacc (hlimit limit credit),
      fun amount hacc => exec_reply (i := .acctPay n amount) rfl hacc (hpay amount),
      fun hacc => exec_reply (i := .acctClose n) rfl hacc hclose,
      fun l hacc => by cases l <;> exact exec_reply rfl hacc (hquery _)⟩
  · have hlim : (a.withLimits limit credit).limit = limit' := (a.withLimits_limit limit credit).trans hl.symm
    exact exec_reply (i := .acctLimit n limit credit) rfl hacc (by
      simp only [Instr.rule, acctLimitReply, ha, hlim, if_pos hlt])
  · have hlim : (a.withLimits limit credit).limit = limit' := (a.withLimits_limit limit credit).trans hl.symm
    have hcred : (a.withLimits limit credit).credit = credit' := (a.withLimits_credit limit credit).trans hc.symm
    obtain ⟨hf, hb, ht, hat⟩ := s.setAccount_rule n (a.withLimits limit credit)
    refine ⟨s.setAccount n (a.withLimits limit credit), (a.withLimits limit credit).blocked,
      exec_reply (i := .acctLimit n limit credit) rfl hacc ?_, ?_, hf, hb, ht, ?_⟩
    · simp only [Instr.rule, acctLimitReply, ha, hlim, if_neg (Nat.not_lt.mpr hle), limitFields, hcred, fState]
      rfl
    · exact hcred ▸ a.withLimits_blocked limit credit
    · rw [hat, ← hlim, ← hcred]
      rfl
  · obtain ⟨hf, hb, ht, hat⟩ := s.setAccount_rule n (a.paid amount)
    refine ⟨s.setAccount n (a.paid amount), (a.paid amount).blocked, exec_reply (i := .acctPay n amount) rfl hacc ?_, ?_,
      hf, hb, ht, ?_⟩
    · simp only [Instr.rule, acctPayReply, ha, a.paid_balance, fState]
    · exact a.paid_balance amount ▸ a.paid_blocked amount
    · rw [hat, ← a.paid_balance]
      rfl
  · exact exec_reply (i := .acctClose n) rfl hacc (by simp only [Instr.rule, acctCloseReply, ha, if_pos hout])
  · have hno : s.hireSideRoom = false := by
      rw [Bool.eq_false_iff, ne_eq, s.hireSideRoom_iff]
      omega
    exact exec_reply (i := .acctClose n) rfl hacc (by simp [Instr.rule, acctCloseReply, ha, hout, hno])
  · have hfree := s.hireSideRoom_iff.mpr hroom
    refine ⟨(s.writeEntry (.account n a.kind a.balance)).removeAccount n,
      exec_reply (i := .acctClose n) rfl hacc (by simp [Instr.rule, acctCloseReply, ha, hout, hfree]), ?_, ?_, ?_,
      ⟨by simp [State.removeAccount], fun x hx => ?_⟩, by simp [State.removeAccount],
      by simp [State.removeAccount, State.writeEntry_journal], by simp⟩
    · rw [State.onlyChanges_iff]
      simp
    · rw [State.sameLinks_iff_wire]
      simp
    · exact (Table.fetch?_remove _ _ _).trans (if_pos rfl)
    · refine (Table.fetch?_remove _ _ _).trans ((if_neg hx).trans ?_)
      simp [State.account]
  · have hrule : (Instr.acctQuery l n).rule s = ⟨s, .done, accountFields n a⟩ := by
      simp only [Instr.rule, acctQueryReply, ha]
    cases l <;> exact exec_reply rfl hacc hrule
  · exact exec_reply (i := .tariffSet grace unit rate cap fee loss deposit) rfl (accepts_of_receives rfl hrec rfl)
      (if_pos huse)
  · refine ⟨s.setHire { s.hire with tariff := Tariff.ofParams grace unit rate cap fee loss deposit }, _,
      exec_reply (i := .tariffSet grace unit rate cap fee loss deposit) rfl (accepts_of_receives rfl hrec rfl)
        (if_neg (Nat.not_lt.mpr (Nat.le_of_eq huse))), Tariff.ofParams_eq .., ?_, rfl⟩
    rw [State.onlyChanges_iff]
    simp

end Sys2Proof.Machine
end

section
/-! ISSUE and RX_PRESET (O45), and the end of a hire (O47). -/

namespace Sys2Proof.Machine

open Sys2Proof

/-! ## The tally -/

theorem Tally.countIn_countedIn (t : Tally) (lang : Nat) : t.countedIn (t.countIn lang) lang := by
  unfold Tally.countedIn Tally.countIn
  cases h : Table.fetch? t.langs lang with
  | some n =>
    dsimp only
    refine ⟨fun x hx => ?_, ?_, rfl⟩
    · rw [TallyLaw.fetch?_store, if_neg hx]
    · rw [TallyLaw.fetch?_store, if_pos rfl, if_neg (Nat.succ_ne_zero n)]
  | none =>
    dsimp only
    by_cases hroom : t.langs.length < 64 ∧ t.other = 0
    · rw [if_pos (show t.langs.length < Config.tallyPlaces ∧ t.other = 0 from hroom), if_pos hroom]
      refine ⟨fun x hx => ?_, ?_, rfl⟩
      · rw [TallyLaw.fetch?_store, if_neg hx]
      · rw [TallyLaw.fetch?_store, if_pos rfl, if_neg Nat.one_ne_zero]
    · rw [if_neg (show ¬ (t.langs.length < Config.tallyPlaces ∧ t.other = 0) from hroom), if_neg hroom]
      exact ⟨fun _ _ => rfl, h, rfl⟩

theorem Tally.countOut_countedOut (t : Tally) (lang : Nat) : t.countedOut (t.countOut lang) lang := by
  unfold Tally.countedOut Tally.countOut
  cases h : Table.fetch? t.langs lang with
  | some n =>
    dsimp only
    refine ⟨fun x hx => ?_, ?_, rfl⟩
    · rw [TallyLaw.fetch?_store, if_neg hx]
    · rw [TallyLaw.fetch?_store, if_pos rfl]
      by_cases hn : n ≤ 1
      · rw [if_pos (by omega), if_pos hn]
      · rw [if_neg (by omega), if_neg hn]
  | none => exact ⟨fun _ _ => rfl, h, rfl⟩

/-! ## Issue -/

theorem State.countIssue_meter (s : State) : s.countIssue.meter = { s.meter with sitting := { s.meter.sitting with
    issues := if s.meter.sitting.isOpen then min 65535 (s.meter.sitting.issues + 1) else s.meter.sitting.issues } } := by
  unfold State.countIssue
  cases h : s.meter.sitting.isOpen <;> rfl

theorem State.depositFor_eq (s : State) (a : Account) : s.depositFor a =
    match a.kind with
    | .personal => s.hire.tariff.deposit
    | .delegation => 0 := rfl

/-- R147: what ISSUE leaves. -/
theorem State.issue_rule (s : State) (slot : Nat) (r : Receiver) (n preset : Nat) (a : Account) :
    s.onlyChanges (s.issue slot r n preset a) [.register, .hire, .meter] ∧
      s.slotsBut (s.issue slot r n preset a) slot ∧
      Table.fetch? (s.issue slot r n preset a).register.slots slot = some (r.issued (s.hireFields n preset a)) ∧
      (s.issue slot r n preset a).account n = some (a.out (s.depositFor a)) ∧
      s.accountsBut (s.issue slot r n preset a) n ∧
      s.hire.tally.countedIn (s.issue slot r n preset a).hire.tally preset ∧
      (s.issue slot r n preset a).meter = { s.meter with sitting := { s.meter.sitting with
        issues := if s.meter.sitting.isOpen then min 65535 (s.meter.sitting.issues + 1)
          else s.meter.sitting.issues } } := by
  unfold State.issue
  refine ⟨?_, ⟨?_, fun x hx => ?_⟩, ?_, ?_, ⟨?_, fun x hx => ?_⟩, ?_, State.countIssue_meter _⟩
  · rw [State.onlyChanges_iff]
    simp
  · simp [State.setSlot]
  · rw [State.countIssue_register]
    exact (Table.fetch?_insert _ _ _ _).trans (if_neg hx)
  · rw [State.countIssue_register]
    exact (Table.fetch?_insert _ _ _ _).trans (if_pos rfl)
  · rw [State.account, State.countIssue_hire]
    exact (Table.fetch?_insert _ _ _ _).trans (if_pos rfl)
  · rw [State.countIssue_hire]
    rfl
  · rw [State.account, State.countIssue_hire]
    exact (Table.fetch?_insert _ _ _ _).trans (if_neg hx)
  · rw [State.countIssue_hire]
    exact s.hire.tally.countIn_countedIn preset

theorem issueReply_taken {s : State} {serial slot : Nat} {r : Receiver} (hr : s.receiver serial = some (slot, r))
    (hst : r.state = .available) (n preset collected : Nat) :
    issueReply serial n preset collected s = issueToAccount slot r n preset collected s := by
  simp [issueReply, hr, hst]

/-- R150: what RX_PRESET leaves. -/
theorem State.changePreset_rule (s : State) (slot : Nat) (r : Receiver) (h : HireFields) (lang : Nat) :
    s.onlyChanges (s.changePreset slot r h lang) [.register, .hire] ∧
      s.slotsBut (s.changePreset slot r h lang) slot ∧
      Table.fetch? (s.changePreset slot r h lang).register.slots slot =
        some { r with hire := some { h with preset := lang }, orphaned := false } := by
  refine ⟨?_, ⟨rfl, fun x hx => ?_⟩, ?_⟩
  · rw [State.onlyChanges_iff]
    simp [State.changePreset]
  · exact (Table.fetch?_insert _ _ _ _).trans (if_neg hx)
  · exact (Table.fetch?_insert _ _ _ _).trans (if_pos rfl)

/-- Settles O45. -/
theorem issueAndPreset : Obligations.IssueAndPreset := by
  refine fun s serial slot r hr => ⟨fun n preset collected a hacc ha hst hopen hlim hlang hdep => ?_,
    fun n preset collected hacc => ⟨fun hst => ?_, fun hst ha => ?_, fun a hst ha => ⟨fun hb => ?_, fun hb hl => ?_,
      fun hb hl hlang => ?_, fun hb hl hlang hk hdep => ?_⟩⟩, fun lang hacc => ⟨fun hoff => ?_, fun h hon hh => ⟨fun hlang => ?_,
      fun hlang => ?_⟩⟩⟩
  · obtain ⟨hf, hb, hat, hacct, hbut, htally, hmeter⟩ := s.issue_rule slot r n preset a
    have hpaid : ¬ (a.kind = .personal ∧ collected < s.hire.tariff.deposit) := fun ⟨hk, hlt⟩ =>
      absurd (hdep hk) (Nat.not_le.mpr hlt)
    refine ⟨s.issue slot r n preset a, s.depositFor a, exec_reply (i := .issue serial n preset collected) rfl hacc ?_,
      s.depositFor_eq a, hf, hb, hat, hacct, hbut, htally, hmeter⟩
    simp only [Instr.rule, issueReply_taken hr hst, issueToAccount, ha, hopen, hlim, hlang, hpaid, Bool.not_true,
      Bool.false_eq_true, if_false]
    rfl
  · exact exec_reply (i := .issue serial n preset collected) rfl hacc (by
      simp only [Instr.rule, issueReply, hr, ne_eq, hst, not_false_eq_true, if_true])
  · exact exec_reply (i := .issue serial n preset collected) rfl hacc (by
      simp only [Instr.rule, issueReply_taken hr hst, issueToAccount, ha])
  · exact exec_reply (i := .issue serial n preset collected) rfl hacc (by
      simp only [Instr.rule, issueReply_taken hr hst, issueToAccount, ha, hb, if_true])
  · exact exec_reply (i := .issue serial n preset collected) rfl hacc (by
      simp only [Instr.rule, issueReply_taken hr hst, issueToAccount, ha, hb, hl, if_true, Bool.false_eq_true, if_false])
  · exact exec_reply (i := .issue serial n preset collected) rfl hacc (by
      simp only [Instr.rule, issueReply_taken hr hst, issueToAccount, ha, hb, hl, hlang, Bool.not_false, if_true,
        Bool.false_eq_true, if_false])
  · exact exec_reply (i := .issue serial n preset collected) rfl hacc (by
      simp only [Instr.rule, issueReply_taken hr hst, issueToAccount, ha, hb, hl, hlang, Bool.not_true,
        Bool.false_eq_true, if_false, if_pos (And.intro hk hdep)])
  · exact exec_reply (i := .rxPreset serial lang) rfl hacc (by simp only [Instr.rule, presetReply, hr, hoff])
  · exact exec_reply (i := .rxPreset serial lang) rfl hacc (by
      simp only [Instr.rule, presetReply, hr, hon, hh, hlang, Bool.not_false, if_true])
  · obtain ⟨hf, hb, hat⟩ := s.changePreset_rule slot r h lang
    refine ⟨s.changePreset slot r h lang, s.hire.tally.countOut h.preset,
      exec_reply (i := .rxPreset serial lang) rfl hacc ?_, hf, hb, hat, rfl, rfl, fun he => ?_, fun hne => ?_⟩
    · simp only [Instr.rule, presetReply, hr, hon, hh, hlang, Bool.not_true, Bool.false_eq_true, if_false]
      rfl
    · exact if_pos he
    · refine ⟨Tally.countOut_countedOut _ _, ?_⟩
      rw [show (s.changePreset slot r h lang).hire.tally = (s.hire.tally.countOut h.preset).countIn lang from if_neg hne]
      exact Tally.countIn_countedIn _ _

end Sys2Proof.Machine
end

section
/-! The end of a hire (O47). -/

namespace Sys2Proof.Machine

open Sys2Proof

/-! ## Settlement -/

theorem Account.settle_eq (a : Account) (deposit charge : Nat) : a.settle deposit charge = a.charged deposit charge := by
  unfold Account.settle Account.charged Account.refresh balanceGrowth
  cases h : a.kind <;> rfl

theorem State.accountOf_eq {s : State} {n : Nat} {a : Account} (h : s.account n = some a) : s.accountOf n = a := by
  rw [State.accountOf, h]
  rfl

section
variable {s : State} {h : HireFields} {a : Account} (ha : s.account h.account = some a) (r : Receiver) (way : Leaving)
include ha

theorem State.settled_eq : s.settled r h way = a.charged h.deposit (s.hireCharge r h way) := by
  rw [State.settled, State.accountOf_eq ha, Account.settle_eq]

/-- R168, R179: the figures of the entry are those that the hire's account and charge give. -/
theorem State.hireBody_eq : s.hireBody r h way = s.figures r h a (s.hireCharge r h way) := by
  unfold State.hireBody State.figures State.owedField
  rw [State.settled_eq ha, State.accountOf_eq ha]
  cases hk : a.kind <;> rfl

theorem State.settlementFields_eq :
    settlementFields s r h way = settlementAnswer r a s.hire.tariff h.deposit (s.hireCharge r h way) := by
  have hfee : (if s.hire.tariff.feePart r.state = 0 then none else some (s.hire.tariff.feePart r.state)) =
      if r.state = .overdue ∧ s.hire.tariff.fee ≠ 0 then some s.hire.tariff.fee else none := by
    unfold Tariff.feePart
    by_cases hs : r.state = .overdue <;> by_cases hf : s.hire.tariff.fee = 0 <;> simp [hs, hf]
  unfold settlementFields settlementAnswer
  rw [State.settled_eq ha, State.accountOf_eq ha, hfee]
  cases hk : a.kind <;> rfl

end

/-! ## The receiver leaves -/

theorem State.countReturn_meter (s : State) (charge : Nat) (way : Leaving) :
    (s.countReturn charge way).meter = { s.meter with sitting :=
      if s.meter.sitting.isOpen then { s.meter.sitting with
        revenue := min 4294967295 (s.meter.sitting.revenue + charge)
        returns := if way = .lost then s.meter.sitting.returns else min 65535 (s.meter.sitting.returns + 1) }
      else s.meter.sitting } := by
  unfold State.countReturn
  cases h : s.meter.sitting.isOpen <;> rfl

/-- R152, steps 1 to 6: what the end of a hire leaves. -/
theorem State.leaveHire_rule {s : State} {h : HireFields} {a : Account} (ha : s.account h.account = some a) (slot : Nat)
    (r : Receiver) (way : Leaving) :
    s.slotsBut (s.leaveHire slot r h way) slot ∧
      Table.fetch? (s.leaveHire slot r h way).register.slots slot = some (r.offHire way.state) ∧
      (s.leaveHire slot r h way).journal = s.journal.append s.meter.time (s.hireEntry r h way) ∧
      (s.leaveHire slot r h way).links = (s.writeEntry (s.hireEntry r h way)).links ∧
      s.accountsBut (s.leaveHire slot r h way) h.account ∧
      (s.leaveHire slot r h way).account h.account = some { a.charged h.deposit (s.hireCharge r h way) with
        outCount := a.outCount - 1, deposits := a.deposits - h.deposit } ∧
      s.hire.tally.countedOut (s.leaveHire slot r h way).hire.tally h.preset ∧
      (s.leaveHire slot r h way).meter = { s.meter with sitting :=
        if s.meter.sitting.isOpen then { s.meter.sitting with
          revenue := min 4294967295 (s.meter.sitting.revenue + s.hireCharge r h way)
          returns := if way = .lost then s.meter.sitting.returns else min 65535 (s.meter.sitting.returns + 1) }
        else s.meter.sitting } := by
  have hback : (s.settled r h way).back h.deposit = { a.charged h.deposit (s.hireCharge r h way) with
      outCount := a.outCount - 1, deposits := a.deposits - h.deposit } := by
    rw [State.settled_eq ha]
    unfold Account.back Account.charged
    cases a.kind <;> rfl
  unfold State.leaveHire
  refine ⟨⟨by simp [State.setSlot], fun x hx => ?_⟩, ?_, by simp [State.writeEntry_journal], by simp, ⟨?_, fun x hx => ?_⟩,
    ?_, ?_, ?_⟩
  · rw [State.countReturn_register]
    refine (Table.fetch?_insert _ _ _ _).trans ((if_neg hx).trans ?_)
    rw [State.writeEntry_register]
  · rw [State.countReturn_register]
    exact (Table.fetch?_insert _ _ _ _).trans (if_pos rfl)
  · simp [State.setTally, State.setAccount]
  · rw [State.account, State.countReturn_hire]
    refine (Table.fetch?_insert _ _ _ _).trans ((if_neg hx).trans ?_)
    simp [State.account]
  · rw [State.account, State.countReturn_hire]
    exact (Table.fetch?_insert _ _ _ _).trans ((if_pos rfl).trans (congrArg some hback))
  · rw [State.countReturn_hire]
    exact s.hire.tally.countOut_countedOut h.preset
  · rw [State.countReturn_meter]
    simp

theorem State.leaveHire_frame (s : State) (slot : Nat) (r : Receiver) (h : HireFields) (way : Leaving) :
    s.onlyChanges (s.leaveHire slot r h way) [.register, .hire, .meter, .journal, .links] ∧
      s.sameLinks (s.leaveHire slot r h way) := by
  refine ⟨?_, ?_⟩
  · rw [State.onlyChanges_iff]
    simp
  · rw [State.sameLinks_iff_wire]
    unfold State.leaveHire
    simp

theorem leaveReply_taken {s : State} {serial slot : Nat} {r : Receiver} {h : HireFields}
    (hr : s.receiver serial = some (slot, r)) (hon : r.onHire = true) (hh : r.hire = some h) (hroom : 32 < s.journal.free)
    (way : Leaving) : leaveReply serial way s = ⟨s.leaveHire slot r h way, .done, settlementFields s r h way⟩ := by
  simp only [leaveReply, hr, hon, hh, s.hireSideRoom_iff.mpr hroom, Bool.not_true, Bool.false_eq_true, if_false]

theorem leaveReply_full {s : State} {serial slot : Nat} {r : Receiver} {h : HireFields}
    (hr : s.receiver serial = some (slot, r)) (hon : r.onHire = true) (hh : r.hire = some h) (hroom : s.hireSideRoom = false)
    (way : Leaving) : leaveReply serial way s = ⟨s, .journalFull, []⟩ := by
  simp only [leaveReply, hr, hon, hh, hroom, Bool.not_false, if_true]

theorem leaveReply_offHire {s : State} {serial slot : Nat} {r : Receiver} (hr : s.receiver serial = some (slot, r))
    (hoff : r.onHire = false) (way : Leaving) : leaveReply serial way s = ⟨s, .notOnHire, []⟩ := by
  simp only [leaveReply, hr, hoff]

theorem rackReportReply_onHire {s : State} {serial slot : Nat} {r : Receiver} {h : HireFields}
    (hr : s.receiver serial = some (slot, r)) (hon : r.onHire = true) (hh : r.hire = some h) (result : RackResult) :
    rackReportReply serial result s = autoReturnReply slot r h result s := by
  simp only [rackReportReply, hr, hon, hh]

/-! ## The auto-return -/

theorem Receiver.autoReturned_ofPlace (r : Receiver) {n : Nat} : r.autoReturned (RackResult.ofPlace n) = { r with
    state := if n = 0 then .available else .faulty, hire := none, orphaned := false,
    lastRack := if n = 0 then .charged else .fault } := by
  unfold Receiver.autoReturned RackResult.ofPlace
  by_cases hn : n = 0 <;> simp [hn, Receiver.racked, Receiver.offHire]

/-- R133: the record that the rack leaves, and RACK_RETURN besides what the end of the hire raises. -/
theorem State.autoReturn_rule (s : State) (slot : Nat) (r : Receiver) (h : HireFields) (result : RackResult) :
    s.onlyChanges (s.autoReturn slot r h result) [.register, .hire, .meter, .journal, .links] ∧
      s.sameLinks (s.autoReturn slot r h result) ∧
      Table.fetch? (s.autoReturn slot r h result).register.slots slot = some (r.autoReturned result) ∧
      (∀ x, x ≠ slot → Table.fetch? (s.autoReturn slot r h result).register.slots x =
        Table.fetch? (s.leaveHire slot r h .rack).register.slots x) ∧
      (s.autoReturn slot r h result).register.window = (s.leaveHire slot r h .rack).register.window ∧
      (s.autoReturn slot r h result).links = ((s.leaveHire slot r h .rack).raiseCounter .rackReturn 1).links ∧
      (s.autoReturn slot r h result).journal = (s.leaveHire slot r h .rack).journal ∧
      (s.autoReturn slot r h result).hire = (s.leaveHire slot r h .rack).hire ∧
      (s.autoReturn slot r h result).meter = (s.leaveHire slot r h .rack).meter := by
  unfold State.autoReturn
  refine ⟨?_, ?_, (Table.fetch?_insert _ _ _ _).trans (if_pos rfl), fun x hx => ?_, by simp [State.setSlot], by simp,
    by simp, by simp, by simp⟩
  · rw [State.onlyChanges_iff]
    simp
  · rw [State.sameLinks_iff_wire]
    have := (s.leaveHire_frame slot r h .rack).2
    rw [State.sameLinks_iff_wire] at this
    simpa using this
  · refine (Table.fetch?_insert _ _ _ _).trans ((if_neg hx).trans ?_)
    simp

/-- A write raises no counter flag but JOURNAL_FULL. -/
theorem State.writeEntry_count (s : State) (body : EntryBody) {i : Nat} (hi : i ≠ CounterFlag.journalFull.bit) :
    ((s.writeEntry body).flags .counter).count i = (s.flags .counter).count i := by
  have hraise : ((s.raise .journalFull 1).raiseCounter .journalFull 1).flags .counter =
      (s.flags .counter).raise CounterFlag.journalFull.bit 1 := by
    rw [State.flags_raiseCounter, if_pos rfl, State.flags_raise, if_neg (by decide)]
  have hflags {u : State} (h : (s.writeEntry body).links = u.links) :
      (s.writeEntry body).flags .counter = u.flags .counter := congrArg Links.counterFlags h
  have hl := s.writeEntry_links body
  split at hl
  · rw [hflags hl, State.flags_raise, if_neg (by decide)]
  · split at hl
    · rw [hflags hl, hraise, FlagSet.count_raise _ _ _ _ Nat.one_ne_zero, if_neg hi]
    · rw [hflags hl]

/-- Settles O47. -/
theorem receiverLeavesHire : Obligations.ReceiverLeavesHire := by
  refine fun s serial slot r hr => ⟨fun hoff => ⟨fun hacc => ?_, fun hacc => ?_⟩, fun h a hon hh ha =>
    ⟨fun hfull => ?_, fun hroom => ⟨fun hacc => ?_, fun hacc => ?_, fun n hacc => ?_⟩⟩⟩
  · exact exec_reply (i := .rxReturn serial) rfl hacc (leaveReply_offHire hr hoff _)
  · exact exec_reply (i := .lost serial) rfl hacc (leaveReply_offHire hr hoff _)
  · have hno : s.hireSideRoom = false := by
      rw [Bool.eq_false_iff, ne_eq, s.hireSideRoom_iff]
      omega
    refine ⟨fun hacc => exec_reply (i := .rxReturn serial) rfl hacc (leaveReply_full hr hon hh hno _),
      fun hacc => exec_reply (i := .lost serial) rfl hacc (leaveReply_full hr hon hh hno _), fun n hacc => ?_⟩
    obtain ⟨hf, hb, hat⟩ := s.setSlot_rule slot { r with lastRack := RackResult.ofPlace n }
    refine ⟨_, exec_reply (i := .rackReport serial n) rfl hacc ?_, hf, hb, hat⟩
    simp only [Instr.rule, rackReportReply_onHire hr hon hh, autoReturnReply, hno, Bool.not_false, if_true]
  · obtain ⟨hb, hat, hj, hl, hbut, hacct, htally, hmeter⟩ := State.leaveHire_rule ha slot r .counter
    obtain ⟨hf, hw⟩ := s.leaveHire_frame slot r h .counter
    rw [State.hireEntry, State.hireBody_eq ha] at hj hl
    refine ⟨s.leaveHire slot r h .counter, s.hireCharge r h .counter, rfl, exec_reply (i := .rxReturn serial) rfl hacc ?_,
      hf, hw, hb, hat, hj, hl, hbut, hacct, htally, hmeter⟩
    rw [← State.settlementFields_eq ha]
    exact leaveReply_taken hr hon hh hroom .counter
  · obtain ⟨hb, hat, hj, hl, hbut, hacct, htally, hmeter⟩ := State.leaveHire_rule ha slot r .lost
    obtain ⟨hf, hw⟩ := s.leaveHire_frame slot r h .lost
    rw [State.hireEntry, State.hireBody_eq ha] at hj hl
    refine ⟨s.leaveHire slot r h .lost, s.hireCharge r h .lost, rfl, exec_reply (i := .lost serial) rfl hacc ?_,
      hf, hw, hb, hat, hj, hl, hbut, hacct, htally, hmeter⟩
    rw [← State.settlementFields_eq ha]
    exact leaveReply_taken hr hon hh hroom .lost
  · obtain ⟨hb, -, hj, hl, hbut, hacct, htally, hmeter⟩ := State.leaveHire_rule ha slot r .rack
    obtain ⟨hf, hw, hat, hother, hwin, hlinks, hjournal, hhire, hmeter'⟩ :=
      s.autoReturn_rule slot r h (RackResult.ofPlace n)
    rw [State.hireEntry, State.hireBody_eq ha] at hj hl
    have hcounter : (s.autoReturn slot r h (RackResult.ofPlace n)).flags .counter =
        ((s.leaveHire slot r h .rack).flags .counter).raise CounterFlag.rackReturn.bit 1 := by
      rw [show (s.autoReturn slot r h (RackResult.ofPlace n)).flags .counter = _ from
        congrArg Links.counterFlags hlinks]
      exact State.flags_raiseCounter _ _ _ .counter
    have hcount : ((s.leaveHire slot r h .rack).flags .counter).count 2 = (s.flags .counter).count 2 := by
      rw [show (s.leaveHire slot r h .rack).flags .counter = _ from congrArg Links.counterFlags hl]
      exact s.writeEntry_count _ (by decide)
    refine ⟨s.autoReturn slot r h (RackResult.ofPlace n), s.hireCharge r h .rack, rfl,
      exec_reply (i := .rackReport serial n) rfl hacc ?_, hf, hw, ⟨hwin.trans hb.1, fun x hx => (hother x hx).trans (hb.2 x hx)⟩,
      hat.trans (congrArg some r.autoReturned_ofPlace), ?_, ?_, hjournal.trans hj, ?_, ⟨by rw [hhire, hbut.1], fun x hx => ?_⟩, ?_,
      by rw [hhire]; exact htally, hmeter'.trans hmeter⟩
    · rw [← State.settlementFields_eq ha]
      simp only [Instr.rule, rackReportReply_onHire hr hon hh, autoReturnReply, s.hireSideRoom_iff.mpr hroom, Bool.not_true,
        Bool.false_eq_true, if_false, Receiver.autoReturned_ofPlace]
      by_cases hn : n = 0 <;> simp [hn, RxState.code]
    · rw [hcounter, FlagSet.count_raise _ _ _ _ Nat.one_ne_zero]
      exact (if_pos rfl).trans (by rw [show CounterFlag.rackReturn.bit = 2 from rfl, hcount]; rfl)
    · rw [hcounter]
      exact (FlagSet.raise_states _ _ _ _ (by decide) Nat.one_pos).trans (by simp [CounterFlag.bit])
    · rw [hlinks]
      exact State.raiseCounter_links_congr hl _ _
    · rw [State.account, hhire]
      exact hbut.2 x hx
    · rw [State.account, hhire]
      exact hacct

end Sys2Proof.Machine
end

section
/-! What the reads answer (O23), what slots carry (O20), and the layout of a header (O19). -/

namespace Sys2Proof.Machine

open Sys2Proof

/-! ## Reads -/

theorem Place.quality_code (x : Place) : x.quality.code = if x.count = 2 then 0 else 1 := by
  unfold Place.quality
  split <;> rfl

theorem State.budget_eq (s : State) : s.budget = s.slots - 2 := rfl

theorem BoothRun.liveDesk_iff (r : BoothRun) (d : Nat) : r.liveDesk d = true ↔ ∃ c, r.live = some (d, c) := by
  unfold BoothRun.liveDesk
  cases r.live <;> simp [Prod.ext_iff, eq_comm]

theorem map_fst_eq_some_iff {α β : Type} (o : Option (α × β)) (a : α) :
    o.map Prod.fst = some a ↔ ∃ b, o = some (a, b) := by
  cases o <;> simp [Prod.ext_iff, eq_comm]

/-- R79: the lamp of the live desk. -/
theorem State.lamp_live {s : State} {b d : Nat} (h : ∃ c, (s.booth b).live = some (d, c)) :
    s.lamp b d = if (s.booth b).offer = none then .live else .partnerRequest := by
  unfold State.lamp
  rw [if_pos ((BoothRun.liveDesk_iff _ _).mpr h)]
  cases (s.booth b).offer <;> rfl

/-- R79: the lamp of a desk that is not live. -/
theorem State.lamp_notLive {s : State} {b d : Nat} (h : ∀ c, (s.booth b).live ≠ some (d, c)) :
    s.lamp b d = if (s.booth b).offer.map Prod.fst = some d then .requesting
      else if (s.booth b).pending.map Prod.fst = some d then .waiting
      else if (s.desk b d).refused then .refused else .off := by
  unfold State.lamp
  rw [if_neg fun hl => ?_]
  obtain ⟨c, hc⟩ := (BoothRun.liveDesk_iff _ _).mp hl
  exact h c hc

theorem State.outputState_some {s : State} {b c : Nat} {x : Output} (h : s.planChannel b x = some c) :
    s.outputState b x = some (match (s.chan c).holder with
      | none => 0
      | some who => if who.booth = b then 1 else 2) := by
  unfold State.outputState
  rw [h]
  rfl

/-- R57: the carriage field tells what the channel's first slot carries. -/
theorem State.carriageField_some {s : State} {c : Nat} {f : Frame} {x : Place} {carried : Signal}
    (hs : s.framer.state = .onAir) (he : s.enabled c = true) (hf : s.framer.frame = some f)
    (hx : s.planPlace c = some x) (hc : f.slots[x.first]? = some carried) : s.carriageField c = carried.carriageCode := by
  have hon : (s.onAir && s.enabled c) = true := by rw [he, (s.onAir_iff).mpr hs]; rfl
  simp only [State.carriageField, hon, hf, hx, List.getD_eq_getElem?_getD, hc, Option.getD_some]

theorem State.carriageField_none {s : State} {c : Nat} (h : s.framer.state ≠ .onAir ∨ s.enabled c = false) :
    s.carriageField c = 0 := by
  have hoff : (s.onAir && s.enabled c) = false := by
    rcases h with h | h
    · simp [State.onAir, h]
    · simp [h]
  simp only [State.carriageField, hoff]

/-- Settles O23. -/
theorem readsAnswerTheState : Obligations.ReadsAnswerTheState := by
  refine fun s => ⟨fun k item hacc => ?_, fun k c hacc => ?_, fun k b hacc => ?_, fun hrec => ⟨?_, fun item => ?_, ?_⟩,
    fun b hacc => ?_, fun c hacc => ?_, fun b hacc => ?_, fun b d hacc => ⟨fun hs => ?_, fun hs hb => ?_, fun e hs he => ?_⟩,
    fun b d => ⟨State.lamp_live, fun hn => ⟨fun ho => ?_, fun ho => ⟨fun hp => ?_, fun hp => ?_⟩⟩⟩, rfl,
    fun b x => ⟨fun hn => ?_, fun c hc => ⟨fun hh => ?_, fun w hw => ?_⟩⟩,
    fun c => ⟨State.carriageField_none, fun f x carried hs he hf hx hc => ?_⟩⟩
  · exact exec_reply (i := .bankRead k 0 item) rfl hacc rfl
  · refine exec_reply (i := .bankRead k 1 c) rfl hacc ?_
    simp only [Instr.rule, Nat.one_ne_zero, if_false, if_true, channelFields, Place.quality_code]
  · exact exec_reply (i := .bankRead k 2 b) rfl hacc rfl
  · exact exec_reply (i := .framerRead) rfl (accepts_of_receives rfl hrec rfl) rfl
  · have hacc : s.accepts (.sittingRead 0 item) := ⟨fun r hr => by cases hr; exact hrec, fun q hq => by
      rw [List.mem_singleton.mp hq]
      exact .inl rfl⟩
    exact exec_reply (i := .sittingRead 0 item) rfl hacc rfl
  · refine exec_reply (i := .tallyRead) rfl (accepts_of_receives rfl hrec rfl) ?_
    simp only [Instr.rule, tallyFields, tariffFields, Tally.total_eq, List.append_assoc, List.cons_append,
      List.nil_append]
  · exact exec_reply (i := .sittingRead 1 b) rfl hacc rfl
  · exact exec_reply (i := .channelRead c) rfl hacc rfl
  · refine exec_reply (i := .boothRead b) rfl hacc ?_
    simp only [Instr.rule, boothReadFields, relayFields, List.append_assoc]
    rfl
  · have hoff : s.onAir = false := by simpa [State.onAir] using hs
    exact exec_reply (i := .poll b d) rfl hacc (by simp only [Instr.rule, hoff, Bool.not_false, if_true])
  · have hon : s.onAir = true := s.onAir_iff.mpr hs
    exact exec_reply (i := .poll b d) rfl hacc (by
      simp only [Instr.rule, hon, hb, Bool.not_true, Bool.false_eq_true, if_false, Option.isNone_none, if_true])
  · have hon : s.onAir = true := s.onAir_iff.mpr hs
    refine exec_reply (i := .poll b d) rfl hacc ?_
    simp only [Instr.rule, hon, he, Bool.not_true, Bool.false_eq_true, if_false, Option.isNone_some, pollFields,
      Option.map_some, Option.getD_some, List.append_assoc, List.cons_append, List.nil_append]
    rfl
  · rw [State.lamp_notLive hn, if_pos ((map_fst_eq_some_iff _ _).mpr ho)]
  · rw [State.lamp_notLive hn, if_neg fun he => ?_, if_pos ((map_fst_eq_some_iff _ _).mpr hp)]
    obtain ⟨x, hx⟩ := (map_fst_eq_some_iff _ _).mp he
    exact ho x hx
  · rw [State.lamp_notLive hn, if_neg fun he => ?_, if_neg fun he => ?_]
    · obtain ⟨x, hx⟩ := (map_fst_eq_some_iff _ _).mp he
      exact hp x hx
    · obtain ⟨x, hx⟩ := (map_fst_eq_some_iff _ _).mp he
      exact ho x hx
  · rw [State.outputState, hn]
    rfl
  · rw [State.outputState_some hc, hh]
  · rw [State.outputState_some hc, hw]
  · rw [State.carriageField_some hs he hf hx hc]
    cases carried <;> rfl

/-! ## What a slot carries -/

theorem State.slotChannel_none {s : State} {i : Nat} (h : ∀ c ∈ Config.channelNumbers, ∀ x, s.planPlace c = some x →
    ¬ (x.first ≤ i ∧ i < x.first + x.count)) : s.slotChannel i = none := by
  refine List.find?_eq_none.mpr fun c hc hin => ?_
  cases hx : s.planPlace c with
  | none => simp [hx] at hin
  | some x => exact h c hc x hx (by simpa [hx] using hin)

/-- The lowest channel number with a property is found. -/
theorem find?_channelNumbers_eq {B : Nat → Bool} {x : Nat} (hx : x ∈ Config.channelNumbers) (hB : B x = true)
    (h : ∀ y ∈ Config.channelNumbers, y < x → B y = false) : Config.channelNumbers.find? B = some x := by
  cases hf : Config.channelNumbers.find? B with
  | none => exact absurd hB (List.find?_eq_none.mp hf x hx)
  | some y =>
    obtain ⟨hy, hBy, hlow⟩ := find?_channelNumbers hf
    rcases Nat.lt_trichotomy x y with hlt | rfl | hlt
    · rw [hlow x hx hlt] at hB
      cases hB
    · rfl
    · rw [h y hy hlt] at hBy
      cases hBy

theorem State.slotChannel_some {s : State} {i c : Nat} {x : Place} (hc : c ∈ Config.channelNumbers)
    (hx : s.planPlace c = some x) (hin : x.first ≤ i ∧ i < x.first + x.count)
    (h : ∀ e ∈ Config.channelNumbers, e < c → ∀ y, s.planPlace e = some y → ¬ (y.first ≤ i ∧ i < y.first + y.count)) :
    s.slotChannel i = some c := by
  refine find?_channelNumbers_eq hc (by simpa [hx] using hin) fun e he hlt => ?_
  cases hy : s.planPlace e with
  | none => rfl
  | some y =>
    have := h e he hlt y hy
    simp only [Bool.and_eq_false_iff, decide_eq_false_iff_not]
    tauto

/-- R48, rules 3 to 6. -/
theorem State.workingSignal_ramp {s : State} {c : Nat} {r : Ramp} (h : (s.carriage c).ramp = some r) :
    s.workingSignal c = s.rampSignal r := by
  simp only [State.workingSignal, h]

theorem State.workingSignal_live {s : State} {c : Nat} {w : DeskId} (hr : (s.carriage c).ramp = none)
    (h : (s.carriage c).live = some w) : s.workingSignal c = if s.coughs w then .deskCough w else .desk w := by
  simp only [State.workingSignal, hr, h]

theorem State.workingSignal_none {s : State} {c : Nat} (hr : (s.carriage c).ramp = none)
    (h : (s.carriage c).live = none) : s.workingSignal c = if (s.planEntry c).floorFill then .floor else .silence := by
  simp only [State.workingSignal, hr, h]

theorem State.slotSignal_low {s : State} {i : Nat} (hi : i < 2) (transition override : Bool) :
    s.slotSignal transition override i = if override then .announcement else .floor := if_pos hi

theorem State.slotSignal_none {s : State} {i : Nat} (hi : 2 ≤ i) (h : s.slotChannel i = none)
    (transition override : Bool) : s.slotSignal transition override i = if override then .announcement else .silence := by
  rw [State.slotSignal, if_neg (by omega), h]

theorem State.slotSignal_some {s : State} {i c : Nat} (hi : 2 ≤ i) (h : s.slotChannel i = some c)
    (transition override : Bool) : s.slotSignal transition override i = s.channelSignal transition override c := by
  rw [State.slotSignal, if_neg (by omega), h]

/-- Settles O20. -/
theorem slotsCarryTheirChannel : Obligations.SlotsCarryTheirChannel := by
  refine fun s i => ⟨fun o hi => State.slotSignal_low hi false o, fun hi => State.slotSignal_low hi true false, ?_,
    fun o hi hno => State.slotSignal_none hi (State.slotChannel_none hno) o false, fun c x hi hc hx hlow hhigh hfirst => ?_⟩
  · by_cases hi : i < 2
    · exact State.slotSignal_low hi false true
    · cases h : s.slotChannel i with
      | none => exact State.slotSignal_none (by omega) h false true
      | some c => exact State.slotSignal_some (by omega) h false true
  · have hch := State.slotChannel_some hc hx ⟨hlow, hhigh⟩ hfirst
    have hwork : s.slotSignal false false i = s.workingSignal c := State.slotSignal_some hi hch false false
    refine ⟨State.slotSignal_some hi hch true false, fun r hr => ?_, fun hr => ⟨fun w hw => ?_, fun hn => ?_⟩⟩
    · rw [hwork, State.workingSignal_ramp hr]
      rfl
    · rw [hwork, State.workingSignal_live hr hw]
      rfl
    · rw [hwork, State.workingSignal_none hr hn]

/-! ## The header -/

theorem bytesOf_one (n : Nat) : bytesOf 1 n = [BitVec.ofNat 8 n] := by simp [bytesOf]

theorem numberOf_bytesOf_one {n : Nat} (h : n < 256) : numberOf (bytesOf 1 n) = n := by
  rw [bytesOf_one]
  simp only [numberOf, List.foldl_cons, List.foldl_nil, BitVec.toNat_ofNat]
  omega

theorem numberOf_bytesOf_three {n : Nat} (h : n < 16777216) : numberOf (bytesOf 3 n) = n := by
  simp only [numberOf, bytesOf, List.foldl_cons, List.foldl_nil, BitVec.toNat_ofNat]
  omega

theorem State.directoryEntry_length (s : State) (c : Nat) : (s.directoryEntry c).length = 5 := by
  unfold State.directoryEntry entryBytes
  (repeat' split) <;> simp [bytesOf_length]

theorem flatMap_length_five {f : Nat → List Byte} (hf : ∀ c, (f c).length = 5) (cs : List Nat) :
    (cs.flatMap f).length = 5 * cs.length := by
  induction cs with
  | nil => rfl
  | cons c cs ih =>
    rw [List.flatMap_cons, List.length_append, hf, ih, List.length_cons]
    omega

/-- The place of an entry in a directory of entries of five bytes each. -/
theorem flatMap_drop_take_five {f : Nat → List Byte} (hf : ∀ c, (f c).length = 5) (z : List Byte) (cs : List Nat) {i c : Nat}
    (h : cs[i]? = some c) : ((cs.flatMap f ++ z).drop (5 * i)).take 5 = f c := by
  induction cs generalizing i with
  | nil => cases h
  | cons d cs ih =>
    rw [List.flatMap_cons, List.append_assoc]
    cases i with
    | zero =>
      obtain rfl : d = c := by simpa using h
      rw [Nat.mul_zero, List.drop_zero, ← hf d, List.take_left]
    | succ i =>
      rw [show 5 * (i + 1) = (f d).length + 5 * i by rw [hf]; omega, ← List.drop_drop, List.drop_left]
      exact ih (by simpa using h)

/-- The first six bytes of a header: mark, numbers and flags. -/
def State.headerHead (s : State) (transition override : Bool) : List Byte :=
  [0xA6] ++ (bytesOf 3 s.framer.frameNumber ++ (bytesOf 1 s.framer.planNumber ++
    bytesOf 1 (s.headerFlags transition override)))

theorem State.headerHead_length (s : State) (transition override : Bool) :
    (s.headerHead transition override).length = 6 := by
  simp [State.headerHead, bytesOf_length]

theorem State.headerFields_eq (s : State) (transition override : Bool) : s.headerFields transition override =
    s.headerHead transition override ++ (List.range' (4 * s.framer.fragment) 4).flatMap s.directoryEntry := by
  simp [State.headerFields, State.headerHead]

theorem State.headerFields_length (s : State) (transition override : Bool) :
    (s.headerFields transition override).length = 26 := by
  rw [State.headerFields_eq, List.length_append, State.headerHead_length, flatMap_length_five s.directoryEntry_length,
    List.length_range']

theorem State.header_eq (s : State) (transition override : Bool) : s.header transition override =
    s.headerHead transition override ++ ((List.range' (4 * s.framer.fragment) 4).flatMap s.directoryEntry ++
      crcBytes (s.headerFields transition override)) := by
  rw [State.header, State.headerFields_eq, List.append_assoc]

theorem crcBytes_length (bs : List Byte) : (crcBytes bs).length = 2 := bytesOf_length 2 _

/-- R31, R33: entry `i` of a header's directory is that of channel 4f + i. -/
theorem State.header_entry (s : State) (transition override : Bool) {i : Nat} (hi : i < 4) :
    ((s.header transition override).drop (6 + 5 * i)).take 5 = s.directoryEntry (4 * s.framer.fragment + i) := by
  have hlen := s.headerHead_length transition override
  rw [State.header_eq, ← List.drop_drop, ← hlen, List.drop_left]
  refine flatMap_drop_take_five s.directoryEntry_length _ _ ?_
  rw [List.getElem?_range' hi, Nat.one_mul]

theorem State.slots_eq_64_iff (s : State) : s.slots = 64 ↔ s.straps.slotsHigh = true := by
  unfold State.slots
  cases s.straps.slotsHigh <;> simp

theorem State.headerFlags_lt {s : State} (h : s.framer.Law) (transition override : Bool) :
    s.headerFlags transition override < 256 := by
  have := h.fragment
  unfold State.headerFlags
  (repeat' split) <;> omega

/-- The bytes of a part that follows a head of known length. -/
theorem drop_take_append {α : Type} {a b c : List α} {m n : Nat} (ha : a.length = m) (hb : b.length = n) :
    ((a ++ (b ++ c)).drop m).take n = b := by
  rw [← ha, List.drop_left, ← hb, List.take_left]

/-- Settles O19. -/
theorem headerLayout : Obligations.HeaderLayout := by
  intro s transition override hl
  have hlen := s.headerFields_length transition override
  have hhead : s.header transition override = [0xA6] ++ (bytesOf 3 s.framer.frameNumber ++ (bytesOf 1 s.framer.planNumber ++
      (bytesOf 1 (s.headerFlags transition override) ++ ((List.range' (4 * s.framer.fragment) 4).flatMap s.directoryEntry ++
        crcBytes (s.headerFields transition override))))) := by
    rw [State.header_eq]
    simp [State.headerHead]
  refine ⟨?_, ?_, ?_, ?_, ?_, fun i hi c hc => ?_, ?_⟩
  · rw [State.header, List.length_append, hlen, crcBytes_length]
  · rw [hhead]
    rfl
  · rw [hhead, drop_take_append (m := 1) rfl (bytesOf_length 3 _), numberOf_bytesOf_three hl.frameNumber]
  · rw [hhead, ← List.append_assoc, drop_take_append (m := 4) (by simp [bytesOf_length]) (bytesOf_length 1 _),
      numberOf_bytesOf_one hl.planNumber]
  · rw [hhead, ← List.append_assoc, ← List.append_assoc,
      drop_take_append (m := 5) (by simp [bytesOf_length]) (bytesOf_length 1 _),
      numberOf_bytesOf_one (State.headerFlags_lt hl transition override)]
    simp only [State.headerFlags, s.slots_eq_64_iff]
  · rw [s.header_entry transition override hi, ← hc]
    refine ⟨fun h0 => ?_, fun h0 he => ?_, fun x h0 he hx => ?_⟩
    · rw [State.directoryEntry, if_pos h0]
      simp only [entryBytes, bytesOf_one, List.append_assoc]
      rfl
    · rw [State.directoryEntry, if_neg h0, if_neg (by simp [he]), bytesOf_one]
      rfl
    · rw [State.directoryEntry, if_neg h0, if_pos he, hx]
      simp only [entryBytes, bytesOf_one, List.append_assoc, Option.map_some, Option.getD_some]
      rfl
  · rw [State.header, ← hlen, List.drop_left, List.take_left]
    rfl

end Sys2Proof.Machine
end

section
/-! Request frames are read back (O7): numbers in their widths, parameters one after another, and the frame around a body. -/

namespace Sys2Proof.Machine

open Sys2Proof

/-! ## Numbers -/

theorem numberOf_append (a : Nat) (bs : List Byte) :
    bs.foldl (fun n b => 256 * n + b.toNat) a = a * 256 ^ bs.length + numberOf bs := by
  unfold numberOf
  induction bs generalizing a with
  | nil => simp
  | cons b bs ih =>
    rw [List.foldl_cons, ih, List.foldl_cons, ih (256 * 0 + b.toNat), List.length_cons]
    ring

/-- A number that fits its width is spelt by its bytes. -/
theorem numberOf_bytesOf (w n : Nat) (h : n < 256 ^ w) : numberOf (bytesOf w n) = n := by
  have hmod (w n : Nat) : numberOf (bytesOf w n) = n % 256 ^ w := by
    induction w with
    | zero => simp [bytesOf, numberOf, Nat.mod_one]
    | succ w ih =>
      have hstep : numberOf (bytesOf (w + 1) n) =
          (BitVec.ofNat 8 (n / 256 ^ w)).toNat * 256 ^ w + numberOf (bytesOf w n) := by
        have h := numberOf_append (256 * 0 + (BitVec.ofNat 8 (n / 256 ^ w)).toNat) (bytesOf w n)
        rw [bytesOf_length, Nat.mul_zero, Nat.zero_add] at h
        rw [← h, bytesOf, numberOf, List.foldl_cons, Nat.mul_zero, Nat.zero_add]
      rw [hstep, ih, BitVec.toNat_ofNat, show n % 256 ^ (w + 1) = n % 256 ^ w + 256 ^ w * (n / 256 ^ w % 256) from Nat.mod_mul,
        Nat.mul_comm, Nat.add_comm]
  rw [hmod, Nat.mod_eq_of_lt h]

/-! ## Parameters -/

theorem paramBytes_length {ws ps : List Nat} (h : ps.length = ws.length) : (paramBytes ws ps).length = ws.sum := by
  induction ws generalizing ps with
  | nil =>
    obtain rfl : ps = [] := List.length_eq_zero_iff.mp h
    rfl
  | cons w ws ih =>
    cases ps with
    | nil => cases h
    | cons p ps =>
      rw [paramBytes, List.length_append, bytesOf_length, List.sum_cons, ih (by simpa using h)]

/-- Parameters within their widths are read back. -/
theorem readParams_paramBytes {ws ps : List Nat} (h : paramsFit ws ps = true) :
    readParams ws (paramBytes ws ps) = some ps := by
  induction ws generalizing ps with
  | nil =>
    cases ps with
    | nil => rfl
    | cons p ps => cases h
  | cons w ws ih =>
    cases ps with
    | nil => cases h
    | cons p ps =>
      simp only [paramsFit, Bool.and_eq_true, decide_eq_true_eq] at h
      have hlen := bytesOf_length w p
      rw [paramBytes, readParams, if_pos (by rw [List.length_append, hlen]; omega)]
      rw [List.drop_left' hlen, List.take_left' hlen, ih h.2, numberOf_bytesOf w p h.1]
      rfl

/-! ## Frames -/

/-- R182 to R184: a request is in its link's set, has the parameters that its code's frame carries, and is what they
stand for. -/
theorem request_wire {i : Instr} {r : Request} (h : i.request = some r) :
    r.link.takes r.code = true ∧ r.params.length = (requestWidths r.code).length ∧
      commandOf r.link.master r.code r.params = some i := by
  cases i
  case rxQuery l _ => exact Laws.Wire.rxQuery l _ r h
  case acctQuery l _ => exact Laws.Wire.acctQuery l _ r h
  case flagsRead l => exact Laws.Wire.flagsRead l r h
  case flagsClear l _ => exact Laws.Wire.flagsClear l _ r h
  case maskSet l _ => exact Laws.Wire.maskSet l _ r h
  all_goals cases h
  all_goals exact ⟨rfl, rfl, rfl⟩

/-- What a link takes has a code of one byte. -/
theorem Link.code_lt {l : Link} {code : Nat} (h : l.takes code = true) : code < 256 := by
  cases l <;> simp only [Link.takes, inRange_iff] at h <;> omega

theorem paramLength_le (code : Nat) : paramLength code < 255 := by
  unfold paramLength requestWidths
  split <;> decide

theorem requestFrame_length (body : List Byte) : (requestFrame body).length = body.length + 4 := by
  simp only [requestFrame, counted, List.length_cons, List.length_append, bytesOf_length, crcBytes_length]
  omega

/-- R183, R187: the counted part of a frame and its CRC are read as the body. -/
theorem readCounted_counted (l : Link) {body : List Byte} (h : body.length < 256) :
    readCounted l (counted body ++ crcBytes (counted body)) = readBody l body := by
  have hn : (BitVec.ofNat 8 body.length).toNat = body.length := by
    rw [BitVec.toNat_ofNat]
    exact Nat.mod_eq_of_lt h
  have hc : counted body = BitVec.ofNat 8 body.length :: body := by rw [counted, bytesOf_one]; rfl
  rw [hc, List.cons_append, readCounted, hn, if_neg (by simp [crcBytes_length]), List.take_left, List.drop_left, if_pos rfl]

theorem readFrame_requestFrame (l : Link) {body : List Byte} (h : body.length < 256) :
    readFrame l (requestFrame body) = readBody l body := by
  rw [requestFrame, readFrame, if_pos rfl, readCounted_counted l h]

theorem code_toNat {code : Nat} (h : code < 256) : (BitVec.ofNat 8 code).toNat = code := by
  rw [BitVec.toNat_ofNat]
  exact Nat.mod_eq_of_lt h

/-- The body of a well-formed request is read back as its command. -/
theorem readBody_request {i : Instr} {r : Request} (h : i.request = some r) (hw : r.wellFormed = true) :
    readBody r.link r.body = some i ∧ r.body.length = 1 + paramLength r.code := by
  obtain ⟨htakes, hlen, hcommand⟩ := request_wire h
  have hfit : paramsFit (requestWidths r.code) r.params = true := by
    simp only [Request.wellFormed, Bool.and_eq_true] at hw
    exact hw.2
  have hcode := code_toNat (Link.code_lt htakes)
  have hplen : (paramBytes (requestWidths r.code) r.params).length = paramLength r.code := paramBytes_length hlen
  have htaken : r.link.turnsAway r.code (paramLength r.code) = none := by simp [Link.turnsAway, htakes]
  refine ⟨?_, ?_⟩
  · rw [Request.body, bytesOf_one, List.singleton_append, readBody, hcode, hplen, htaken, readParams_paramBytes hfit]
    simpa using hcommand
  · rw [Request.body, List.length_append, bytesOf_length, hplen]

/-- The body of a request that is turned away is read back as that command. -/
theorem readBody_turnedAway {l : Link} {code : Nat} {params : List Byte} (h : turnedAway l code params = true) :
    readBody l (bytesOf 1 code ++ params) = some (.unknownRequest l code params) ∧
      (bytesOf 1 code ++ params).length < 256 := by
  simp only [turnedAway, Bool.and_eq_true, decide_eq_true_eq] at h
  obtain ⟨⟨hcode, hlen⟩, hturn⟩ := h
  refine ⟨?_, ?_⟩
  · rw [bytesOf_one, List.singleton_append, readBody, code_toNat hcode, if_pos hturn]
  · rw [List.length_append, bytesOf_length]
    omega

theorem body_length_lt {i : Instr} {r : Request} (h : i.request = some r) (hw : r.wellFormed = true) :
    r.body.length < 256 := by
  have := (readBody_request h hw).2
  have := paramLength_le r.code
  omega

/-- Settles O7. -/
theorem requestFramesReadBack : Obligations.RequestFramesReadBack := by
  refine ⟨fun i r h hw => ⟨?_, requestFrame_length _, (readBody_request h hw).2⟩, fun l code params h => ?_⟩
  · rw [readFrame_requestFrame _ (body_length_lt h hw)]
    exact (readBody_request h hw).1
  · obtain ⟨hread, hlen⟩ := readBody_turnedAway h
    rw [readFrame_requestFrame _ hlen]
    exact hread

end Sys2Proof.Machine
end

section
/-! Desk requests that leave the relay resolver alone: MIC_ON that offers or waits (O32), MIC_OFF that hands over (O33),
cough and sign-on (O37). -/

namespace Sys2Proof.Machine

open Sys2Proof

/-- R63: a desk request on air from a desk in use is answered by its own rule, the lamp joined. -/
theorem exec_deskRule {i : Instr} {q : Request} {s t : State} {b d : Nat} {rule : State → Claim} {code : AnswerCode}
    (hq : i.request = some q) (hacc : s.accepts i) (hrule : i.rule s = deskRule b d rule s) (hs : s.framer.state = .onAir)
    (hd : s.deskInUse b d = true) (hclaim : rule s = ⟨t, code⟩) :
    exec i s = .next (t.post q.link ⟨q.code, code, [f1 (t.lamp b d).code]⟩) :=
  exec_reply hq hacc (by rw [hrule, deskRule_taken _ hs hd, hclaim, withLamp])

/-! ## One turn ended -/

theorem State.turnEnded_congr {s s' : State} (hm : s'.meter = s.meter) (hj : s'.journal = s.journal) (t : State) (b : Nat)
    (r : Reason) : s'.turnEnded t b r ↔ s.turnEnded t b r := by
  simp only [State.turnEnded, State.turn, State.totals, hm, hj]

theorem State.turnEnded.congr {s t u : State} {b : Nat} {r : Reason} (h : s.turnEnded t b r)
    (hj : u.journal = t.journal) (hs : u.meter.sitting = t.meter.sitting) (ht : u.meter.totals = t.meter.totals) :
    s.turnEnded u b r := by
  unfold State.turnEnded at h ⊢
  simpa only [State.totals, hj, hs, ht] using h

/-- The end of one booth's turn and its flags, where meter, journal and links are still those of `s`. -/
theorem State.closeTurn_after {s t : State} (hm : t.meter = s.meter) (hj : t.journal = s.journal) (hl : t.links = s.links)
    (b : Nat) (r : Reason) : s.turnEnded (t.closeTurn b r) b r ∧
      (t.closeTurn b r).links = (s.handedOver (s.metered [b]).length).links := by
  have hz : s.TurnsHanded t [] r :=
    (State.TurnsHanded.refl s r).congr hj (by rw [hm]) (by rw [hm]) (by rw [hm])
  refine ⟨(State.turnEnded_congr hm hj _ b r).mp (t.closeTurn_turnEnded b r), ?_⟩
  exact hz.links_closeTurn (by simpa [State.metered] using hl) (State.turn_congr hm b)

/-! ## Cough and sign-on -/

theorem State.setDesk_frame (s : State) (b d : Nat) (x : Desk) :
    s.onlyChanges (s.setDesk b d x) [.bdc] ∧ (s.setDesk b d x).desk b d = x ∧ s.desksBut (s.setDesk b d x) b d := by
  refine ⟨?_, by rw [State.desk_setDesk, if_pos rfl], fun y z hk => by rw [State.desk_setDesk, if_neg hk]⟩
  rw [State.onlyChanges_iff]
  simp

/-- R76: cough from a live desk, and from another. -/
theorem State.setCough_live {s : State} {b d : Nat} (h : ∃ c, (s.booth b).live = some (d, c)) (on : Bool) :
    s.setCough b d on = ⟨s.setDesk b d { s.desk b d with cough := on }, .done⟩ :=
  if_pos ((BoothRun.liveDesk_iff _ _).mpr h)

theorem State.setCough_notLive {s : State} {b d : Nat} (h : ∀ c, (s.booth b).live ≠ some (d, c)) (on : Bool) :
    s.setCough b d on = ⟨s, .notLive⟩ :=
  if_neg fun hl => by
    obtain ⟨c, hc⟩ := (BoothRun.liveDesk_iff _ _).mp hl
    exact h c hc

/-- A lamp hangs on its booth's record and its desk's REFUSED latch. -/
theorem State.lamp_congr {s t : State} {b d : Nat} (hb : t.booth b = s.booth b)
    (hr : (t.desk b d).refused = (s.desk b d).refused) : t.lamp b d = s.lamp b d := by
  simp only [State.lamp, hb, hr]

/-- R77: whether another desk holds the number. -/
theorem State.idElsewhere_iff {s : State} (h : s.TablesLaw) (b d n : Nat) :
    s.idElsewhere b d n = true ↔ ∃ x y, deskKey x y ≠ deskKey b d ∧ (s.desk x y).interpreter = some n := by
  have hwf := (Table.wf_iff _ _).mp h.desks
  have hnodup : (s.bdc.desks.map Prod.fst).Nodup :=
    (List.pairwise_map.mpr hwf.1).imp (fun hlt => Nat.ne_of_lt hlt)
  unfold State.idElsewhere
  rw [List.any_eq_true]
  constructor
  · rintro ⟨e, he, hn⟩
    simp only [Bool.and_eq_true, decide_eq_true_eq] at hn
    have hkey : deskKey 0 e.1 = e.1 := Nat.zero_add e.1
    refine ⟨0, e.1, by rw [hkey]; exact hn.1, ?_⟩
    rw [State.desk, hkey, Table.fetch, Table.fetch?_eq_of_mem hnodup he]
    exact hn.2
  · rintro ⟨x, y, hk, hi⟩
    unfold State.desk Table.fetch at hi
    cases hf : Table.fetch? s.bdc.desks (deskKey x y) with
    | none =>
      rw [hf] at hi
      cases hi
    | some e =>
      rw [hf] at hi
      exact ⟨(deskKey x y, e), Table.mem_of_fetch? hf, by simpa [hk] using hi⟩

/-- R77: an interpreter set for a desk that is not live, or that has it already, is set in its record alone. -/
theorem State.setInterpreter_same {s : State} {b d : Nat} {who : Option Nat} (h : (s.desk b d).interpreter = who) :
    s.setInterpreter b d who = s := if_pos h

theorem State.setInterpreter_notLive {s : State} {b d : Nat} {who : Option Nat} (h : (s.desk b d).interpreter ≠ who)
    (hl : ∀ c, (s.booth b).live ≠ some (d, c)) :
    s.setInterpreter b d who = s.setDesk b d { s.desk b d with interpreter := who } := by
  unfold State.setInterpreter State.reportIdentity
  rw [if_neg h, State.booth_setDesk]
  cases hlive : (s.booth b).live with
  | none => rfl
  | some p =>
    obtain ⟨e, c⟩ := p
    have hne : e ≠ d := by
      rintro rfl
      exact hl c hlive
    exact if_neg hne

theorem State.setInterpreter_live {s : State} {b d c : Nat} {who : Option Nat} (h : (s.desk b d).interpreter ≠ who)
    (hl : (s.booth b).live = some (d, c)) : s.setInterpreter b d who =
      ((s.setDesk b d { s.desk b d with interpreter := who }).closeTurn b .signOn).openTurn b d c := by
  unfold State.setInterpreter State.reportIdentity
  rw [if_neg h, State.booth_setDesk, hl]
  exact if_pos rfl

/-- R77: what SIGN_ON and SIGN_OFF leave of the desks, and of the turn of a live desk whose interpreter changes. -/
def State.identified (s t : State) (b d : Nat) (who : Option Nat) : Prop :=
  s.onlyChanges t [.bdc, .meter, .journal, .links] ∧ s.sameLinks t ∧
    t.desk b d = { s.desk b d with interpreter := who } ∧ s.desksBut t b d ∧
    t.bdc.booths = s.bdc.booths ∧ t.bdc.channels = s.bdc.channels ∧ s.turnsBut t b ∧
    ((s.desk b d).interpreter = who ∨ (∀ c, (s.booth b).live ≠ some (d, c)) →
      t.meter = s.meter ∧ t.journal = s.journal ∧ t.links = s.links) ∧
    ∀ c, (s.desk b d).interpreter ≠ who → (s.booth b).live = some (d, c) →
      s.turnEnded t b .signOn ∧ t.links = (s.handedOver (s.metered [b]).length).links ∧
        t.turn b = if s.meter.sitting.isOpen then
          some ⟨d, who, c, s.carriedQuality c, s.meter.time, 0, 0, 0⟩ else none

theorem State.turnsBut_refl (s : State) (b : Nat) : s.turnsBut s b := ⟨rfl, rfl, rfl, fun _ _ => rfl⟩

theorem State.onlyChanges_refl (s : State) (bs : List Block) : s.onlyChanges s bs := fun x _ => by cases x <;> rfl

/-- A turn closed and another opened for the same booth leave the other turns alone. -/
theorem State.reopened_turnsBut {s t : State} (hm : t.meter = s.meter) (b d c : Nat) (r : Reason) :
    s.turnsBut ((t.closeTurn b r).openTurn b d c) b := by
  refine ⟨by simp [hm], by simp [hm], by simp [hm], fun x hx => ?_⟩
  rw [State.openTurn_turn, if_neg fun h => hx h.1, State.closeTurn_turn, if_neg hx, State.turn_congr hm]

theorem State.setInterpreter_identified (s : State) (b d : Nat) (who : Option Nat) :
    s.identified (s.setInterpreter b d who) b d who := by
  by_cases hsame : (s.desk b d).interpreter = who
  · rw [State.setInterpreter_same hsame]
    refine ⟨s.onlyChanges_refl _, ⟨rfl, rfl, rfl⟩, by rw [← hsame], fun _ _ _ => rfl, rfl, rfl, s.turnsBut_refl b,
      fun _ => ⟨rfl, rfl, rfl⟩, fun c hne => absurd hsame hne⟩
  · obtain ⟨hf, hat, hbut⟩ := s.setDesk_frame b d { s.desk b d with interpreter := who }
    by_cases hl : ∀ c, (s.booth b).live ≠ some (d, c)
    · rw [State.setInterpreter_notLive hsame hl]
      refine ⟨fun x hx => hf x fun hb => hx (by simp_all), ⟨rfl, rfl, rfl⟩, hat, hbut, rfl, rfl, s.turnsBut_refl b,
        fun _ => ⟨rfl, rfl, rfl⟩, fun c _ hlive => absurd hlive (hl c)⟩
    · push Not at hl
      obtain ⟨c, hlive⟩ := hl
      rw [State.setInterpreter_live hsame hlive]
      have hbdc : (((s.setDesk b d { s.desk b d with interpreter := who }).closeTurn b .signOn).openTurn b d c).bdc =
          (s.setDesk b d { s.desk b d with interpreter := who }).bdc := by simp
      obtain ⟨hended, hlinks⟩ := State.closeTurn_after (s := s) (t := s.setDesk b d { s.desk b d with interpreter := who })
        rfl rfl rfl b .signOn
      refine ⟨?_, ?_, (State.desk_congr hbdc b d).trans hat, fun x y hk => (State.desk_congr hbdc x y).trans (hbut x y hk),
        by rw [hbdc]; rfl, by rw [hbdc]; rfl, State.reopened_turnsBut rfl b d c _,
        fun h => absurd hlive (h.elim (fun h => absurd h hsame) fun h => h c), fun c' _ hlive' => ?_⟩
      · rw [State.onlyChanges_iff]
        simp
      · rw [State.sameLinks_iff_wire]
        simp
      · obtain rfl : c = c' := by simpa using hlive.symm.trans hlive'
        refine ⟨hended.congr (by simp) (by simp) (by simp), by simpa using hlinks, ?_⟩
        have hturn : ((s.setDesk b d { s.desk b d with interpreter := who }).closeTurn b .signOn).turn b = none := by
          rw [State.closeTurn_turn, if_pos rfl]
        rw [State.openTurn_newTurn _ _ _ _ _ hturn, if_pos rfl, State.newTurn,
          State.carriedQuality_congr (s := s) (by simp),
          State.desk_congr (s := s.setDesk b d { s.desk b d with interpreter := who })
            (t := (s.setDesk b d { s.desk b d with interpreter := who }).closeTurn b .signOn) (by simp), hat]
        simp

/-- Settles O37. -/
theorem coughAndSignOn : Obligations.CoughAndSignOn := by
  intro s b d hs hd
  refine ⟨fun on hacc => ⟨fun hl => ?_, fun hl => ?_⟩, fun n hacc ht hex => ?_, fun i who req hi hacc ht => ?_⟩
  · obtain ⟨hf, hat, hbut⟩ := s.setDesk_frame b d { s.desk b d with cough := on }
    refine ⟨s.setDesk b d { s.desk b d with cough := on }, ?_, hf, hat, hbut, rfl, rfl⟩
    have hlamp : (s.setDesk b d { s.desk b d with cough := on }).lamp b d = s.lamp b d :=
      State.lamp_congr rfl (by rw [hat])
    rw [← hlamp]
    cases on with
    | true => exact exec_deskRule (i := .coughOn b d) (rule := fun s => s.setCough b d true) rfl hacc rfl hs hd (State.setCough_live hl true)
    | false => exact exec_deskRule (i := .coughOff b d) (rule := fun s => s.setCough b d false) rfl hacc rfl hs hd (State.setCough_live hl false)
  · cases on with
    | true => exact exec_deskRule (i := .coughOn b d) (rule := fun s => s.setCough b d true) rfl hacc rfl hs hd (State.setCough_notLive hl true)
    | false => exact exec_deskRule (i := .coughOff b d) (rule := fun s => s.setCough b d false) rfl hacc rfl hs hd (State.setCough_notLive hl false)
  · exact exec_deskRule (i := .signOn b d n) (rule := fun s => if s.idElsewhere b d n then ⟨s, .idInUse⟩ else ⟨s.setInterpreter b d (some n), .done⟩)
        rfl hacc rfl hs hd (if_pos ((State.idElsewhere_iff ht b d n).mpr hex))
  · have hrule := s.setInterpreter_identified b d who
    have hlamp : (s.setInterpreter b d who).lamp b d = s.lamp b d :=
      State.lamp_congr (by simp only [State.booth, hrule.2.2.2.2.1]) (by rw [hrule.2.2.1])
    refine ⟨s.setInterpreter b d who, ?_, hrule⟩
    rw [← hlamp]
    rcases hi with ⟨rfl, rfl, rfl⟩ | ⟨n, rfl, rfl, rfl, hno⟩
    · exact exec_deskRule (i := .signOff b d) (rule := fun s => ⟨s.setInterpreter b d none, .done⟩) rfl hacc rfl hs hd rfl
    · have hfree : s.idElsewhere b d n = false := by
        rw [Bool.eq_false_iff, ne_eq, State.idElsewhere_iff ht]
        rintro ⟨x, y, hk, hint⟩
        exact hno x y hk hint
      exact exec_deskRule (i := .signOn b d n) (rule := fun s => if s.idElsewhere b d n then ⟨s, .idInUse⟩ else ⟨s.setInterpreter b d (some n), .done⟩)
        rfl hacc rfl hs hd (if_neg (by rw [hfree]; exact Bool.false_ne_true))

/-! ## A handover -/

/-- Settles O33. -/
theorem micOffHandsOver : Obligations.MicOffHandsOver := by
  intro s b d e c y hacc hm ht hs hd hl ho hp
  have hmicOff : s.micOff b d = s.handover b d e c := by
    unfold State.micOff State.giveUp
    rw [if_pos ((BoothRun.liveDesk_iff _ _).mpr ⟨c, hl⟩), hl, ho]
    exact if_pos hp
  have hbooth := s.handover_booth b d e c
  have hchan := s.handover_chan b d e c
  have hcar := s.handover_carriage b d e c
  have hturn := s.handover_turn b d e c
  obtain ⟨hended, hlinks⟩ := State.closeTurn_after (s := s)
    (t := ((s.setLive b e c).dropOffer b).mixHandover c ⟨b, d⟩ ⟨b, e⟩) (by simp) (by simp) (by simp) b .handover
  refine ⟨s.handover b d e c, ?_, ?_, ?_, ?_, fun x hx => ?_, ?_, ⟨fun x hx => ⟨?_, ?_⟩, ?_, ?_, ?_⟩, by simp, ?_, fun hz => ?_,
    fun hz => ⟨fun hr => ?_, fun r hr => ?_⟩, ?_, ?_, ⟨?_, ?_, ?_, fun x hx => ?_⟩, ?_, ?_⟩
  · exact exec_deskRule (i := .micOff b d) (rule := fun s => ⟨s.micOff b d, .done⟩) rfl hacc rfl hs hd (by rw [hmicOff])
  · rw [State.onlyChanges_iff]
    simp
  · rw [State.sameLinks_iff_wire]
    simp [State.handover]
  · rw [hbooth, if_pos rfl]
  · rw [hbooth, if_neg hx]
  · rw [hchan, if_pos rfl]
  · rw [hchan, if_neg hx]
  · rw [hcar, if_neg hx]
  · simp [State.handover, State.mixHandover, State.setCarriage]
  · simp [State.handover, State.mixHandover, State.setCarriage]
  · simp [State.handover, State.mixHandover, State.setCarriage]
  · rw [hcar, if_pos rfl]
  · rw [hcar, if_pos rfl, State.newRamp, if_pos hz]
  · rw [hcar, if_pos rfl, State.newRamp, if_neg hz, Carriage.startGain, hr]
  · rw [hcar, if_pos rfl, State.newRamp, if_neg hz, Carriage.startGain, hr]
    rfl
  · simp [State.handover, State.mixHandover, State.setCarriage]
  · rw [hturn, if_pos rfl]
  · simp [State.handover]
  · simp [State.handover]
  · simp [State.handover]
  · rw [hturn, if_neg hx]
  · exact hended.congr (by simp [State.handover]) (by simp [State.handover]) (by simp [State.handover])
  · simpa [State.handover] using hlinks

/-! ## MIC_ON that is not granted -/

/-- R65: the cases of MIC_ON in their order. -/
theorem State.micOn_live {s : State} {b d : Nat} (h : ∃ c, (s.booth b).live = some (d, c)) : s.micOn b d = ⟨s, .done⟩ :=
  if_pos ((BoothRun.liveDesk_iff _ _).mpr h)

theorem State.micOn_notLive {s : State} {b d : Nat} (h : ∀ c, (s.booth b).live ≠ some (d, c)) : s.micOn b d =
    if (s.booth b).offer.map Prod.fst = some d then ⟨s, .offered⟩
    else if (s.booth b).pending.map Prod.fst = some d then ⟨s, .waiting⟩
    else s.ask b d (s.desk b d).output :=
  if_neg fun hl => by
    obtain ⟨c, hc⟩ := (BoothRun.liveDesk_iff _ _).mp hl
    exact h c hc

theorem State.micOn_offering {s : State} {b d : Nat} (h : ∀ c, (s.booth b).live ≠ some (d, c))
    (ho : ∃ x, (s.booth b).offer = some (d, x)) : s.micOn b d = ⟨s, .offered⟩ := by
  rw [State.micOn_notLive h, if_pos ((map_fst_eq_some_iff _ _).mpr ho)]

theorem State.micOn_waiting {s : State} {b d : Nat} (h : ∀ c, (s.booth b).live ≠ some (d, c))
    (ho : ∀ x, (s.booth b).offer ≠ some (d, x)) (hp : ∃ x, (s.booth b).pending = some (d, x)) :
    s.micOn b d = ⟨s, .waiting⟩ := by
  rw [State.micOn_notLive h, if_neg fun he => ?_, if_pos ((map_fst_eq_some_iff _ _).mpr hp)]
  obtain ⟨x, hx⟩ := (map_fst_eq_some_iff _ _).mp he
  exact ho x hx

theorem State.micOn_asks {s : State} {b d : Nat} (h : ∀ c, (s.booth b).live ≠ some (d, c))
    (ho : ∀ x, (s.booth b).offer ≠ some (d, x)) (hp : ∀ x, (s.booth b).pending ≠ some (d, x)) :
    s.micOn b d = s.ask b d (s.desk b d).output := by
  rw [State.micOn_notLive h, if_neg fun he => ?_, if_neg fun he => ?_]
  · obtain ⟨x, hx⟩ := (map_fst_eq_some_iff _ _).mp he
    exact hp x hx
  · obtain ⟨x, hx⟩ := (map_fst_eq_some_iff _ _).mp he
    exact ho x hx

/-- R65, cases 4 to 8, in their order. -/
theorem State.ask_unassigned {s : State} {b : Nat} {x : Output} (h : s.planChannel b x = none) (d : Nat) :
    s.ask b d x = ⟨s, .channelUnassigned⟩ := by simp only [State.ask, h]

theorem State.ask_assigned {s : State} {b c : Nat} {x : Output} (h : s.planChannel b x = some c) (d : Nat) :
    s.ask b d x = s.askChannel b d c x := by simp only [State.ask, h]

theorem State.askChannel_offers {s : State} {b : Nat} (hl : (s.booth b).live ≠ none) (ho : (s.booth b).offer = none)
    (d c : Nat) (x : Output) : s.askChannel b d c x = ⟨s.recordOffer b d x, .offered⟩ := by
  rw [State.askChannel, if_pos (Option.isSome_iff_ne_none.mpr hl), if_neg (by simp [ho])]

theorem State.askChannel_busy {s : State} {b : Nat} (h : (s.booth b).live ≠ none ∧ (s.booth b).offer ≠ none ∨
    (s.booth b).live = none ∧ (s.booth b).pending ≠ none) (d c : Nat) (x : Output) :
    s.askChannel b d c x = ⟨s, .boothBusy⟩ := by
  unfold State.askChannel
  rcases h with ⟨hl, ho⟩ | ⟨hl, hp⟩
  · rw [if_pos (Option.isSome_iff_ne_none.mpr hl), if_pos (Option.isSome_iff_ne_none.mpr ho)]
  · rw [if_neg (by simp [hl]), if_pos (Option.isSome_iff_ne_none.mpr hp)]

theorem State.askChannel_claims {s : State} {b : Nat} (hl : (s.booth b).live = none) (hp : (s.booth b).pending = none)
    (d c : Nat) (x : Output) : s.askChannel b d c x = s.claimChannel b d c x := by
  rw [State.askChannel, if_neg (by simp [hl]), if_neg (by simp [hp])]

theorem State.claimChannel_full {s : State} {c : Nat} (hh : (s.chan c).holder ≠ none) (hq : 4 ≤ (s.chan c).queue.length)
    (b d : Nat) (x : Output) : s.claimChannel b d c x = ⟨s, .queueFull⟩ := by
  rw [State.claimChannel, if_neg hh, if_pos (show Config.queueSize ≤ _ from hq)]

theorem State.claimChannel_waits {s : State} {c : Nat} (hh : (s.chan c).holder ≠ none) (hq : (s.chan c).queue.length < 4)
    (b d : Nat) (x : Output) : s.claimChannel b d c x = ⟨s.joinQueue b d c x, .waiting⟩ := by
  rw [State.claimChannel, if_neg hh, if_neg (show ¬ Config.queueSize ≤ _ from Nat.not_le.mpr hq)]

/-- What an MIC_ON that is not granted can do: nothing, an offer, or a queue joined. -/
theorem State.micOn_ungranted (s : State) (b d : Nat) (h : (s.booth b).live = none → (s.booth b).pending = none →
    ∀ c, s.planChannel b (s.desk b d).output = some c → (s.chan c).holder ≠ none) :
    (s.micOn b d).st = s ∨ (s.micOn b d).st = s.recordOffer b d (s.desk b d).output ∨
      ∃ c, (s.micOn b d).st = s.joinQueue b d c (s.desk b d).output := by
  by_cases hl : ∃ c, (s.booth b).live = some (d, c)
  · rw [State.micOn_live hl]
    exact .inl rfl
  rw [State.micOn_notLive (by simpa using hl)]
  split
  · exact .inl rfl
  split
  · exact .inl rfl
  cases hc : s.planChannel b (s.desk b d).output with
  | none =>
    rw [State.ask_unassigned hc]
    exact .inl rfl
  | some c =>
    rw [State.ask_assigned hc]
    by_cases hlive : (s.booth b).live = none
    · by_cases hp : (s.booth b).pending = none
      · rw [State.askChannel_claims hlive hp]
        by_cases hq : (s.chan c).queue.length < 4
        · rw [State.claimChannel_waits (h hlive hp c hc) hq]
          exact .inr (.inr ⟨c, rfl⟩)
        · rw [State.claimChannel_full (h hlive hp c hc) (Nat.not_lt.mp hq)]
          exact .inl rfl
      · rw [State.askChannel_busy (.inr ⟨hlive, hp⟩)]
        exact .inl rfl
    · by_cases ho : (s.booth b).offer = none
      · rw [State.askChannel_offers hlive ho]
        exact .inr (.inl rfl)
      · rw [State.askChannel_busy (.inl ⟨hlive, ho⟩)]
        exact .inl rfl

/-- Settles O32: `u` is the state with the REFUSED latch cleared, from which the cases of MIC_ON are taken. -/
theorem micOnOffersOrWaits : Obligations.MicOnOffersOrWaits := by
  intro s b d hacc hs hd hfree
  obtain ⟨-, hat, hbut⟩ := s.setDesk_frame b d { s.desk b d with refused := false }
  obtain ⟨u, hu⟩ : ∃ u, u = s.setRefused b d false := ⟨_, rfl⟩
  have hbooth (x : Nat) : u.booth x = s.booth x := by rw [hu]; rfl
  have hchan (x : Nat) : u.chan x = s.chan x := by rw [hu]; rfl
  have hplan (x : Output) : u.planChannel b x = s.planChannel b x := by rw [hu]; rfl
  have hout : (u.desk b d).output = (s.desk b d).output := by
    have hdesk : u.desk b d = { s.desk b d with refused := false } := by rw [hu]; exact hat
    rw [hdesk]
  have hmixer : u.mixer = s.mixer := by rw [hu]; rfl
  have hchannels : u.bdc.channels = s.bdc.channels := by rw [hu]; rfl
  have hexec : exec (.micOn b d) s = .next ((u.micOn b d).st.post .desk
      ⟨Code.micOn, (u.micOn b d).code, [f1 ((u.micOn b d).st.lamp b d).code]⟩) := by
    rw [hu]
    exact exec_deskRule (i := .micOn b d) (rule := fun s => (s.setRefused b d false).micOn b d) rfl hacc rfl hs hd rfl
  have hun := u.micOn_ungranted b d (by
    rw [hbooth, hout]
    intro hl hp c hc
    rw [hchan]
    exact hfree hl hp c (by rwa [hplan] at hc))
  refine ⟨(u.micOn b d).st, (u.micOn b d).code, hexec, ?_, ?_, fun x y hk => ?_, fun x hx => ?_, fun hl => ?_, fun hl =>
    ⟨fun ho => ?_, fun ho => ⟨fun hp => ?_, fun hp => ?_⟩⟩⟩
  · rw [State.onlyChanges_iff]
    rcases hun with h | h | ⟨c, h⟩ <;> rw [h, hu] <;> simp
  · have hdesk : (u.micOn b d).st.desk b d = u.desk b d := by rcases hun with h | h | ⟨c, h⟩ <;> rw [h] <;> rfl
    rw [hdesk, hu]
    exact hat
  · have hdesk : (u.micOn b d).st.desk x y = u.desk x y := by rcases hun with h | h | ⟨c, h⟩ <;> rw [h] <;> rfl
    rw [hdesk, hu]
    exact hbut x y hk
  · rcases hun with h | h | ⟨c, h⟩ <;> rw [h]
    · rw [hbooth]
    · rw [State.recordOffer_booth, if_neg hx, hbooth]
    · rw [State.joinQueue_booth, if_neg hx, hbooth]
  · rw [State.micOn_live (by rwa [hbooth])]
    exact ⟨rfl, hbooth b, hchannels⟩
  · rw [State.micOn_offering (by rwa [hbooth]) (by rwa [hbooth])]
    exact ⟨rfl, hbooth b, hchannels⟩
  · rw [State.micOn_waiting (by rwa [hbooth]) (by rwa [hbooth]) (by rwa [hbooth])]
    exact ⟨rfl, hbooth b, hchannels⟩
  · rw [State.micOn_asks (by rwa [hbooth]) (by rwa [hbooth]) (by rwa [hbooth]), hout]
    refine ⟨fun hc => ?_, fun c hc => ?_⟩
    · rw [State.ask_unassigned (by rwa [hplan])]
      exact ⟨rfl, hbooth b, hchannels⟩
    · rw [State.ask_assigned (by rwa [hplan])]
      refine ⟨fun hlive => ⟨fun hoff => ?_, fun hoff => ?_, ?_⟩, fun hlive => ⟨fun hpend => ?_, fun hpend hh =>
        ⟨fun hq => ?_, fun hq => ?_⟩⟩⟩
      · rw [State.askChannel_busy (.inl (by rw [hbooth]; exact ⟨hlive, hoff⟩))]
        exact ⟨rfl, hbooth b⟩
      · rw [State.askChannel_offers (by rwa [hbooth]) (by rwa [hbooth])]
        refine ⟨rfl, ?_⟩
        rw [State.recordOffer_booth, if_pos rfl, hbooth, hmixer]
      · by_cases hoff : (s.booth b).offer = none
        · rw [State.askChannel_offers (by rwa [hbooth]) (by rwa [hbooth])]
          exact hchannels
        · rw [State.askChannel_busy (.inl (by rw [hbooth]; exact ⟨hlive, hoff⟩))]
          exact hchannels
      · rw [State.askChannel_busy (.inr (by rw [hbooth]; exact ⟨hlive, hpend⟩))]
        exact ⟨rfl, hbooth b, hchannels⟩
      · rw [State.askChannel_claims (by rwa [hbooth]) (by rwa [hbooth]),
          State.claimChannel_full (by rwa [hchan]) (by rwa [hchan])]
        exact ⟨rfl, hbooth b, hchannels⟩
      · rw [State.askChannel_claims (by rwa [hbooth]) (by rwa [hbooth]),
          State.claimChannel_waits (by rwa [hchan]) (by rwa [hchan])]
        refine ⟨rfl, ?_, ?_, fun x hx => ?_⟩
        · rw [State.joinQueue_booth, if_pos rfl, hbooth]
        · rw [State.joinQueue_chan, if_pos rfl, hchan]
        · rw [State.joinQueue_chan, if_neg hx, hchan]

end Sys2Proof.Machine
end

section
/-! The frames of the framer and the mixer: the frame boundary (O15), the cut-in (O18), STANDBY (O13). -/

namespace Sys2Proof.Machine

open Sys2Proof

/-! ## A frame begins -/

/-- R52: the ramps of a frame that begins. -/
theorem State.rampsAdvanced_of_carriage {s t : State} (h : ∀ c, t.carriage c = s.advanceRamps.carriage c) :
    s.rampsAdvanced t := by
  intro c hc
  rw [h, State.MicSound.advanceRamps_carriage, if_pos hc]
  refine ⟨State.MicSound.Carriage.advance_live _, fun hr => ?_, fun r hr => ?_⟩
  · simp only [Carriage.advance, hr]
  · simp only [Carriage.advance, hr]
    split <;> rfl

theorem State.beginFrame_carriage (s : State) (tr o m : Bool) (c : Nat) :
    (s.beginFrame tr o m).carriage c = s.advanceRamps.carriage c := rfl

theorem State.beginFrame_rampsAdvanced (s : State) (tr o m : Bool) : s.rampsAdvanced (s.beginFrame tr o m) :=
  State.rampsAdvanced_of_carriage fun _ => rfl

/-- R46, R49: every feed of a booth is fixed as the frame begins. -/
theorem State.beginFrame_feed (s : State) (tr o m : Bool) {b : Nat} (hb : b ∈ Config.boothNumbers) :
    (s.beginFrame tr o m).feed b = (s.beginFrame tr o m).feedSignal b := by
  have h := Table.fetch_fill Signal.floor (s.beginFrame tr o m).feedSignal Config.boothNumbers s.mixer.feeds b
  rw [if_pos hb] at h
  exact h

/-- R46: the frame that begins is built from the state that the boundary leaves. -/
theorem State.beginFrame_framer_eq (s : State) (tr o m : Bool) : (s.beginFrame tr o m).framer = { s.framer with
    frame := some ((s.beginFrame tr o m).newFrame tr o m) } := rfl

/-- R48: an OVERRIDE frame carries the announcement in every slot. -/
theorem State.slotSignal_override (s : State) (i : Nat) : s.slotSignal false true i = .announcement := by
  unfold State.slotSignal
  split
  · rfl
  · split <;> rfl

/-- R47, R48: a TRANSITION frame carries the floor and silence. -/
theorem State.slotSignal_transition (s : State) (i : Nat) :
    s.slotSignal true false i = if i < 2 then .floor else .silence := by
  unfold State.slotSignal
  split
  · rfl
  · split <;> rfl

/-- R34: the two bytes of a trailer. -/
theorem trailerBytes_eq (early : Bool) (n : Nat) :
    trailerBytes early n = [if early then 0x80 else 0x00, BitVec.ofNat 8 n] := by
  unfold trailerBytes
  rw [bytesOf_one, bytesOf_one]
  cases early <;> rfl

/-- Settles O15. -/
theorem frameBoundaryContinuesThePlan : Obligations.FrameBoundaryContinuesThePlan := by
  intro s
  refine ⟨fun hs => ?_, fun hs hcont => ?_⟩
  · exact congrArg Host.Outcome.next (if_neg fun h => hs ((State.onAir_iff s).mp h))
  have hexec : exec .frameBoundary s = .next s.boundary :=
    congrArg Host.Outcome.next (if_pos ((State.onAir_iff s).mpr hs))
  rcases s.boundary_cases with ⟨k, hk, ho, -⟩ | ⟨-, hb⟩
  · exact absurd hcont (not_or.mpr ⟨ho, by simp [hk]⟩)
  obtain ⟨u, hu⟩ : ∃ u, u = s.endFrame.endOverride.setFramer s.endFrame.endOverride.framer.continued := ⟨_, rfl⟩
  rw [← hu] at hb
  have hover : decide (s.framer.override.atBoundary ≠ .off) = decide (s.framer.override = .on) := by
    cases s.framer.override <;> rfl
  rw [hover] at hb
  have hframer := u.beginFrame_framer_eq false (decide (s.framer.override = .on)) (decide (s.framer.override = .ending))
  rw [← hb] at hframer
  refine ⟨s.boundary, s.boundary.newFrame false (decide (s.framer.override = .on)) (decide (s.framer.override = .ending)),
    hexec, ?_, ?_, rfl, rfl, rfl, ?_, rfl, ?_, fun b hb' => ?_, ?_, ?_, ?_⟩
  · rw [State.onlyChanges_iff, hb, hu]
    simp
  · rw [hframer, hu]
    simp only [State.setFramer_framer, State.endOverride, State.endFrame, Framer.continued, nextFrameNumber, nextFragment]
    have hat : s.framer.override.atBoundary = if s.framer.override = .on then .on else .off := by
      cases s.framer.override <;> rfl
    rw [hat, trailerBytes_eq]
    rfl
  · have hmode : s.boundary.framer.lineMode = s.framer.lineMode := by rw [hframer, hu]; rfl
    simp only [State.newFrame, hmode]
    cases s.framer.lineMode <;> simp [LineMode.pulses]
  · rw [hb]
    exact State.rampsAdvanced_of_carriage (s := s) fun c => by rw [State.beginFrame_carriage, hu]; rfl
  · rw [hb]
    exact State.beginFrame_feed _ _ _ _ hb'
  all_goals rw [hb, hu]; rfl

/-! ## The cut-in -/

theorem State.slotsAtCut_lt (s : State) : s.slotsAtCut < s.slots := by
  have hpos : 0 < s.slots := by
    unfold State.slots
    split <;> decide
  unfold State.slotsAtCut
  split
  · exact hpos
  · exact Nat.mod_lt _ hpos

/-- Settles O18. -/
theorem announceCutsTheFrame : Obligations.AnnounceCutsTheFrame := by
  intro s hrec
  have hann : s.accepts .announce := accepts_of_receives rfl hrec rfl
  have hend : s.accepts .announceEnd := accepts_of_receives rfl hrec rfl
  have hreply : Instr.announce.rule s = announceReply s := rfl
  have hreplyEnd : Instr.announceEnd.rule s = announceEndReply s := rfl
  refine ⟨fun hs => ?_, fun hs => ?_, fun hs ho => ?_, fun hs ho => ?_, fun ho => ?_, fun ho => ?_⟩
  · exact exec_reply (i := .announce) rfl hann (by rw [hreply, announceReply, hs])
  · exact exec_reply (i := .announce) rfl hann (by rw [hreply, announceReply, hs])
  · exact exec_reply (i := .announce) rfl hann (by rw [hreply, announceReply, hs]; exact if_neg ho)
  · obtain ⟨u, hu⟩ : ∃ u, u = s.cutFrame.setFramer s.cutFrame.framer.overridden := ⟨_, rfl⟩
    have ht : s.announce = (u.beginFrame false true true).raise .announceTaken 1 := by rw [hu]; rfl
    have hframer := u.beginFrame_framer_eq false true true
    refine ⟨s.announce, s.announce.newFrame false true true, s.slotsAtCut, exec_reply (i := .announce) rfl hann
      (by rw [hreply, announceReply, hs]; exact if_pos ho), ?_, s.slotsAtCut_lt, fun hc => if_pos hc,
      ?_, rfl, rfl, rfl, ?_, ?_, ?_, fun b hb => ?_, ?_, ?_, ?_, ?_⟩
    · rw [State.onlyChanges_iff]
      simp
    · rw [ht]
      refine hframer.trans ?_
      have htrailer := trailerBytes_eq true s.slotsAtCut
      rw [if_pos rfl] at htrailer
      rw [hu, ← htrailer]
      rfl
    · have hmode : s.announce.framer.lineMode = s.framer.lineMode := by rw [ht, hu]; rfl
      simp only [State.newFrame, hmode]
      cases s.framer.lineMode <;> rfl
    · have hslots : s.announce.slots = s.slots := by rw [ht, hu]; rfl
      simp only [State.newFrame, State.frameSlots, hslots]
      rw [List.eq_replicate_iff]
      refine ⟨by simp, fun x hx => ?_⟩
      obtain ⟨i, -, rfl⟩ := List.mem_map.mp hx
      exact State.slotSignal_override _ i
    · rw [ht]
      exact State.rampsAdvanced_of_carriage fun c => by rw [hu]; rfl
    · rw [ht]
      exact State.beginFrame_feed u false true true hb
    all_goals rw [ht, hu]; rfl
  · exact exec_reply (i := .announceEnd) rfl hend (by rw [hreplyEnd, announceEndReply, ho])
  · cases hover : s.framer.override with
    | off => exact absurd hover ho
    | on =>
      refine ⟨s.setFramer { s.framer with override := .ending }, exec_reply (i := .announceEnd) rfl hend
        (by rw [hreplyEnd, announceEndReply, hover]), ?_, rfl⟩
      rw [State.onlyChanges_iff]
      simp
    | ending =>
      refine ⟨s, exec_reply (i := .announceEnd) rfl hend (by rw [hreplyEnd, announceEndReply, hover]),
        s.onlyChanges_refl _, by rw [← hover]⟩

end Sys2Proof.Machine
end

section
/-! STANDBY (O13): a start abandoned, the framer stopped, and its final frame. -/

namespace Sys2Proof.Machine

open Sys2Proof

/-! ## A release without a turn, off air -/

/-- Desks released off air without an open turn: the carriage records, the copy of the producers and the microphones'
records alone change. -/
structure State.QuietlyReleased (s t : State) : Prop where
  meter : t.meter = s.meter
  journal : t.journal = s.journal
  links : t.links = s.links
  records : t.relay.booths = s.relay.booths
  floorLang : t.relay.floorLang = s.relay.floorLang
  hold : t.relay.hold = s.relay.hold
  feeds : t.mixer.feeds = s.mixer.feeds
  sources : t.mixer.feedSource = s.mixer.feedSource
  rampLength : t.mixer.rampLength = s.mixer.rampLength
  offerTimeout : t.mixer.offerTimeout = s.mixer.offerTimeout
  framer : t.framer = s.framer
  desks : t.bdc.desks = s.bdc.desks

theorem State.QuietlyReleased.releaseBooth {s t : State} (h : s.QuietlyReleased t) (hs : s.framer.state ≠ .onAir)
    (ht : ∀ b, s.turn b = none) (b : Nat) : s.QuietlyReleased (t.releaseBooth b) := by
  unfold State.releaseBooth
  split
  · next d c _ =>
    have hturn : ((t.clearLive b c).mixRelease c).turn b = none := (State.turn_congr h.meter b).trans (ht b)
    have hair : ((t.clearLive b c).mixRelease c).onAir = false := by
      rw [Bool.eq_false_iff, ne_eq, State.onAir_iff]
      exact h.framer ▸ hs
    have hrel : t.release b c .liveReset = ((t.clearLive b c).mixRelease c).clearProducer c := by
      unfold State.release State.productionStop
      rw [State.closeTurn_of_none hturn, if_neg (by rw [hair]; exact Bool.false_ne_true)]
    rw [hrel]
    exact
      { meter := h.meter, journal := h.journal, links := h.links, framer := h.framer, desks := h.desks
        records := h.records, floorLang := h.floorLang, hold := h.hold, feeds := h.feeds, sources := h.sources
        rampLength := h.rampLength, offerTimeout := h.offerTimeout }
  · exact h

/-- R83: LIVE_RESET off air. -/
theorem State.liveReset_quietly {s : State} (hs : s.framer.state ≠ .onAir) (ht : ∀ b, s.turn b = none) :
    s.clearWaits.QuietlyReleased s.liveReset :=
  List.foldlRecOn (motive := fun t => s.clearWaits.QuietlyReleased t) _ _ ⟨rfl, rfl, rfl, rfl, rfl, rfl, rfl, rfl, rfl, rfl, rfl, rfl⟩
    fun _ h b _ => h.releaseBooth hs ht b

/-! ## STANDBY -/

/-- R28, R102: the state in which STANDBY clears the microphones. -/
def State.stopped (s : State) : State := s.retireBanks.stopFramer.relayStandby

theorem State.stop_eq (s : State) : s.stop = s.stopped.liveReset.mixStandby := rfl

theorem State.stopped_sound {s : State} (h : s.MicLaw) : s.stopped.MicSound none :=
  h.sound.congr (h.sound.entries_of_booths rfl fun k => by
    rw [← s.retireBanks_booths k, State.bank_congr (t := s.stopped) (s := s.retireBanks) rfl])
    (fun _ => rfl) (fun _ => rfl) (fun _ => rfl) fun _ => rfl

/-- R28, R54, R84, R102: what STANDBY in ON_AIR leaves with no sitting open. -/
theorem State.stop_releases {s : State} (hopen : s.meter.sitting.isOpen = false) (ht : s.TurnLaw) :
    s.stopped.clearWaits.QuietlyReleased s.stopped.liveReset := by
  refine State.liveReset_quietly (fun h => by cases h) fun b => ?_
  rw [State.turn_congr (t := s.stopped) (s := s) (by simp [State.stopped])]
  cases hb : s.turn b with
  | none => rfl
  | some x =>
    have := (ht.live b x hb).1
    rw [hopen] at this
    cases this

/-- Settles O13. -/
theorem standbyStopsTheFramer : Obligations.StandbyStopsTheFramer := by
  refine ⟨fun s hrec => ?_, fun s => ⟨fun hc => ?_, fun hc => ?_⟩⟩
  · have hacc : s.accepts .standby := accepts_of_receives rfl hrec rfl
    have hrule : Instr.standby.rule s = standbyReply s := rfl
    refine ⟨fun hs => ?_, fun hs => ?_, fun hs hopen => ?_, fun hs hopen hm ht htab => ?_⟩
    · exact exec_reply (i := .standby) rfl hacc (by rw [hrule, standbyReply, hs])
    · refine ⟨s.abandonStart, exec_reply (i := .standby) rfl hacc (by rw [hrule, standbyReply, hs]), ?_,
        fun k hk => s.retireBanks_taken hk, rfl, rfl⟩
      rw [State.onlyChanges_iff]
      simp
    · exact exec_reply (i := .standby) rfl hacc (by rw [hrule, standbyReply, hs]; exact if_pos hopen)
    · have hq := State.stop_releases hopen ht
      have hsound := State.stopped_sound hm
      have hexec : exec .standby s = .next (s.stop.post .console ⟨Code.standby, .accepted, []⟩) :=
        exec_reply (i := .standby) rfl hacc
          (by rw [hrule, standbyReply, hs]; exact if_neg (by rw [hopen]; exact Bool.false_ne_true))
      have hbooth := hsound.liveReset_booth
      have hchan (c : Nat) := hsound.liveReset_chan (c := c)
      have hproducer (c : Nat) := (hsound.liveReset.producer c).trans (by rw [hchan])
      have hbanks : s.stopped.liveReset.banks = s.retireBanks.banks := by simp [State.stopped]
      have hclear (b d : Nat) : s.stopped.clearWaits.desk b d = { s.desk b d with refused := false } :=
        State.clearWaits_desk (s := s.stopped) htab.desks b d
      refine ⟨s.stop, hexec, ?_, ?_⟩
      · rw [State.onlyChanges_iff, State.stop_eq]
        simp only [State.mixStandby, State.setMixer_straps, State.setMixer_register, State.setMixer_hire,
          State.setMixer_journal, State.setMixer_links, State.setMixer_meter, State.setMixer_resetHeld,
          State.setMixer_freeIndex, State.setMixer_pending, State.setMixer_arriving, hq.meter, hq.journal, hq.links]
        simp [State.stopped]
      rw [State.stop_eq]
      generalize s.stopped.liveReset = u at hq hbooth hchan hproducer hbanks
      have hrec (b : Nat) : u.mixStandby.relayRec b = s.stopped.relayRec b :=
        congrArg (fun x => Table.fetch ({} : RelayRec) x b) hq.records
      refine ⟨fun k hk => ?_, hq.framer, hbooth, hchan, fun b d => ?_, fun _ => rfl, fun b => ⟨rfl, ?_⟩, hq.rampLength,
        hq.offerTimeout, hproducer, hq.floorLang, hq.hold, fun b hb => ?_⟩
      · rw [State.bank_congr (t := u.mixStandby) (s := s.retireBanks) hbanks, State.retireBanks_taken s hk]
      · rw [← hclear]
        exact congrArg (fun x => Table.fetch {} x (deskKey b d)) hq.desks
      · exact congrArg (fun x => Table.fetch .floor x b) hq.sources
      · rw [hrec, State.stopped, State.RelayLaw.relayStandby_relayRec, if_pos hb]
        rfl
  · refine ⟨s.closeFinal, congrArg Host.Outcome.next (if_pos hc), ?_, ?_, rfl⟩
    · rw [State.onlyChanges_iff]
      simp [State.closeFinal]
    · simp [State.closeFinal, trailerBytes_eq]
  · exact congrArg Host.Outcome.next (if_neg (by simp [hc]))

end Sys2Proof.Machine
end

section
/-! The relay resolver: a resolution leaves every booth where the relay rules place it (R90 to R95), and follows the
reports of production (R98, R99). -/

namespace Sys2Proof.Machine

open Sys2Proof

/-! ## The walk over a preference list -/

/-- The first element that a partial map sends to an accepted value. -/
theorem List.find?_filterMap_eq_some {α β : Type} (f : α → Option β) (p : β → Bool) (l : List α) (c : β) :
    (l.filterMap f).find? p = some c ↔
      ∃ before x after, l = before ++ x :: after ∧ (f x = some c ∧ p c = true) ∧
        ∀ y ∈ before, ∀ c', ¬ (f y = some c' ∧ p c' = true) := by
  rw [List.find?_filterMap, Option.bind_eq_some_iff]
  constructor
  · rintro ⟨x, hx, hf⟩
    obtain ⟨hp, before, after, hl, hb⟩ := List.find?_eq_some_iff_append.mp hx
    refine ⟨before, x, after, hl, ⟨hf, by simpa [hf] using hp⟩, fun y hy c' ⟨hc, hpc⟩ => ?_⟩
    simpa [hc, hpc] using hb y hy
  · rintro ⟨before, x, after, hl, ⟨hf, hp⟩, hb⟩
    refine ⟨x, List.find?_eq_some_iff_append.mpr ⟨by simpa [hf] using hp, before, after, hl, fun y hy => ?_⟩, hf⟩
    cases hy' : f y with
    | none => rfl
    | some c' =>
      have := hb y hy c'
      simpa [hy'] using this

theorem State.planChannel_of_planBooth {s : State} {b : Nat} {e : BoothEntry} (h : s.planBooth b = some e) (x : Output) :
    s.planChannel b x = e.channelOn x := by simp [State.planChannel, h]

theorem State.walk_eq (s : State) (ok : Nat → Bool) (b : Nat) : s.walk ok b =
    ((s.prefs b).filterMap s.channelOf).find? fun c => (s.producer c).any ok && !s.ownChannel b c := by
  unfold State.walk
  congr 1
  funext c
  cases s.producer c <;> rfl

/-- Two states that agree on plan and producers. -/
structure State.SameRelayPlan (s t : State) : Prop where
  straps : t.straps = s.straps
  banks : t.banks = s.banks
  producers : t.relay.producers = s.relay.producers

/-- R92: the walk finds the first channel that the rules reach, in a state of the same plan and producers. -/
theorem State.SameRelayPlan.walk_iff {s t : State} (h : s.SameRelayPlan t) {ok : Nat → Bool} {okT : Nat → Prop}
    (hok : ∀ c p, s.producer c = some p → (okT p ↔ ok p = true)) {b : Nat} {e : BoothEntry} (he : s.planBooth b = some e)
    (c : Nat) : s.walk ok b = some c ↔ t.firstReached okT b e.prefs c := by
  have hprefs : s.prefs b = e.prefs := by simp [State.prefs, he]
  have hreach (lang c : Nat) : t.reaches okT b lang c ↔ s.channelOf lang = some c ∧
      ((s.producer c).any ok && !s.ownChannel b c) = true := by
    have hchannel : t.channelOf lang = s.channelOf lang := by
      simp only [State.channelOf, State.enabled_congr h.banks, State.planEntry_congr h.banks]
    have hprod : t.producer c = s.producer c := by simp only [State.producer, h.producers]
    rw [State.reaches, hchannel, hprod, State.planChannel_congr h.straps h.banks, State.planChannel_congr h.straps h.banks]
    refine and_congr_right fun _ => ?_
    have hown : s.ownChannel b c = false ↔ s.planChannel b .a ≠ some c ∧ s.planChannel b .b ≠ some c := by
      rw [Bool.eq_false_iff, ne_eq, State.ownChannel_iff, not_or]
    rw [Bool.and_eq_true, Bool.not_eq_true', hown]
    refine and_congr_left fun _ => ?_
    cases hp : s.producer c with
    | none => simp
    | some p => simp [hok c p hp]
  rw [State.walk_eq, hprefs, List.find?_filterMap_eq_some]
  simp only [State.firstReached, hreach]

/-! ## A resolution places the booths -/

@[simp] theorem State.layeredRec_mode (s : State) (b : Nat) : (s.layeredRec b).mode = (s.relayRec b).mode := by
  unfold State.layeredRec
  (repeat' split) <;> rfl

@[simp] theorem State.resolvedRec_mode (s : State) (b : Nat) : (s.resolvedRec b).mode = (s.relayRec b).mode := by
  unfold State.resolvedRec
  split
  · split
    · unfold State.fixedRec
      (repeat' split) <;> rfl
    · exact s.layeredRec_mode b
  · exact s.layeredRec_mode b

theorem State.resolve_rec {s : State} (hs : s.framer.state = .onAir) (b : Nat) :
    s.resolve.relayRec b = if b ∈ Config.boothNumbers then s.resolvedRec b else s.relayRec b := by
  rw [State.resolve_relayRec]
  simp only [(State.onAir_iff s).mpr hs, true_and]

@[simp] theorem State.resolve_mode (s : State) (b : Nat) : (s.resolve.relayRec b).mode = (s.relayRec b).mode := by
  rw [State.resolve_relayRec]
  split
  · exact s.resolvedRec_mode b
  · rfl

theorem State.resolve_sameRelayPlan (s : State) : s.SameRelayPlan s.resolve := ⟨by simp, by simp, by simp⟩

/-- A resolution leaves a present booth in HOLDING exactly if it was. -/
theorem State.resolvedRec_holding {s : State} {b : Nat} {e : BoothEntry} (he : s.planBooth b = some e) :
    (s.resolvedRec b).status = .holding ↔ (s.relayRec b).status = .holding := by
  by_cases hs : (s.relayRec b).status = .holding
  · rw [State.resolvedRec_held he hs]
  · refine iff_of_false ?_ hs
    by_cases hm : ∃ c, (s.relayRec b).mode = .fixed c
    · obtain ⟨c, hc⟩ := hm
      rw [State.resolvedRec_fixed he hs hc]
      unfold State.fixedRec
      (repeat' split) <;> simp [RelayRec.placed]
    · rw [State.resolvedRec_layered (fun c hc => hm ⟨c, hc⟩)]
      exact (State.layeredRec_stands (.inr hs)).status

theorem State.resolve_holding {s : State} (hs : s.framer.state = .onAir) {b : Nat} {e : BoothEntry}
    (he : s.planBooth b = some e) : (s.resolve.relayRec b).status = .holding ↔ (s.relayRec b).status = .holding := by
  rw [State.resolve_rec hs]
  split
  · exact State.resolvedRec_holding he
  · rfl

/-- R91: layer 0 is the rule's. -/
theorem State.layer0_iff {s : State} {b : Nat} {e : BoothEntry} (he : s.planBooth b = some e)
    (hh : (s.relayRec b).status ≠ .holding) : s.layer0 b = true ↔ (s.relayRec b).mode = .floor ∨
      (s.relayRec b).mode = .auto ∧ (s.relay.floorLang = 0 ∨ s.relay.floorLang ∈ e.prefs) := by
  have hr : s.resolves b = true := (s.resolves_iff b).mpr ⟨⟨e, he⟩, hh⟩
  have hprefs : s.prefs b = e.prefs := by simp [State.prefs, he]
  unfold State.layer0
  rw [hr, hprefs, Bool.true_and]
  cases (s.relayRec b).mode <;> simp

theorem State.floorPlaced_iff {s : State} (hs : s.framer.state = .onAir) (b : Nat) :
    s.resolve.floorPlaced b ↔ s.layer0 b = true := by
  unfold State.floorPlaced
  rw [State.planBooth_congr s.resolve_sameRelayPlan.straps s.resolve_sameRelayPlan.banks, State.resolve_mode,
    State.resolve_floorLang]
  cases he : s.planBooth b with
  | none => simp [State.layer0, State.resolves, he]
  | some e =>
    have hhold := not_congr (State.resolve_holding hs he)
    by_cases hh : (s.relayRec b).status = .holding
    · have hl : s.layer0 b = false := by simp [State.layer0, State.resolves, hh]
      rw [hl]
      refine iff_of_false ?_ Bool.false_ne_true
      rintro ⟨e', -, hn, -⟩
      exact hhold.mp hn hh
    · rw [State.layer0_iff he hh]
      constructor
      · rintro ⟨e', h, -, hrule⟩
        obtain rfl := Option.some.inj h
        exact hrule
      · exact fun hrule => ⟨e, rfl, hhold.mpr hh, hrule⟩

/-- R92: a booth one step from the floor. -/
theorem State.stepPlaced_iff {s : State} (hs : s.framer.state = .onAir) {b : Nat} (hb : b ∈ Config.boothNumbers) :
    s.resolve.stepPlaced b ↔ s.nearProducer b = true := by
  unfold State.stepPlaced State.nearProducer
  rw [State.resolve_mode, State.resolve_rec hs, if_pos hb]
  cases he : s.planBooth b with
  | none =>
    rw [State.resolvedRec_absent he]
    simp [RelayRec.placed, State.layer1, State.seeks, State.resolves, State.holds, he]
  | some e =>
    by_cases hh : (s.relayRec b).status = .holding
    · rw [State.resolvedRec_held he hh]
      simp [State.layer1, State.seeks, State.resolves, State.holds, he, hh]
    · have hholds : s.holds b = false := by simp [State.holds, hh]
      have hst := State.resolvedRec_holding he
      rw [hholds]
      simp only [hst, hh, false_or, Bool.false_and, Bool.or_false]
      by_cases hm : (s.relayRec b).mode = .auto
      · rw [State.resolvedRec_layered (by simp [hm]), State.layeredRec_placed he hh]
        split
        · next hl => simp [RelayRec.placed, State.layer1, State.seeks, hl]
        · split <;> simp_all [RelayRec.placed]
      · simp [State.layer1, State.seeks, hm]

/-- R91 to R93: a resolution places an AUTO booth by the rules. -/
theorem State.resolve_autoRule {s : State} (hs : s.framer.state = .onAir)
    (hp : ∀ c p, s.producer c = some p → p ∈ Config.boothNumbers) {b : Nat} (hb : b ∈ Config.boothNumbers) {e : BoothEntry}
    (he : s.planBooth b = some e) (hh : (s.relayRec b).status ≠ .holding) (hm : (s.relayRec b).mode = .auto) :
    s.resolve.autoRule b e := by
  have hrec : s.resolve.relayRec b = s.layeredRec b := by
    rw [State.resolve_rec hs, if_pos hb, State.resolvedRec_layered (by simp [hm])]
  have hresolves : s.resolves b = true := (s.resolves_iff b).mpr ⟨⟨e, he⟩, hh⟩
  have hwalk0 := s.resolve_sameRelayPlan.walk_iff (ok := s.layer0) (okT := s.resolve.floorPlaced)
    (fun _ p _ => State.floorPlaced_iff hs p) he
  have hwalk1 := s.resolve_sameRelayPlan.walk_iff (ok := s.nearProducer) (okT := s.resolve.stepPlaced)
    (fun c p hcp => State.stepPlaced_iff hs (hp c p hcp)) he
  have hl0 := State.layer0_iff he hh
  unfold State.autoRule
  rw [hrec, State.layeredRec_placed he hh, State.resolve_floorLang]
  by_cases hfloor : s.relay.floorLang = 0 ∨ s.relay.floorLang ∈ e.prefs
  · rw [if_pos hfloor, if_pos (hl0.mpr (.inr ⟨hm, hfloor⟩))]
    exact ⟨rfl, rfl, rfl⟩
  · have hnot : s.layer0 b = false := by
      rw [Bool.eq_false_iff, ne_eq, hl0]
      simp [hm, hfloor]
    have h1 : s.layer1 b = s.walk s.layer0 b := by simp [State.layer1, State.seeks, hresolves, hm, hnot]
    rw [if_neg hfloor, hnot, if_neg Bool.false_ne_true]
    simp only [← hwalk0, ← hwalk1, ← h1]
    cases hc1 : s.layer1 b with
    | some c => exact ⟨fun c' hc' => by obtain rfl := Option.some.inj hc'; exact ⟨rfl, rfl, rfl⟩,
        fun hnone => absurd rfl (hnone c)⟩
    | none =>
      have h2 : s.layer2 b = s.walk s.nearProducer b := by simp [State.layer2, State.seeks, hresolves, hm, hnot, hc1]
      rw [← h2]
      refine ⟨fun c' hc' => (nomatch hc'), fun _ => ?_⟩
      cases hc2 : s.layer2 b with
      | some c => exact ⟨fun c' hc' => by obtain rfl := Option.some.inj hc'; exact ⟨rfl, rfl, rfl⟩,
          fun hnone => absurd rfl (hnone c)⟩
      | none => exact ⟨fun c' hc' => (nomatch hc'), fun _ => ⟨rfl, rfl, rfl⟩⟩

/-- R94: a resolution places a FIXED booth by the rules. -/
theorem State.resolve_fixedRule {s : State} (hs : s.framer.state = .onAir)
    (hp : ∀ c p, s.producer c = some p → p ∈ Config.boothNumbers) {b : Nat} (hb : b ∈ Config.boothNumbers) {e : BoothEntry}
    (he : s.planBooth b = some e) (hh : (s.relayRec b).status ≠ .holding) {c : Nat} (hm : (s.relayRec b).mode = .fixed c) :
    s.resolve.fixedRule b c e := by
  have hrec : s.resolve.relayRec b = s.fixedRec b c := by
    rw [State.resolve_rec hs, if_pos hb, State.resolvedRec_fixed he hh hm]
  have hown : s.ownChannel b c = true ↔ e.a = some c ∨ e.b = some c := by
    rw [State.ownChannel_iff, State.planChannel_of_planBooth he, State.planChannel_of_planBooth he]
    rfl
  have hprod : s.resolve.producer c = s.producer c := by simp only [State.producer, State.resolve_producers]
  unfold State.fixedRule
  rw [hrec, State.fixedRec, State.enabled_congr s.resolve_sameRelayPlan.banks, hprod]
  by_cases ho : e.a = some c ∨ e.b = some c
  · rw [if_pos ho, if_pos (hown.mpr ho)]
    exact ⟨rfl, rfl, rfl⟩
  · rw [if_neg ho, if_neg (fun h => ho (hown.mp h)), State.enabledProducer]
    refine ⟨fun p hen hpc => ?_, fun hnone => ?_⟩
    · rw [if_pos hen, hpc]
      simp only [State.resolve_mode]
      refine ⟨fun ⟨x, hx⟩ => ?_, fun hx => ?_⟩
      · rw [hx]
        exact ⟨rfl, rfl, rfl⟩
      · rw [State.resolve_rec hs, if_pos (hp c p hpc), State.resolvedRec_layered hx]
        cases hmode : (s.relayRec p).mode with
        | fixed x => exact absurd hmode (hx x)
        | auto => exact ⟨rfl, rfl, rfl⟩
        | floor => exact ⟨rfl, rfl, rfl⟩
    · have : (if s.enabled c = true then s.producer c else none) = none := by
        rcases hnone with h | h
        · rw [h]
          rfl
        · rw [h]
          split <;> rfl
      rw [this]
      exact ⟨rfl, rfl, rfl⟩

/-- R90 to R94: after a resolution every booth stands where the relay rules place it. -/
theorem State.resolve_relayPlaced {s : State} (hs : s.framer.state = .onAir)
    (hp : ∀ c p, s.producer c = some p → p ∈ Config.boothNumbers) : s.resolve.relayPlaced := by
  intro b hb
  rw [State.planBooth_congr s.resolve_sameRelayPlan.straps s.resolve_sameRelayPlan.banks, State.resolve_mode]
  refine ⟨fun he => ?_, fun e he hh => ?_⟩
  · rw [State.resolve_rec hs, if_pos hb, State.resolvedRec_absent he]
    exact ⟨⟨rfl, rfl, rfl⟩, rfl⟩
  · have hh' : (s.relayRec b).status ≠ .holding := (not_congr (State.resolve_holding hs he)).mp hh
    cases hm : (s.relayRec b).mode with
    | floor =>
      have hl : s.layer0 b = true := (State.layer0_iff he hh').mpr (.inl hm)
      show (s.resolve.relayRec b).at .floor 0 .ok
      rw [State.resolve_rec hs, if_pos hb, State.resolvedRec_layered (by simp [hm]), State.layeredRec_placed he hh', if_pos hl]
      exact ⟨rfl, rfl, rfl⟩
    | auto => exact State.resolve_autoRule hs hp hb he hh' hm
    | fixed c => exact State.resolve_fixedRule hs hp hb he hh' hm

/-! ## What else a resolution leaves -/

/-- R93: a resolution raises RELAY_LOST once for each booth newly in NO_RELAY. -/
theorem State.resolve_links_lost {s : State} (hs : s.framer.state = .onAir) :
    s.resolve.links = (s.raise .relayLost (s.lostTo s.resolve)).links := by
  have hlost : (Config.boothNumbers.filter s.newlyLost).length = s.lostTo s.resolve := by
    unfold State.lostTo
    congr 1
    refine List.filter_congr fun b hb => ?_
    rw [State.resolve_rec hs, if_pos hb]
    rfl
  calc s.resolve.links = (s.placeBooths.raise .relayLost (Config.boothNumbers.filter s.newlyLost).length).links :=
        congrArg State.links (if_pos ((State.onAir_iff s).mpr hs))
    _ = (s.raise .relayLost (Config.boothNumbers.filter s.newlyLost).length).links := State.raise_links_congr rfl _ _
    _ = (s.raise .relayLost (s.lostTo s.resolve)).links := by rw [hlost]

theorem State.resolve_mixerBut (s : State) : s.resolve.mixer = { s.mixer with feedSource := s.resolve.mixer.feedSource } := by
  have h := s.resolve_carriages
  have hf := s.resolve_feeds
  have hr := s.resolve_rampLength
  have ho := s.resolve_offerTimeout
  generalize s.resolve.mixer = m at h hf hr ho
  cases m
  simp_all

end Sys2Proof.Machine
end

section
/-! The requests and the timer that place booths anew: FLOOR_LANG (O24), SOURCE (O25), the expiries of an offer and of a
hold (O41). -/

namespace Sys2Proof.Machine

open Sys2Proof

/-! ## A resolution of sound records -/

/-- R90: the copy of the producing channels names booths of the unit. -/
theorem State.MicSound.producer_mem {s : State} {skip : Option Nat} (h : s.MicSound skip) {c p : Nat}
    (hp : s.producer c = some p) : p ∈ Config.boothNumbers := by
  rw [h.producer, Option.map_eq_some_iff] at hp
  obtain ⟨w, hw, rfl⟩ := hp
  exact h.booth_of_live ((h.named w.booth w.desk c).mpr hw)

theorem unhold_noRelay (r : RelayRec) : r.unhold.status = .noRelay ↔ r.status = .noRelay := by
  unfold RelayRec.unhold
  split
  · next h => simp [h]
  · rfl

theorem State.lostTo_congr {s u : State} (h : ∀ b, (u.relayRec b).status = .noRelay ↔ (s.relayRec b).status = .noRelay)
    (t : State) : u.lostTo t = s.lostTo t := by
  simp only [State.lostTo, ne_eq, h]

/-- A present booth in HOLDING keeps its record in a resolution. -/
theorem State.resolve_held {u : State} (hs : u.framer.state = .onAir) {b : Nat}
    (hh : (u.relayRec b).status = .holding) (hp : (u.planBooth b).isSome = true) :
    u.resolve.relayRec b = u.relayRec b := by
  obtain ⟨e, he⟩ := Option.isSome_iff_exists.mp hp
  rw [State.resolve_rec hs, State.resolvedRec_held he hh]
  split <;> rfl

/-- A booth not in HOLDING is not in it after a resolution. -/
theorem State.RelaySound.resolve_notHolding {u : State} (h : u.RelaySound) (hs : u.framer.state = .onAir) {b : Nat}
    (hn : (u.relayRec b).status ≠ .holding) :
    (u.resolve.relayRec b).status ≠ .holding ∧ (u.resolve.relayRec b).timer = none := by
  have hlaw := h.resolve hs
  have hst : (u.resolve.relayRec b).status ≠ .holding := by
    rw [State.resolve_rec hs]
    split
    · rcases h.resolvedRec_cases b with ⟨hh, -⟩ | ⟨-, he⟩
      · exact absurd ((u.holds_iff b).mp hh).2 hn
      · exact he.status
    · exact hn
  refine ⟨hst, ?_⟩
  simpa using (not_congr (hlaw.timer b)).mpr hst

/-- Relay records made ready for a resolution: holds, modes or producers set, everything else as it was. -/
structure State.Readied (s u : State) : Prop where
  same : u = s.setRelay u.relay
  sound : u.RelaySound
  onAir : s.framer.state = .onAir
  producing : ∀ c p, u.producer c = some p → p ∈ Config.boothNumbers
  lost : ∀ b, (u.relayRec b).status = .noRelay ↔ (s.relayRec b).status = .noRelay

namespace State.Readied

variable {s u : State}

theorem air (h : s.Readied u) : u.framer.state = .onAir := by
  rw [h.same]
  exact h.onAir

theorem onlyChanges (h : s.Readied u) : s.onlyChanges u.resolve [.mixer, .relay, .links] := by
  rw [State.onlyChanges_iff, h.same]
  simp

theorem sameLinks (h : s.Readied u) : s.sameLinks u.resolve := by
  rw [State.sameLinks_iff_wire, h.same]
  simp

theorem planBooth (h : s.Readied u) (b : Nat) : u.planBooth b = s.planBooth b := by
  rw [h.same]
  rfl

theorem relayPlaced (h : s.Readied u) : u.resolve.relayPlaced := State.resolve_relayPlaced h.air h.producing

theorem sourcesReported (h : s.Readied u) : u.resolve.sourcesReported := (h.sound.resolve h.air).feed

theorem mixer (h : s.Readied u) : u.resolve.mixer = { s.mixer with feedSource := u.resolve.mixer.feedSource } := by
  have hm : u.mixer = s.mixer := by
    rw [h.same]
    rfl
  rw [← hm]
  exact u.resolve_mixerBut

theorem links (h : s.Readied u) : u.resolve.links = (s.raise .relayLost (s.lostTo u.resolve)).links := by
  rw [State.resolve_links_lost h.air, State.lostTo_congr h.lost]
  refine State.raise_links_congr ?_ _ _
  rw [h.same]
  rfl

end State.Readied

/-! ## FLOOR_LANG -/

theorem State.endHolds_mode (s : State) (which : Nat → Bool) (h : s.RelaySound) (b : Nat) :
    ((s.endHolds which).relayRec b).mode = (s.relayRec b).mode := by
  rw [h.endHolds_relayRec]
  split
  · exact (State.RelaySound.unhold_eq _).2.2.1
  · rfl

theorem State.endHolds_noRelay (s : State) (which : Nat → Bool) (h : s.RelaySound) (b : Nat) :
    ((s.endHolds which).relayRec b).status = .noRelay ↔ (s.relayRec b).status = .noRelay := by
  rw [h.endHolds_relayRec]
  split
  · exact unhold_noRelay _
  · rfl

/-- Settles O24. -/
theorem floorLanguagePlacesBooths : Obligations.FloorLanguagePlacesBooths := by
  intro s code hacc
  have hrule : (Instr.floorLang code).rule s = ⟨s.floorLanguage code, .done, []⟩ := rfl
  have hexec : exec (.floorLang code) s = .next ((s.floorLanguage code).post .console ⟨Code.floorLang, .done, []⟩) :=
    exec_reply (i := .floorLang code) rfl hacc hrule
  refine ⟨fun hs => ?_, fun hs hm hr => ?_⟩
  · have hoff : s.floorLanguage code = s.setRelay { s.relay with floorLang := code } :=
      if_neg fun h => hs ((State.onAir_iff s).mp h)
    refine ⟨s.floorLanguage code, hexec, ?_, by rw [hoff]; rfl⟩
    rw [State.onlyChanges_iff, hoff]
    simp
  · have hon : s.floorLanguage code = (s.setRelay { s.relay with floorLang := code }).endAllHolds.resolve :=
      if_pos ((State.onAir_iff s).mpr hs)
    have hset : (s.setRelay { s.relay with floorLang := code }).RelaySound := hr.sound.congr (fun _ => rfl) fun _ => rfl
    obtain ⟨u, hu⟩ : ∃ u, u = (s.setRelay { s.relay with floorLang := code }).endAllHolds := ⟨_, rfl⟩
    have hrec (b : Nat) : u.relayRec b = (s.relayRec b).unhold := by
      rw [hu, State.endAllHolds, hset.endHolds_relayRec, if_pos rfl]
      rfl
    have hready : s.Readied u :=
      { same := by rw [hu]; rfl
        sound := by rw [hu]; exact hset.endHolds _
        onAir := hs
        producing := fun c p hp => hm.sound.producer_mem (c := c) (by rw [hu] at hp; exact hp)
        lost := fun b => by rw [hrec]; exact unhold_noRelay _ }
    rw [← hu] at hon
    rw [hon] at hexec
    refine ⟨u.resolve, hexec, hready.onlyChanges, ?_, ?_, ?_, fun b => ?_, fun b => ?_, hready.relayPlaced,
      hready.sourcesReported, hready.mixer, s.lostTo u.resolve, rfl, hready.links⟩
    · rw [State.resolve_floorLang, hu]
      rfl
    · rw [State.resolve_hold, hu]
      rfl
    · rw [State.resolve_producers, hu]
      rfl
    · rw [State.resolve_mode, hrec]
      exact (State.RelaySound.unhold_eq _).2.2.1
    · exact hready.sound.resolve_notHolding hready.air (by rw [hrec]; exact (State.RelaySound.unhold_eq _).2.2.2.1)

/-! ## SOURCE and the end of one hold -/

/-- R97, R100: one booth's hold ended, and perhaps its mode set: the records before the resolution. -/
theorem State.unholdOne_readied {s : State} (hm : s.MicLaw) (hr : s.RelayLaw) (hs : s.framer.state = .onAir) {b : Nat}
    {mode : SourceMode} (hb : b ∈ Config.boothNumbers ∨ mode = (s.relayRec b).mode) :
    s.Readied (s.setRelayRec b { (s.relayRec b).unhold with mode := mode }) where
  same := rfl
  sound := hr.sound.unholdOne hb
  onAir := hs
  producing c p hp := hm.sound.producer_mem (c := c) hp
  lost x := by
    rw [State.relayRec_setRelayRec]
    split
    · next he => exact he ▸ unhold_noRelay _
    · rfl

/-- R97, R100: what one booth's hold ended leaves of the holds. -/
theorem State.unholdOne_holds {s u : State} {b : Nat} {mode : SourceMode}
    (hu : u = s.setRelayRec b { (s.relayRec b).unhold with mode := mode }) (h : s.Readied u) :
    (u.resolve.relayRec b).status ≠ .holding ∧ (u.resolve.relayRec b).timer = none ∧
      (∀ x, x ≠ b → (s.relayRec x).status = .holding → (s.planBooth x).isSome = true →
        u.resolve.relayRec x = s.relayRec x) ∧
      ∀ x, (u.resolve.relayRec x).status = .holding → (s.relayRec x).status = .holding := by
  have hrec (x : Nat) : u.relayRec x = if x = b then { (s.relayRec b).unhold with mode := mode } else s.relayRec x := by
    rw [hu, State.relayRec_setRelayRec]
  have hself : (u.relayRec b).status ≠ .holding := by
    rw [hrec, if_pos rfl]
    exact (State.RelaySound.unhold_eq (s.relayRec b)).2.2.2.1
  obtain ⟨hst, htimer⟩ := h.sound.resolve_notHolding h.air hself
  refine ⟨hst, htimer, fun x hx hh hp => ?_, fun x hh => ?_⟩
  · have hsame : u.relayRec x = s.relayRec x := by rw [hrec, if_neg hx]
    rw [State.resolve_held h.air (by rw [hsame]; exact hh) (by rw [h.planBooth]; exact hp), hsame]
  · by_contra hn
    refine (h.sound.resolve_notHolding h.air (b := x) ?_).1 hh
    by_cases hx : x = b
    · exact hx ▸ hself
    · rw [hrec, if_neg hx]
      exact hn

theorem State.namesOwn_iff (s : State) (b n c : Nat) : s.namesOwn b (SourceMode.ofPlace n c) = true ↔
    (n ≠ 0 ∧ n ≠ 1) ∧ (s.planChannel b .a = some c ∨ s.planChannel b .b = some c) := by
  unfold SourceMode.ofPlace State.namesOwn
  by_cases h0 : n = 0
  · simp [h0]
  · by_cases h1 : n = 1
    · simp [h1]
    · simp [h0, h1, State.ownChannel_iff]

/-- Settles O25. -/
theorem sourceSetsTheMode : Obligations.SourceSetsTheMode := by
  intro s b d n c hacc hs hd
  have hparams := hacc.2
  simp only [Instr.paramsInRange, List.mem_cons, List.not_mem_nil, or_false, forall_eq_or_imp, forall_eq] at hparams
  obtain ⟨hb, -, hn⟩ := hparams
  have hexec {t : State} {code : AnswerCode} (hclaim : s.changeSource b (SourceMode.ofPlace n c) = ⟨t, code⟩) :
      exec (.source b d n c) s = .next (t.post .desk ⟨Code.source, code, [f1 (t.lamp b d).code]⟩) :=
    exec_deskRule (i := .source b d n c) (rule := fun s => s.changeSource b (SourceMode.ofPlace n c)) rfl hacc rfl hs hd
      hclaim
  refine ⟨fun h2 hown => hexec (if_pos ((s.namesOwn_iff b n c).mpr ⟨by omega, hown⟩)), fun hok hm hr => ?_⟩
  obtain ⟨u, hu⟩ : ∃ u, u = s.setRelayRec b { (s.relayRec b).unhold with mode := SourceMode.ofPlace n c } := ⟨_, rfl⟩
  have hready : s.Readied u := by
    rw [hu]
    exact State.unholdOne_readied hm hr hs (.inl ((mem_boothNumbers b).mpr hb))
  obtain ⟨hst, htimer, hheld, hback⟩ := State.unholdOne_holds hu hready
  have hclaim : s.changeSource b (SourceMode.ofPlace n c) = ⟨u.resolve, .done⟩ := by
    rw [hu]
    refine if_neg fun h => ?_
    obtain ⟨⟨h0, h1⟩, hown⟩ := (s.namesOwn_iff b n c).mp h
    rcases hok with hne | ⟨ha, hb'⟩
    · omega
    · exact hown.elim ha hb'
  have hlamp : u.resolve.lamp b d = s.lamp b d := by
    have hbdc : u.resolve.bdc = s.bdc := by rw [hready.same]; simp
    exact State.lamp_congr (State.booth_congr hbdc b) (by rw [State.desk_congr hbdc])
  have hmode (x : Nat) : (u.resolve.relayRec x).mode =
      if x = b then SourceMode.ofPlace n c else (s.relayRec x).mode := by
    rw [State.resolve_mode, hu, State.relayRec_setRelayRec]
    split <;> rfl
  refine ⟨u.resolve, hlamp ▸ hexec hclaim, hready.onlyChanges, ?_, fun x hx => ?_, hst, htimer, hheld, hback,
    hready.relayPlaced, hready.sourcesReported, hready.mixer, hready.links, ?_, ?_, ?_⟩
  · rw [hmode, if_pos rfl]
    rfl
  · rw [hmode, if_neg hx]
  · rw [State.resolve_floorLang, hu]
    rfl
  · rw [State.resolve_hold, hu]
    rfl
  · rw [State.resolve_producers, hu]
    rfl

/-! ## The expiries -/

/-- Settles O41. -/
theorem timersExpire : Obligations.TimersExpire := by
  intro s b
  refine ⟨fun h => congrArg Host.Outcome.next (if_neg h), fun e y ht ho => ?_, fun h => congrArg Host.Outcome.next (if_neg h),
    fun ht hm hr => ?_⟩
  · have hcancel : s.cancelOffer b = (s.dropOffer b).setRefused b e true := by simp only [State.cancelOffer, ho]
    have hstate : s.offerExpired b = ((s.dropOffer b).setRefused b e true).raise .offerExpired 1 := by
      rw [State.offerExpired, hcancel]
    refine ⟨s.offerExpired b, congrArg Host.Outcome.next (if_pos ht), ?_, ?_, fun x hx => ?_, ?_, fun x z hk => ?_, ?_, ?_⟩
      <;> rw [hstate]
    · rw [State.onlyChanges_iff]
      simp
    · exact (State.dropOffer_booth s b b).trans (if_pos rfl)
    · exact (State.dropOffer_booth s b x).trans (if_neg hx)
    · exact (State.setRefused_desk (s.dropOffer b) b e true b e).trans (if_pos rfl)
    · exact (State.setRefused_desk (s.dropOffer b) b e true x z).trans (if_neg hk)
    · rfl
    · exact State.raise_links_congr rfl _ _
  · have hs : s.framer.state = .onAir := by
      by_contra hn
      rw [hr.quiet hn b] at ht
      cases ht
    obtain ⟨u, hu⟩ : ∃ u, u = s.setRelayRec b { (s.relayRec b).unhold with mode := (s.relayRec b).mode } := ⟨_, rfl⟩
    have hready : s.Readied u := by
      rw [hu]
      exact State.unholdOne_readied hm hr hs (.inr rfl)
    have hunhold : { (s.relayRec b).unhold with mode := (s.relayRec b).mode } = (s.relayRec b).unhold := by
      rw [← (State.RelaySound.unhold_eq (s.relayRec b)).2.2.1]
    have hexpired : s.holdExpired b = u.resolve := by rw [hu, hunhold]; rfl
    obtain ⟨hst, htimer, hheld, hback⟩ := State.unholdOne_holds hu hready
    refine ⟨u.resolve, (congrArg Host.Outcome.next (if_pos ht)).trans (by rw [hexpired]), hready.onlyChanges,
      hready.sameLinks, hst, htimer, hready.relayPlaced, ⟨?_, ?_, fun x => ?_⟩, hheld, hback, ?_, hready.sourcesReported,
      hready.mixer, hready.links⟩
    · rw [State.resolve_floorLang, hu]
      rfl
    · rw [State.resolve_hold, hu]
      rfl
    · rw [State.resolve_mode, hu, State.relayRec_setRelayRec]
      split
      · next he => rw [he]
      · rfl
    · rw [State.resolve_producers, hu]
      rfl

end Sys2Proof.Machine
end

section
/-! The relay resolver follows the reports of production, one after another (R72, R98, R99). -/

namespace Sys2Proof.Machine

open Sys2Proof

/-! ## What the relay rules speak of -/

/-- Two states that agree on plan and relay records. -/
structure State.SameRelay (s t : State) : Prop where
  straps : t.straps = s.straps
  banks : t.banks = s.banks
  relay : t.relay = s.relay

/-- The straps, banks and relay records of a state, with everything else cleared. -/
def State.relayView (s : State) : State := { straps := s.straps, banks := s.banks, relay := s.relay }

theorem State.SameRelay.view {s t : State} (h : s.SameRelay t) : t.relayView = s.relayView := by
  unfold State.relayView
  rw [h.straps, h.banks, h.relay]

theorem State.relayPlaced_view (s : State) : s.relayPlaced ↔ s.relayView.relayPlaced := Iff.rfl

theorem State.relayFollows_view (s t : State) (c : Nat) (p : Option Nat) :
    s.relayFollows t c p ↔ s.relayView.relayFollows t.relayView c p := Iff.rfl

theorem State.lostTo_view (s t : State) : s.lostTo t = s.relayView.lostTo t.relayView := rfl

theorem State.relayFollows_congr {s s' t t' : State} (hs : s.SameRelay s') (ht : t.SameRelay t') (c : Nat)
    (p : Option Nat) : s'.relayFollows t' c p ↔ s.relayFollows t c p := by
  rw [State.relayFollows_view, hs.view, ht.view, ← State.relayFollows_view]

theorem State.relayRuns_congr {s s' t t' : State} (hs : s.SameRelay s') (ht : t'.relay = t.relay) {n : Nat}
    {xs : List (Nat × Option Nat)} (h : s.relayRuns t xs n) : s'.relayRuns t' xs n := by
  induction xs generalizing s s' n with
  | nil => exact ⟨by rw [ht, hs.relay]; exact h.1, h.2⟩
  | cons x xs ih =>
    obtain ⟨r, m, hf, hrest, hn⟩ := h
    have hset : (s.setRelay r).SameRelay (s'.setRelay r) := ⟨hs.straps, hs.banks, rfl⟩
    refine ⟨r, m, (State.relayFollows_congr hs hset _ _).mpr hf, ih hset hrest, ?_⟩
    rw [hn, State.lostTo_view, State.lostTo_view s', hs.view, hset.view]

theorem State.relayRuns_append {s t u : State} {xs ys : List (Nat × Option Nat)} {n m : Nat} (h : s.relayRuns t xs n)
    (hs : t.straps = s.straps) (hb : t.banks = s.banks) (h' : t.relayRuns u ys m) :
    s.relayRuns u (xs ++ ys) (n + m) := by
  induction xs generalizing s n with
  | nil =>
    obtain ⟨hr, rfl⟩ := h
    rw [Nat.zero_add]
    exact State.relayRuns_congr ⟨hs.symm, hb.symm, hr.symm⟩ rfl h'
  | cons x xs ih =>
    obtain ⟨r, k, hf, hrest, hn⟩ := h
    exact ⟨r, k + m, hf, ih hrest hs hb, by omega⟩

theorem State.relayRuns_single {s t : State} (hs : t.straps = s.straps) (hb : t.banks = s.banks) {c : Nat}
    {p : Option Nat} (h : s.relayFollows t c p) : s.relayRuns t [(c, p)] (s.lostTo t) := by
  have hset : t.SameRelay (s.setRelay t.relay) := ⟨hs.symm, hb.symm, rfl⟩
  refine ⟨t.relay, 0, (State.relayFollows_congr ⟨rfl, rfl, rfl⟩ hset _ _).mpr h, ⟨rfl, rfl⟩, ?_⟩
  rw [State.lostTo_view, ← hset.view]
  rfl

theorem State.relayFollows_of_runs {s t : State} (hs : t.straps = s.straps) (hb : t.banks = s.banks) {c n : Nat}
    {p : Option Nat} (h : s.relayRuns t [(c, p)] n) : s.relayFollows t c p := by
  obtain ⟨r, m, hf, ⟨hr, -⟩, -⟩ := h
  exact (State.relayFollows_congr (t := s.setRelay r) ⟨rfl, rfl, rfl⟩ ⟨hs, hb, hr⟩ _ _).mpr hf

/-- R98: the start of a channel's production leaves in HOLDING those held on another channel. -/
theorem State.heldRec_started (s : State) (b c p : Nat) : s.heldRec b c (some p) =
    if (s.relayRec b).status = .holding ∧ (s.relayRec b).source ≠ .channel c then some (s.relayRec b) else none := by
  simp [State.heldRec]

/-- R99: the stop of a channel's production begins the holds on it and leaves the others. -/
theorem State.heldRec_stopped (s : State) (b c : Nat) : s.heldRec b c none =
    if (s.relayRec b).mode = .auto ∧ (s.relayRec b).status = .ok ∧ (s.relayRec b).source = .channel c ∧
        s.relay.hold ≠ 0 then
      some { s.relayRec b with status := .holding, timer := some s.relay.hold }
    else if (s.relayRec b).status = .holding then some (s.relayRec b) else none := by
  simp [State.heldRec]

/-- R71, R72: a stop followed by a start of the same channel holds what the start alone holds. -/
theorem State.relayFollows_restart {s t u : State} (hs : t.straps = s.straps) (hb : t.banks = s.banks) {c p : Nat}
    (hstop : s.relayFollows t c none) (hstart : t.relayFollows u c (some p)) : s.relayFollows u c (some p) := by
  obtain ⟨⟨hl, hh, hm⟩, hp, -, hheld⟩ := hstop
  obtain ⟨⟨hl', hh', hm'⟩, hp', hplaced, hheld'⟩ := hstart
  refine ⟨⟨hl'.trans hl, hh'.trans hh, fun b => (hm' b).trans (hm b)⟩, fun x => ?_, hplaced, fun b hbn hpb => ?_⟩
  · rw [hp', hp]
    split <;> rfl
  · have hpb' : (t.planBooth b).isSome = true := by rwa [State.planBooth_congr hs hb]
    have h1 := hheld b hbn hpb
    have h2 := hheld' b hbn hpb'
    have hrec : t.heldRec b c (some p) = s.heldRec b c (some p) := by
      rw [State.heldRec_started, State.heldRec_started]
      rw [State.heldRec_stopped] at h1
      by_cases hhold : (s.relayRec b).status = .holding
      · simp only [hhold, reduceCtorEq, false_and, and_false, if_false, if_true] at h1
        rw [h1]
      · rw [if_neg (c := (s.relayRec b).status = .holding ∧ _) fun h => hhold h.1]
        refine if_neg fun h => ?_
        simp only [hhold, if_false] at h1
        split at h1
        · next r hr =>
          obtain ⟨hc, hr⟩ := (Option.ite_none_right_eq_some).mp hr
          obtain rfl := Option.some.inj hr
          rw [h1] at h
          exact h.2 hc.2.2.1
        · exact h1.1 h.1
    rwa [hrec] at h2

/-! ## One report of production -/

/-- R90: every producer is a booth of the unit. -/
def State.Producing (s : State) : Prop := ∀ c p, s.producer c = some p → p ∈ Config.boothNumbers

theorem State.MicSound.producing {s : State} {skip : Option Nat} (h : s.MicSound skip) : s.Producing :=
  fun _ _ => h.producer_mem

/-- The relay resolver has followed some reports of production from `s` to `t`; the law holds, and the flags are those
of the booths newly in NO_RELAY. -/
structure State.Ran (s t : State) (xs : List (Nat × Option Nat)) (n : Nat) : Prop where
  straps : t.straps = s.straps
  banks : t.banks = s.banks
  framer : t.framer = s.framer
  runs : s.relayRuns t xs n
  law : t.RelayLaw
  producing : t.Producing
  links : t.links = (s.raise .relayLost n).links

/-- From `s` to `t` nothing has changed that the relay resolver reads or reports. -/
structure State.Still (s t : State) : Prop where
  straps : t.straps = s.straps
  banks : t.banks = s.banks
  framer : t.framer = s.framer
  relay : t.relay = s.relay
  sources : t.mixer.feedSource = s.mixer.feedSource
  links : t.links = s.links

theorem State.Still.law {s t : State} (h : s.Still t) (hr : s.RelayLaw) : t.RelayLaw :=
  hr.congr (by rw [h.framer]) (by rw [h.relay]) h.sources

theorem State.Still.producing {s t : State} (h : s.Still t) (hp : s.Producing) : t.Producing := fun c p hc =>
  hp c p ((State.producer_congr h.relay c) ▸ hc)

namespace State.Ran

variable {s t u : State} {xs ys : List (Nat × Option Nat)} {n m : Nat}

theorem of_still (h : s.Still t) (hr : s.RelayLaw) (hp : s.Producing) : s.Ran t [] 0 where
  straps := h.straps
  banks := h.banks
  framer := h.framer
  runs := ⟨h.relay, rfl⟩
  law := h.law hr
  producing := h.producing hp
  links := by rw [State.raise_zero, h.links]

theorem trans (h : s.Ran t xs n) (h' : t.Ran u ys m) : s.Ran u (xs ++ ys) (n + m) where
  straps := h'.straps.trans h.straps
  banks := h'.banks.trans h.banks
  framer := h'.framer.trans h.framer
  runs := State.relayRuns_append h.runs h.straps h.banks h'.runs
  law := h'.law
  producing := h'.producing
  links := by rw [h'.links, State.raise_links_congr h.links, State.raise_raise]

theorem still (h : s.Ran t xs n) (h' : t.Still u) : s.Ran u xs n := by
  have := h.trans (of_still h' h.law h.producing)
  rwa [List.append_nil] at this

theorem after (h : s.Still t) (h' : t.Ran u xs n) : s.Ran u xs n where
  straps := h'.straps.trans h.straps
  banks := h'.banks.trans h.banks
  framer := h'.framer.trans h.framer
  runs := State.relayRuns_congr ⟨h.straps.symm, h.banks.symm, h.relay.symm⟩ rfl h'.runs
  law := h'.law
  producing := h'.producing
  links := by rw [h'.links, State.raise_links_congr h.links]

theorem sourcesReported (h : s.Ran t xs n) : t.sourcesReported := h.law.feed

theorem follows {c : Nat} {p : Option Nat} (h : s.Ran t [(c, p)] n) : s.relayFollows t c p :=
  State.relayFollows_of_runs h.straps h.banks h.runs

/-- A resolution of records made ready by a report. -/
theorem of_readied (h : s.Readied u) {c : Nat} {p : Option Nat} (hf : s.relayFollows u.resolve c p) :
    s.Ran u.resolve [(c, p)] (s.lostTo u.resolve) where
  straps := by rw [h.same]; simp
  banks := by rw [h.same]; simp
  framer := by rw [h.same]; simp
  runs := State.relayRuns_single (by rw [h.same]; simp) (by rw [h.same]; simp) hf
  law := h.sound.resolve h.air
  producing := fun c p hp => h.producing c p (by simpa [State.producer] using hp)
  links := h.links

end State.Ran

/-- R98: a channel starts producing. -/
theorem State.RelayLaw.start_ran {s : State} (h : s.RelayLaw) (hp : s.Producing) (hs : s.framer.state = .onAir) (c : Nat)
    {p : Nat} (hb : p ∈ Config.boothNumbers) :
    s.Ran (s.productionStart c p) [(c, some p)] (s.lostTo (s.productionStart c p)) := by
  obtain ⟨w, hw⟩ : ∃ w : Nat → Bool, w = fun b => decide (((s.setProducer c p).relayRec b).source = .channel c) := ⟨_, rfl⟩
  have hset := h.sound.setProducer c p
  obtain ⟨u, hu⟩ : ∃ u, u = (s.setProducer c p).endHolds w := ⟨_, rfl⟩
  have hstart : s.productionStart c p = u.resolve := by
    rw [hu, hw]
    exact if_pos ((State.onAir_iff s).mpr hs)
  have hrec (b : Nat) : u.relayRec b =
      if (s.relayRec b).source = .channel c then (s.relayRec b).unhold else s.relayRec b := by
    rw [hu, hset.endHolds_relayRec, hw]
    simp only [decide_eq_true_eq]
    rfl
  have hproducer (x : Nat) : u.producer x = if x = c then some p else s.producer x := by
    rw [hu]
    exact Table.fetch?_insert _ _ _ _
  have hready : s.Readied u :=
    { same := by rw [hu]; rfl
      sound := by rw [hu]; exact hset.endHolds w
      onAir := hs
      producing := fun x q hx => by
        rw [hproducer] at hx
        split at hx
        · exact Option.some.inj hx ▸ hb
        · exact hp x q hx
      lost := fun b => by
        rw [hrec]
        split
        · exact unhold_noRelay _
        · rfl }
  rw [hstart]
  refine State.Ran.of_readied hready ⟨⟨?_, ?_, fun b => ?_⟩, fun x => ?_, hready.relayPlaced, fun b _ hpb => ?_⟩
  · rw [State.resolve_floorLang, hu]
    rfl
  · rw [State.resolve_hold, hu]
    rfl
  · rw [State.resolve_mode, hrec]
    split
    · exact (State.RelaySound.unhold_eq _).2.2.1
    · rfl
  · rw [← hproducer]
    simp only [State.producer, State.resolve_producers]
  · rw [State.heldRec_started]
    by_cases hhold : (s.relayRec b).status = .holding ∧ (s.relayRec b).source ≠ .channel c
    · rw [if_pos hhold]
      have hsame : u.relayRec b = s.relayRec b := by rw [hrec, if_neg hhold.2]
      rw [← hsame]
      exact State.resolve_held hready.air (by rw [hsame]; exact hhold.1) (by rw [hready.planBooth]; exact hpb)
    · rw [if_neg hhold]
      refine hready.sound.resolve_notHolding hready.air ?_
      rw [hrec]
      split
      · exact (State.RelaySound.unhold_eq _).2.2.2.1
      · next hne => exact fun hst => hhold ⟨hst, hne⟩

/-- R99: a channel stops producing. -/
theorem State.RelayLaw.stop_ran {s : State} (h : s.RelayLaw) (hp : s.Producing) (hs : s.framer.state = .onAir) (c : Nat) :
    s.Ran (s.productionStop c) [(c, none)] (s.lostTo (s.productionStop c)) := by
  have hclear := h.sound.clearProducer c
  obtain ⟨u, hu⟩ : ∃ u, u = (s.clearProducer c).beginHolds c := ⟨_, rfl⟩
  have hstop : s.productionStop c = u.resolve := by
    rw [hu]
    exact if_pos ((State.onAir_iff s).mpr hs)
  have hrec (b : Nat) : u.relayRec b = (s.relayRec b).holdOn c s.relay.hold := by
    rw [hu, hclear.beginHolds_relayRec]
    rfl
  have hproducer (x : Nat) : u.producer x = if x = c then none else s.producer x := by
    rw [hu]
    exact Table.fetch?_remove _ _ _
  have hready : s.Readied u :=
    { same := by rw [hu]; rfl
      sound := by rw [hu]; exact hclear.beginHolds (fun b => h.auto_depth b) c
      onAir := hs
      producing := fun x q hx => by
        rw [hproducer] at hx
        split at hx
        · cases hx
        · exact hp x q hx
      lost := fun b => by
        rw [hrec]
        unfold RelayRec.holdOn
        split
        · next hc => simp [hc.2.1]
        · rfl }
  rw [hstop]
  refine State.Ran.of_readied hready ⟨⟨?_, ?_, fun b => ?_⟩, fun x => ?_, hready.relayPlaced, fun b _ hpb => ?_⟩
  · rw [State.resolve_floorLang, hu]
    rfl
  · rw [State.resolve_hold, hu]
    rfl
  · rw [State.resolve_mode, hrec]
    unfold RelayRec.holdOn
    split <;> rfl
  · rw [← hproducer]
    simp only [State.producer, State.resolve_producers]
  · have hpb' : (u.planBooth b).isSome = true := by rw [hready.planBooth]; exact hpb
    have hrec' := hrec b
    unfold RelayRec.holdOn at hrec'
    rw [State.heldRec_stopped]
    split at hrec'
    · next hc =>
      rw [if_pos hc]
      exact (State.resolve_held hready.air (by rw [hrec']) hpb').trans hrec'
    · next hc =>
      rw [if_neg hc]
      by_cases hhold : (s.relayRec b).status = .holding
      · rw [if_pos hhold]
        exact (State.resolve_held hready.air (by rw [hrec']; exact hhold) hpb').trans hrec'
      · rw [if_neg hhold]
        exact hready.sound.resolve_notHolding hready.air (by rw [hrec']; exact hhold)

end Sys2Proof.Machine
end

section
/-! Channels granted, released and passed on: MIC_ON granted (O31), MIC_OFF that releases (O34), FORCE_OFF (O39). -/

namespace Sys2Proof.Machine

open Sys2Proof

/-! ## Wait queues and offers under the law -/

namespace State.MicSound

variable {s : State} {skip : Option Nat} {b c : Nat}

/-- A booth without a pending request is in no queue. -/
theorem filter_queue_self (h : s.MicSound skip) (hp : (s.booth b).pending = none) (x : Nat) :
    (s.chan x).queue.filter (fun e => e.booth != b) = (s.chan x).queue := by
  refine List.filter_eq_self.mpr fun w hw => ?_
  have hwaits := h.waits x w hw
  rw [bne_iff_ne]
  rintro rfl
  simp [hp] at hwaits

/-- The entries behind the oldest one are of other booths. -/
theorem filter_queue_rest (h : s.MicSound skip) {e : DeskId} {rest : List DeskId} (hq : (s.chan c).queue = e :: rest) :
    rest.filter (fun w => w.booth != e.booth) = rest := by
  have hnd := h.once c
  rw [hq, List.map_cons, List.nodup_cons] at hnd
  refine List.filter_eq_self.mpr fun w hw => ?_
  rw [bne_iff_ne]
  exact fun he => hnd.1 (he ▸ List.mem_map_of_mem hw)

/-- A booth with a live desk has no pending request. -/
theorem pending_none_of_live (h : s.MicSound skip) {l : Nat × Nat} (hl : (s.booth b).live = some l) :
    (s.booth b).pending = none := by
  by_contra hne
  have := h.pending b (Option.isSome_iff_ne_none.mpr hne)
  rw [hl] at this
  cases this

theorem offerTimer_none (h : s.MicSound skip) (ho : (s.booth b).offer = none) : (s.booth b).offerTimer = none := by
  have := h.timer b
  rw [ho] at this
  simpa using this

end State.MicSound

/-- A booth without a live desk has no offer, and where it has no pending request either its record is cleared. -/
theorem State.MicLaw.booth_idle {s : State} (h : s.MicLaw) {b : Nat} (hl : (s.booth b).live = none) :
    s.booth b = ⟨none, (s.booth b).pending, none, none⟩ := by
  have ho : (s.booth b).offer = none := by
    cases hb : (s.booth b).offer with
    | none => rfl
    | some o =>
      obtain ⟨d, c, hlive, -⟩ := h.offer b o.1 o.2 hb
      rw [hl] at hlive
      cases hlive
  have ht := h.sound.offerTimer_none ho
  cases hb : s.booth b
  simp_all

/-! ## A channel passed on -/

/-- R66, R72: what a channel passed on leaves, the channel free and without a carriage record. -/
theorem State.MicSound.passQueue_passedOn {s : State} {skip : Option Nat} (h : s.MicSound skip) {c : Nat}
    (hfree : (s.chan c).holder = none) (hcar : s.carriage c = {})
    (ht : ∀ e ∈ (s.chan c).queue.head?, s.turn e.booth = none) (b : Nat) : s.passedOn (s.passQueue c) b c := by
  rcases s.passQueue_cases c with ⟨hq, hs⟩ | ⟨e, rest, hq, hs⟩
  · rw [hs]
    refine ⟨?_, ?_, fun e he => ?_, fun x _ _ => ⟨rfl, rfl⟩⟩
    · simp only [State.passedQueue, hq, List.head?_nil, ← hfree]
      exact congrArg (ChannelRun.mk _) hq
    · rw [hcar, hq]
      rfl
    · rw [hq] at he
      cases he
  · have hc : c ∈ Config.channelNumbers := h.channels c fun hem => by simp [hem] at hq
    have hturn : s.turn e.booth = none := ht e (by simp [hq])
    rw [hs]
    obtain ⟨v, hv⟩ : ∃ v, v = s.setChan c { s.chan c with queue := rest } := ⟨_, rfl⟩
    have hvturn (x : Nat) : (v.grant e.booth e.desk c).turn x =
        if x = e.booth then s.newTurn e.booth e.desk c else s.turn x := by
      rw [State.grant_turn, State.openTurn_newTurn _ _ _ _ _ (by rw [hv]; exact hturn), hv]
      rfl
    rw [← hv]
    refine ⟨?_, ?_, fun w hw => ?_, fun x _ hx => ?_⟩
    · rw [State.grant_chan, if_pos hc, if_pos rfl, hv, State.chan_setChan, if_pos rfl]
      simp only [State.passedQueue, hq, if_pos, List.head?_cons, h.filter_queue_rest hq]
    · rw [State.grant_carriage, if_pos rfl, hq]
      rfl
    · rw [hq, List.head?_cons, Option.mem_some_iff] at hw
      subst hw
      rw [State.grant_booth, if_pos rfl, hvturn, if_pos rfl, hv]
      exact ⟨rfl, rfl⟩
    · have hne : x ≠ e.booth := hx e (by simp [hq])
      rw [State.grant_booth, if_neg hne, hvturn, if_neg hne, hv]
      exact ⟨rfl, rfl⟩

theorem State.passQueue_turn_of_ne (s : State) (c x : Nat) (h : ∀ e ∈ (s.chan c).queue.head?, x ≠ e.booth) :
    (s.passQueue c).turn x = s.turn x := by
  rcases s.passQueue_cases c with ⟨-, hs⟩ | ⟨e, rest, hq, hs⟩ <;> rw [hs]
  rw [State.grant_turn, State.openTurn_turn, if_neg fun hx => h e (by simp [hq]) hx.1]
  rfl

/-- R66: the other channels beside a channel passed on. -/
theorem State.MicSound.passQueue_keptBeside {s : State} {skip : Option Nat} (h : s.MicSound skip) {c x : Nat}
    (hx : x ≠ c) : s.keptBeside (s.passQueue c) c x := by
  rcases s.passQueue_cases c with ⟨hq, hs⟩ | ⟨e, rest, hq, hs⟩
  · rw [hs]
    refine ⟨rfl, ?_, rfl⟩
    simp only [State.passedQueue, hq]
  · have hc : c ∈ Config.channelNumbers := h.channels c fun hem => by simp [hem] at hq
    have hchan : (s.setChan c { s.chan c with queue := rest }).chan x = s.chan x := by
      rw [State.chan_setChan, if_neg hx]
    rw [hs]
    refine ⟨?_, ?_, ?_⟩
    · rw [State.MicSound.grant_holder hc, if_neg hx, hchan]
    · rw [State.grant_chan]
      simp only [State.passedQueue, hq, if_neg hx, hchan]
      split
      · refine List.filter_congr fun w _ => ?_
        rw [bne, Bool.eq_iff_iff]
        simp
      · next hn =>
        have : s.chan x = {} := by
          by_contra hne
          exact hn (h.channels x hne)
        rw [this]
        rfl
    · rw [State.grant_carriage, if_neg hx]
      rfl

/-- The frame of what passes on, seen from a state before the release. -/
theorem State.passedOn.from_before {s u t : State} {b c : Nat} (h : u.passedOn t b c)
    (hq : (u.chan c).queue = (s.chan c).queue)
    (hsame : ∀ x, x ≠ b → u.booth x = s.booth x ∧ u.turn x = s.turn x)
    (hhead : ∀ e ∈ (s.chan c).queue.head?, e.booth ≠ b)
    (hnew : ∀ e ∈ (s.chan c).queue.head?, u.newTurn e.booth e.desk c = s.newTurn e.booth e.desk c) :
    s.passedOn t b c := by
  obtain ⟨hchan, hcar, hgranted, hother⟩ := h
  have hpq : u.passedQueue c c = s.passedQueue c c := by simp only [State.passedQueue, hq, if_true]
  rw [hq] at hchan hcar hgranted hother
  rw [hpq] at hchan
  refine ⟨hchan, hcar, fun e he => ?_, fun x hx hxe => ?_⟩
  · have := hgranted e he
    rwa [(hsame e.booth (hhead e he)).1, hnew e he] at this
  · have := hother x hx hxe
    rwa [(hsame x hx).1, (hsame x hx).2] at this

theorem State.keptBeside.from_before {s u t : State} {c x : Nat} (h : u.keptBeside t c x)
    (hq : (u.chan c).queue = (s.chan c).queue) (hx : u.chan x = s.chan x) (hcar : u.carriage x = s.carriage x) :
    s.keptBeside t c x := by
  obtain ⟨hh, hqueue, hc⟩ := h
  have hpq : u.passedQueue c x = s.passedQueue c x := by simp only [State.passedQueue, hq, hx]
  exact ⟨hh.trans (by rw [hx]), hqueue.trans hpq, hc.trans hcar⟩

/-! ## The relay resolver's runs of grants and releases -/

theorem State.grant_ran {s : State} (h : s.RelayLaw) (hp : s.Producing) (hs : s.framer.state = .onAir) {b : Nat}
    (hb : b ∈ Config.boothNumbers) (d c : Nat) : ∃ n, s.Ran (s.grant b d c) [(c, some b)] n := by
  obtain ⟨v, hv⟩ : ∃ v, v = ((s.grantRecords b d c).mixGrant c ⟨b, d⟩).openTurn b d c := ⟨_, rfl⟩
  have hstill : s.Still v := by
    rw [hv]
    constructor <;> simp [State.mixGrant, State.setCarriage]
  have hgrant : s.grant b d c = v.productionStart c b := by rw [hv]; rfl
  rw [hgrant]
  exact ⟨_, .after hstill ((hstill.law h).start_ran (hstill.producing hp) (by rw [hstill.framer]; exact hs) c hb)⟩

/-- R71: the state in which a release reports the stop of its channel. -/
def State.turnClosed (s : State) (b c : Nat) (r : Reason) : State := ((s.clearLive b c).mixRelease c).closeTurn b r

theorem State.release_eq (s : State) (b c : Nat) (r : Reason) :
    s.release b c r = (s.turnClosed b c r).productionStop c := rfl

theorem State.turnClosed_sameRelay (s : State) (b c : Nat) (r : Reason) : s.SameRelay (s.turnClosed b c r) := by
  constructor <;> simp [State.turnClosed]

theorem State.turnClosed_ended {s s' : State} (hm : s'.meter = s.meter) (hj : s'.journal = s.journal)
    (hl : s'.links = s.links) (b c : Nat) (r : Reason) : s.turnEnded (s'.turnClosed b c r) b r ∧
      (s'.turnClosed b c r).links = (s.handedOver (s.metered [b]).length).links :=
  State.closeTurn_after (by simpa using hm) (by simpa using hj) (by simpa using hl) b r

theorem State.turnClosed_law {s : State} (h : s.RelayLaw) (b c : Nat) (r : Reason) : (s.turnClosed b c r).RelayLaw :=
  h.congr (by simp [State.turnClosed]) (by simp [State.turnClosed])
    (by simp [State.turnClosed, State.mixRelease, State.setCarriage])

theorem State.turnClosed_producing {s : State} (h : s.Producing) (b c : Nat) (r : Reason) :
    (s.turnClosed b c r).Producing := fun x p hx =>
  h x p ((State.producer_congr (s.turnClosed_sameRelay b c r).relay x) ▸ hx)

theorem State.release_ran {s : State} (h : s.RelayLaw) (hp : s.Producing) (hs : s.framer.state = .onAir) (b c : Nat)
    (r : Reason) : ∃ n, (s.turnClosed b c r).Ran (s.release b c r) [(c, none)] n :=
  ⟨_, (State.turnClosed_law h b c r).stop_ran (State.turnClosed_producing hp b c r)
    (by simpa [State.turnClosed] using hs) c⟩

theorem State.passQueue_ran {s : State} (h : s.RelayLaw) (hp : s.Producing) (hs : s.framer.state = .onAir) (c : Nat)
    (hb : ∀ e ∈ (s.chan c).queue, e.booth ∈ Config.boothNumbers) :
    ∃ n, s.Ran (s.passQueue c) (s.passReports c) n := by
  rcases s.passQueue_cases c with ⟨hq, hst⟩ | ⟨e, rest, hq, hst⟩
  · rw [hst, State.passReports, hq]
    exact ⟨0, .of_still ⟨rfl, rfl, rfl, rfl, rfl, rfl⟩ h hp⟩
  · have hstill : s.Still (s.setChan c { s.chan c with queue := rest }) := ⟨rfl, rfl, rfl, rfl, rfl, rfl⟩
    obtain ⟨n, hn⟩ := State.grant_ran (hstill.law h) (hstill.producing hp) hs (hb e (by simp [hq])) e.desk c
    rw [hst, State.passReports, hq]
    exact ⟨n, .after hstill hn⟩

/-! ## What a grant and a channel passed on leave of the meter -/

@[simp] theorem State.grant_sitting (s : State) (b d c : Nat) : (s.grant b d c).meter.sitting = s.meter.sitting := by
  rw [State.grant_meter, State.openTurn_sitting]
@[simp] theorem State.grant_totals (s : State) (b d c : Nat) : (s.grant b d c).meter.totals = s.meter.totals := by
  rw [State.grant_meter, State.openTurn_totals]
@[simp] theorem State.grant_time (s : State) (b d c : Nat) : (s.grant b d c).meter.time = s.meter.time := by
  rw [State.grant_meter, State.openTurn_time]
@[simp] theorem State.grant_graceSetting (s : State) (b d c : Nat) :
    (s.grant b d c).meter.graceSetting = s.meter.graceSetting := by
  rw [State.grant_meter, State.openTurn_graceSetting]
@[simp] theorem State.grant_graceTimer (s : State) (b d c : Nat) :
    (s.grant b d c).meter.graceTimer = s.meter.graceTimer := by
  rw [State.grant_meter, State.openTurn_graceTimer]

/-- What a channel passed on leaves of meter and mixer. -/
structure State.PassKeeps (s t : State) : Prop where
  sitting : t.meter.sitting = s.meter.sitting
  totals : t.meter.totals = s.meter.totals
  time : t.meter.time = s.meter.time
  graceSetting : t.meter.graceSetting = s.meter.graceSetting
  graceTimer : t.meter.graceTimer = s.meter.graceTimer
  feeds : t.mixer.feeds = s.mixer.feeds
  rampLength : t.mixer.rampLength = s.mixer.rampLength
  offerTimeout : t.mixer.offerTimeout = s.mixer.offerTimeout
  journal : t.journal = s.journal

theorem State.PassKeeps.trans {s t u : State} (h : s.PassKeeps t) (h' : t.PassKeeps u) : s.PassKeeps u :=
  ⟨h'.1.trans h.1, h'.2.trans h.2, h'.3.trans h.3, h'.4.trans h.4, h'.5.trans h.5, h'.6.trans h.6, h'.7.trans h.7,
    h'.8.trans h.8, h'.9.trans h.9⟩

theorem State.grant_keeps (s : State) (b d c : Nat) : s.PassKeeps (s.grant b d c) := by
  constructor <;> simp

theorem State.passQueue_keeps (s : State) (c : Nat) : s.PassKeeps (s.passQueue c) := by
  rcases s.passQueue_cases c with ⟨-, h⟩ | ⟨e, rest, -, h⟩ <;> rw [h]
  · exact ⟨rfl, rfl, rfl, rfl, rfl, rfl, rfl, rfl, rfl⟩
  · have hset : s.PassKeeps (s.setChan c { s.chan c with queue := rest }) :=
      ⟨rfl, rfl, rfl, rfl, rfl, rfl, rfl, rfl, rfl⟩
    exact hset.trans (State.grant_keeps _ _ _ _)

theorem State.release_keeps (s : State) (b c : Nat) (r : Reason) :
    (s.turnClosed b c r).PassKeeps (s.release b c r) := by
  rw [State.release_eq]
  constructor <;> simp

theorem State.mixerBut_iff (s t : State) : s.mixerBut t ↔ t.mixer.feeds = s.mixer.feeds ∧
    t.mixer.rampLength = s.mixer.rampLength ∧ t.mixer.offerTimeout = s.mixer.offerTimeout := by
  unfold State.mixerBut
  generalize t.mixer = m
  cases m
  simp

theorem State.meterBut_iff (s t : State) : s.meterBut t ↔ t.meter.time = s.meter.time ∧
    t.meter.graceSetting = s.meter.graceSetting ∧ t.meter.graceTimer = s.meter.graceTimer := by
  unfold State.meterBut
  generalize t.meter = m
  cases m
  simp

/-! ## A desk that leaves its channel -/

/-- A state that differs in booth `b`'s record and in the desks' records, the interpreters aside. -/
structure State.LikeBut (s s' : State) (b : Nat) : Prop where
  same : s' = s.setBdc s'.bdc
  chans : ∀ x, s'.chan x = s.chan x
  booths : s.boothsBut s' b
  live : (s'.booth b).live = (s.booth b).live
  interpreter : ∀ x y, (s'.desk x y).interpreter = (s.desk x y).interpreter

/-- What is left where booth `b` has released channel `c` for a reason and the channel has been passed on; `s'` is the
state that its desk has left. -/
structure State.Vacated (s s' t : State) (b c : Nat) (r : Reason) (n : Nat) : Prop where
  only : s.onlyChanges t [.mixer, .bdc, .relay, .meter, .journal, .links]
  wires : s.sameLinks t
  booth : t.booth b = { s'.booth b with live := none }
  turn : t.turn b = none
  ended : s.turnEnded t b r
  meter : s.meterBut t
  desks : t.bdc.desks = s'.bdc.desks
  passed : s.passedOn t b c
  beside : ∀ x, x ≠ c → s.keptBeside t c x
  mixer : s.mixerBut t
  runs : s.relayRuns t ((c, none) :: s.passReports c) n
  follows : s.relayFollows t c ((s.chan c).queue.head?.map DeskId.booth)
  law : t.RelayLaw
  links : t.links = (s.releaseFlags b n).links

theorem State.LikeBut.refl (s : State) (b : Nat) : s.LikeBut s b :=
  ⟨rfl, fun _ => rfl, fun _ _ => rfl, rfl, fun _ _ => rfl⟩

theorem State.LikeBut.still {s s' : State} {b : Nat} (h : s.LikeBut s' b) : s.Still s' := by
  rw [h.same]
  exact ⟨rfl, rfl, rfl, rfl, rfl, rfl⟩

theorem State.Still.sameRelay {s t : State} (h : s.Still t) : s.SameRelay t := ⟨h.straps, h.banks, h.relay⟩

theorem State.newTurn_same {s t : State} {x d : Nat} (hd : (t.desk x d).interpreter = (s.desk x d).interpreter)
    (hb : t.banks = s.banks) (ho : t.meter.sitting.isOpen = s.meter.sitting.isOpen)
    (ht : t.meter.time = s.meter.time) (c : Nat) : t.newTurn x d c = s.newTurn x d c := by
  simp only [State.newTurn, ho, ht, State.carriedQuality_congr hb, hd]

/-- R72: the reports of a queue passed on hang on the queue alone. -/
theorem State.passReports_congr {s u : State} {c : Nat} (h : (u.chan c).queue = (s.chan c).queue) :
    u.passReports c = s.passReports c := by simp only [State.passReports, h]

/-- R71, R72: booth `b`'s live desk leaves channel `c`, which passes on. -/
theorem State.vacate {s s' : State} {b d c : Nat} (hlike : s.LikeBut s' b) (h : s.MicSound none)
    (h' : s'.MicSound none) (hr : s.RelayLaw) (ht : s.TurnLaw) (hs : s.framer.state = .onAir)
    (hl : (s.booth b).live = some (d, c)) (r : Reason) :
    ∃ n, s.Vacated s' ((s'.release b c r).passQueue c) b c r n := by
  have hl' : (s'.booth b).live = some (d, c) := hlike.live.trans hl
  have hmeter : s'.meter = s.meter := by rw [hlike.same]; rfl
  have hjournal : s'.journal = s.journal := by rw [hlike.same]; rfl
  have hair : s'.framer.state = .onAir := by rw [hlike.still.framer]; exact hs
  obtain ⟨u, hu⟩ : ∃ u, u = s'.release b c r := ⟨_, rfl⟩
  have husound : u.MicSound none := hu ▸ h'.release hl' r
  have hqueue (x : Nat) : (u.chan x).queue = (s.chan x).queue := by
    rw [hu, State.MicSound.release_queue, hlike.chans]
  have hfree : (u.chan c).holder = none := by rw [hu, State.release_chan, if_pos rfl]
  -- the booth that waits first is another, without a turn
  have hhead : ∀ e ∈ (s.chan c).queue.head?, e.booth ≠ b ∧ s.turn e.booth = none := fun e he => by
    have hlive := h.live_none_of_waits (List.mem_of_mem_head? he)
    refine ⟨fun heb => ?_, ?_⟩
    · rw [heb, hl] at hlive
      cases hlive
    · cases hturn : s.turn e.booth with
      | none => rfl
      | some x =>
        have := (ht.live e.booth x hturn).2
        rw [hlive] at this
        cases this
  have huturn (x : Nat) (hx : x ≠ b) : u.turn x = s.turn x := by
    rw [hu, State.release_turn, if_neg hx, State.turn_congr hmeter]
  have hubooth (x : Nat) (hx : x ≠ b) : u.booth x = s.booth x := by
    rw [hu, State.release_booth, if_neg hx, hlike.booths x hx]
  have hkeeps := (s'.release_keeps b c r).trans ((s'.release b c r).passQueue_keeps c)
  have hended := State.turnClosed_ended hmeter hjournal hlike.still.links b c r
  have hsound : (u.passQueue c).MicSound none := husound.passQueue hfree
  -- the relay resolver's runs
  obtain ⟨n, hrel⟩ := State.release_ran (hlike.still.law hr) (hlike.still.producing h.producing) hair b c r
  obtain ⟨m, hpass⟩ := State.passQueue_ran hrel.law hrel.producing (by simpa using hair) c
    fun e he => husound.booth_of_waits (c := c) (by rw [hu]; exact he)
  rw [← hu] at hrel hpass hkeeps ⊢
  have hran := hrel.trans hpass
  rw [State.passReports_congr (hqueue c)] at hran hpass
  have hto : (s'.turnClosed b c r).SameRelay s := by
    have h1 := hlike.still.sameRelay
    have h2 := s'.turnClosed_sameRelay b c r
    exact ⟨(h2.straps.trans h1.straps).symm, (h2.banks.trans h1.banks).symm, (h2.relay.trans h1.relay).symm⟩
  have hpassed : u.passedOn (u.passQueue c) b c :=
    husound.passQueue_passedOn hfree (by rw [hu, State.release_carriage, if_pos rfl])
      (fun e he => by
        rw [hqueue] at he
        rw [huturn _ (hhead e he).1]
        exact (hhead e he).2) b
  refine ⟨n + m,
    { only := ?_, wires := ?_, booth := ?_, turn := ?_, ended := ?_, meter := ?_, desks := ?_, passed := ?_, beside := ?_
      mixer := ?_, runs := ?_, follows := ?_, law := hran.law, links := ?_ }⟩
  · rw [State.onlyChanges_iff, hu, hlike.same]
    simp
  · rw [State.sameLinks_iff_wire, hu, hlike.same]
    simp
  · rw [State.passQueue_booth_of_ne _ _ _ (fun e he => by rw [hqueue] at he; exact (hhead e he).1.symm), hu,
      State.release_booth, if_pos rfl]
  · rw [State.passQueue_turn_of_ne _ _ _ (fun e he => by rw [hqueue] at he; exact (hhead e he).1.symm), hu,
      State.release_turn, if_pos rfl]
  · exact hended.1.congr hkeeps.journal hkeeps.sitting hkeeps.totals
  · rw [State.meterBut_iff]
    refine ⟨hkeeps.time.trans ?_, hkeeps.graceSetting.trans ?_, hkeeps.graceTimer.trans ?_⟩ <;>
      simp [State.turnClosed, hmeter]
  · rw [State.passQueue_desks, hu, State.release_desks]
  · exact hpassed.from_before (hqueue c) (fun x hx => ⟨hubooth x hx, huturn x hx⟩) (fun e he => (hhead e he).1)
      fun e he => State.newTurn_same (by rw [hu, State.release_desk, hlike.interpreter])
        (by rw [hu, State.release_banks, hlike.still.banks]) (by rw [hu, State.release_isOpen, hmeter])
        (by rw [hu, State.release_time, hmeter]) c
  · intro x hx
    refine (husound.passQueue_keptBeside hx).from_before (hqueue c) ?_ ?_
    · rw [hu, State.release_chan, if_neg hx, hlike.chans]
    · rw [hu, State.release_carriage, if_neg hx, hlike.same]
      rfl
  · rw [State.mixerBut_iff]
    refine ⟨hkeeps.feeds.trans ?_, hkeeps.rampLength.trans ?_, hkeeps.offerTimeout.trans ?_⟩ <;> rw [hlike.same] <;>
      simp [State.turnClosed, State.mixRelease, State.setCarriage]
  · exact State.relayRuns_congr hto rfl hran.runs
  · have hstop : s.relayFollows u c none := (State.relayFollows_congr hto ⟨rfl, rfl, rfl⟩ c none).mpr hrel.follows
    cases hq : (s.chan c).queue with
    | nil =>
      have hsame : u.passQueue c = u := by
        rcases u.passQueue_cases c with ⟨-, hst⟩ | ⟨e, rest, hq', -⟩
        · exact hst
        · rw [hqueue, hq] at hq'
          cases hq'
      rw [hsame]
      exact hstop
    | cons e rest =>
      simp only [State.passReports, hq] at hpass
      exact State.relayFollows_restart (hrel.straps.trans hto.straps.symm) (hrel.banks.trans hto.banks.symm) hstop
        hpass.follows
  · rw [hran.links, State.raise_links_congr hended.2]
    rfl

/-! ## MIC_OFF that releases -/

/-- Settles O34. -/
theorem micOffReleases : Obligations.MicOffReleases := by
  intro s b d c hacc hm hr ht hs hd hl ho
  have hmicOff : s.micOff b d = (s.release b c .release).passQueue c := by
    unfold State.micOff State.giveUp
    rw [if_pos ((BoothRun.liveDesk_iff _ _).mpr ⟨c, hl⟩), hl, ho]
  obtain ⟨n, h⟩ := State.vacate (.refl s b) hm.sound hm.sound hr ht hs hl .release
  rw [← hmicOff] at h
  exact ⟨s.micOff b d, n,
    exec_deskRule (i := .micOff b d) (rule := fun s => ⟨s.micOff b d, .done⟩) rfl hacc rfl hs hd rfl,
    h.only, h.wires, h.booth, h.turn, h.ended, h.meter, h.desks, h.passed, h.beside, h.mixer, h.follows, h.runs, h.law.feed,
    h.links⟩

/-! ## FORCE_OFF -/

/-- R82: an offer cancelled changes its booth's record and its desk's latch alone. -/
theorem State.cancelOffer_likeBut (s : State) (b : Nat) : s.LikeBut (s.cancelOffer b) b := by
  rcases s.cancelOffer_cases b with ⟨-, h⟩ | ⟨e, y, -, h⟩ <;> rw [h]
  · exact .refl s b
  · exact
      { same := rfl
        chans := fun _ => rfl
        booths := fun x hx => (State.dropOffer_booth s b x).trans (if_neg hx)
        live := by
          have : ((s.dropOffer b).setRefused b e true).booth b = _ := State.dropOffer_booth s b b
          rw [this, if_pos rfl]
        interpreter := fun x y => State.desk_of_interpreter rfl }

theorem State.MicSound.cancelOffer {s : State} {skip : Option Nat} (h : s.MicSound skip) (b : Nat) :
    (s.cancelOffer b).MicSound skip := by
  rcases s.cancelOffer_cases b with ⟨-, hs⟩ | ⟨e, y, -, hs⟩ <;> rw [hs]
  · exact h
  · have hdrop : (s.dropOffer b).MicSound skip := h.setOffer nofun nofun rfl
    exact hdrop.congr hdrop.entries (fun _ => rfl) (fun _ => rfl) (fun _ => rfl) fun _ => rfl

theorem State.cancelOffer_booth (s : State) {b : Nat} (h : (s.booth b).offer = none → (s.booth b).offerTimer = none) :
    (s.cancelOffer b).booth b = { s.booth b with offer := none, offerTimer := none } := by
  rcases s.cancelOffer_cases b with ⟨ho, hs⟩ | ⟨e, y, -, hs⟩ <;> rw [hs]
  · have ht := h ho
    cases hb : s.booth b
    simp_all
  · exact (State.dropOffer_booth s b b).trans (if_pos rfl)

/-- R82: the REFUSED latch of the desk whose offer is cancelled. -/
theorem State.cancelOffer_desks (s : State) (b : Nat) :
    ((s.booth b).offer = none → (s.cancelOffer b).bdc.desks = s.bdc.desks) ∧
      ∀ e y, (s.booth b).offer = some (e, y) →
        (s.cancelOffer b).desk b e = { s.desk b e with refused := true } ∧ s.desksBut (s.cancelOffer b) b e := by
  rcases s.cancelOffer_cases b with ⟨ho, hs⟩ | ⟨e, y, ho, hs⟩ <;> rw [hs, ho]
  · exact ⟨fun _ => rfl, nofun⟩
  · refine ⟨nofun, fun e' y' he => ?_⟩
    cases he
    exact ⟨(State.setRefused_desk (s.dropOffer b) b e true b e).trans (if_pos rfl), fun x z hk =>
      (State.setRefused_desk (s.dropOffer b) b e true x z).trans (if_neg hk)⟩

/-- Settles O39. -/
theorem forceOffReleases : Obligations.ForceOffReleases := by
  intro s b hacc
  have hrule : (Instr.forceOff b).rule s = forceOffReply b s := rfl
  refine ⟨fun hs => ?_, fun hs hl => ?_, fun d c hs hl hm hr ht => ?_⟩
  · exact exec_reply (i := .forceOff b) rfl hacc
      (by rw [hrule]; exact if_pos (by simpa [State.onAir] using hs))
  · exact exec_reply (i := .forceOff b) rfl hacc
      (by rw [hrule, forceOffReply, if_neg (by simp [(State.onAir_iff s).mpr hs]), hl])
  · have hexec : exec (.forceOff b) s = .next ((s.forceOff b c).post .console ⟨Code.forceOff, .done, []⟩) :=
      exec_reply (i := .forceOff b) rfl hacc
        (by rw [hrule, forceOffReply, if_neg (by simp [(State.onAir_iff s).mpr hs]), hl])
    obtain ⟨n, h⟩ := State.vacate (s.cancelOffer_likeBut b) hm.sound (hm.sound.cancelOffer b) hr ht hs hl .forced
    have hforce : ((s.cancelOffer b).release b c .forced).passQueue c = s.forceOff b c := rfl
    rw [hforce] at h
    obtain ⟨hnone, hsome⟩ := s.cancelOffer_desks b
    refine ⟨s.forceOff b c, n, hexec, h.only, h.wires, ?_, h.turn, h.ended, h.meter, fun ho => h.desks.trans (hnone ho),
      fun e y ho => ?_, h.passed, h.beside, h.mixer, h.follows, h.runs, h.law.feed, h.links⟩
    · have hpend := hm.sound.pending_none_of_live hl
      rw [h.booth, s.cancelOffer_booth hm.sound.offerTimer_none]
      exact congrArg (fun p => (⟨none, p, none, none⟩ : BoothRun)) hpend
    · obtain ⟨hat, hbut⟩ := hsome e y ho
      refine ⟨?_, fun x z hk => ?_⟩
      · rw [← hat]
        simp only [State.desk, h.desks]
      · rw [← hbut x z hk]
        simp only [State.desk, h.desks]

/-! ## MIC_ON granted -/

/-- Settles O31. -/
theorem micOnGrantsAFreeChannel : Obligations.MicOnGrantsAFreeChannel := by
  intro s b d c hacc hm hr ht hs hd hl hp hplan hfree
  obtain ⟨-, hat, hbut⟩ := s.setDesk_frame b d { s.desk b d with refused := false }
  obtain ⟨u, hu⟩ : ∃ u, u = s.setRefused b d false := ⟨_, rfl⟩
  have hbooth (x : Nat) : u.booth x = s.booth x := by rw [hu]; rfl
  have hchan (x : Nat) : u.chan x = s.chan x := by rw [hu]; rfl
  have hstill : s.Still u := by rw [hu]; exact ⟨rfl, rfl, rfl, rfl, rfl, rfl⟩
  have hdesk : u.desk b d = { s.desk b d with refused := false } := by rw [hu]; exact hat
  have hb : b ∈ Config.boothNumbers := by
    have hparams := hacc.2
    simp only [Instr.paramsInRange, List.mem_cons, List.not_mem_nil, or_false, forall_eq_or_imp, forall_eq] at hparams
    exact (mem_boothNumbers b).mpr hparams.1
  have hc : c ∈ Config.channelNumbers := hm.sound.planChannel_mem hplan
  have hidle := hm.booth_idle hl
  rw [hp] at hidle
  have hmicOn : u.micOn b d = ⟨u.grant b d c, .done⟩ := by
    rw [State.micOn_asks (by simp [hbooth, hl]) (by simp [hbooth, hidle]) (by simp [hbooth, hp]), hdesk,
      State.ask_assigned (c := c) (by rw [State.planChannel_congr hstill.straps hstill.banks]; exact hplan),
      State.askChannel_claims (by rw [hbooth, hl]) (by rw [hbooth, hp]), State.claimChannel, if_pos (by rw [hchan, hfree])]
  have hturn : u.turn b = none := by
    rw [State.turn_congr (t := u) (s := s) (by rw [hu]; rfl)]
    cases hturn : s.turn b with
    | none => rfl
    | some x =>
      have := (ht.live b x hturn).2
      rw [hl] at this
      cases this
  have hexec : exec (.micOn b d) s = .next ((u.grant b d c).post .desk
      ⟨Code.micOn, .done, [f1 ((u.grant b d c).lamp b d).code]⟩) :=
    exec_deskRule (i := .micOn b d) (rule := fun s => (s.setRefused b d false).micOn b d) rfl hacc rfl hs hd (by
      rw [← hu, hmicOn])
  have hmine : (u.grant b d c).booth b = ⟨some (d, c), none, none, none⟩ := by
    rw [State.grant_booth, if_pos rfl, hbooth, hidle]
  have hlamp : (u.grant b d c).lamp b d = .live := by
    rw [State.lamp_live ⟨c, by rw [hmine]⟩, hmine]
    rfl
  rw [hlamp] at hexec
  obtain ⟨n, hran⟩ := State.grant_ran (hstill.law hr) (hstill.producing hm.sound.producing)
    (by rw [hstill.framer]; exact hs) hb d c
  have hran : s.Ran (u.grant b d c) [(c, some b)] n := .after hstill hran
  have hkeeps := u.grant_keeps b d c
  have hmeter : u.meter = s.meter := by rw [hu]; rfl
  have hmixer : u.mixer = s.mixer := by rw [hu]; rfl
  have hqueue (x : Nat) : ((u.grant b d c).chan x).queue = (s.chan x).queue := by
    have hsound : u.MicSound none := hm.sound.congr
      (fun k b => by rw [State.boothEntry_congr hstill.straps, State.bank_congr hstill.banks]; exact hm.entries k b)
      hbooth hchan (fun c => State.carriage_congr hmixer c) fun c => State.producer_congr hstill.relay c
    rw [hsound.grant_queue hc, hsound.filter_queue_self (by rw [hbooth, hp]), hchan]
  have hholder (x : Nat) : ((u.grant b d c).chan x).holder = if x = c then some ⟨b, d⟩ else (s.chan x).holder := by
    rw [State.MicSound.grant_holder hc, hchan]
  refine ⟨u.grant b d c, n, hexec, ?_, ?_, hmine, fun x hx => ?_, ?_, ?_, ⟨fun x hx => ⟨?_, ?_⟩, ?_, ?_, ?_⟩, ?_,
    fun x z hk => ?_, ?_, ⟨?_, ?_, ?_, fun x hx => ?_⟩, ?_, ?_, hran.follows, hran.runs, hran.sourcesReported, hran.links⟩
  · rw [State.onlyChanges_iff, hu]
    simp
  · rw [State.sameLinks_iff_wire, hu]
    simp
  · rw [State.grant_booth, if_neg hx, hbooth]
  · exact congrArg₂ ChannelRun.mk ((hholder c).trans (if_pos rfl)) (hqueue c)
  · rw [State.grant_carriage, if_pos rfl]
  · exact congrArg₂ ChannelRun.mk ((hholder x).trans (if_neg hx)) (hqueue x)
  · rw [State.grant_carriage, if_neg hx, State.carriage_congr hmixer]
  · rw [hkeeps.feeds, hmixer]
  · rw [hkeeps.rampLength, hmixer]
  · rw [hkeeps.offerTimeout, hmixer]
  · rw [State.grant_desk, hdesk]
  · rw [State.grant_desk, hu]
    exact hbut x z hk
  · rw [State.grant_turn, State.openTurn_newTurn _ _ _ _ _ hturn, if_pos rfl]
    exact State.newTurn_same (by rw [hdesk]) hstill.banks (by rw [hmeter]) (by rw [hmeter]) c
  · rw [hkeeps.time, hmeter]
  · rw [hkeeps.graceSetting, hmeter]
  · rw [hkeeps.graceTimer, hmeter]
  · rw [State.grant_turn, State.openTurn_newTurn _ _ _ _ _ hturn, if_neg hx, State.turn_congr hmeter]
  · rw [hkeeps.sitting, hmeter]
  · rw [hkeeps.totals, hmeter]

end Sys2Proof.Machine
end

section
/-! MIC_OFF that withdraws a request or starts the other desk on another channel (O35). -/

namespace Sys2Proof.Machine

open Sys2Proof

/-! ## Frames one after another -/

theorem State.onlyChanges.trans {s t u : State} {bs : List Block} (h : s.onlyChanges t bs) (h' : t.onlyChanges u bs) :
    s.onlyChanges u bs := fun x hx => by
  have h1 := h x hx
  have h2 := h' x hx
  cases x <;> exact Eq.trans h2 h1

theorem State.onlyChanges.mono {s t : State} {bs bs' : List Block} (h : s.onlyChanges t bs) (hsub : bs ⊆ bs') :
    s.onlyChanges t bs' := fun x hx => h x fun hx' => hx (hsub hx')

/-! ## A claim of a channel -/

theorem ChannelRun.eq_mk (x : ChannelRun) : x = ⟨x.holder, x.queue⟩ := rfl

/-- R65, cases 7 and 8: what desk `d` of booth `b`, which has neither a live desk nor a request, leaves by claiming
channel `c` for output `y`. -/
structure State.Claims (s t : State) (b d c : Nat) (y : Output) (n : Nat) : Prop where
  only : s.onlyChanges t [.mixer, .bdc, .relay, .meter, .links]
  wires : s.sameLinks t
  sound : t.MicSound none
  keeps : s.PassKeeps t
  desks : t.bdc.desks = s.bdc.desks
  booths : s.boothsBut t b
  offer : (t.booth b).offer = (s.booth b).offer
  chans : ∀ x, x ≠ c → t.chan x = s.chan x ∧ t.carriage x = s.carriage x
  turns : ∀ x, x ≠ b → t.turn x = s.turn x
  free : (s.chan c).holder = none → t.booth b = { s.booth b with live := some (d, c) } ∧
    t.chan c = ⟨some ⟨b, d⟩, (s.chan c).queue⟩ ∧ t.carriage c = ⟨some ⟨b, d⟩, none⟩ ∧ t.turn b = s.newTurn b d c ∧
    s.Ran t [(c, some b)] n
  held : (s.chan c).holder ≠ none → t.turn b = s.turn b ∧ t.carriage c = s.carriage c ∧
    (t.chan c).holder = (s.chan c).holder ∧ s.Ran t [] n ∧
    ((s.chan c).queue.length < 4 → t.booth b = { s.booth b with pending := some (d, y) } ∧
      (t.chan c).queue = (s.chan c).queue ++ [⟨b, d⟩]) ∧
    (4 ≤ (s.chan c).queue.length → t.booth b = s.booth b ∧ (t.chan c).queue = (s.chan c).queue)

section Claim

variable {s : State} {b d c : Nat}

theorem State.claimChannel_free (hfree : (s.chan c).holder = none) (b d : Nat) (y : Output) :
    s.claimChannel b d c y = ⟨s.grant b d c, .done⟩ := if_pos hfree

theorem State.grant_claims (h : s.MicSound none) (hr : s.RelayLaw) (hs : s.framer.state = .onAir)
    (hb : b ∈ Config.boothNumbers) (hd : d ∈ [1, 2, 3]) (hc : c ∈ Config.channelNumbers) (hl : (s.booth b).live = none)
    (hp : (s.booth b).pending = none) (ht : s.turn b = none) (hfree : (s.chan c).holder = none) (y : Output) :
    ∃ n, s.Claims (s.grant b d c) b d c y n := by
  obtain ⟨n, hran⟩ := State.grant_ran hr h.producing hs hb d c
  have hqueue (x : Nat) : ((s.grant b d c).chan x).queue = (s.chan x).queue := by
    rw [h.grant_queue hc, h.filter_queue_self hp]
  have hholder (x : Nat) := State.MicSound.grant_holder (s := s) (b := b) (d := d) hc x
  have hturn (x : Nat) : (s.grant b d c).turn x = if x = b then s.newTurn b d c else s.turn x := by
    rw [State.grant_turn, State.openTurn_newTurn _ _ _ _ _ ht]
  refine ⟨n,
    { only := ?_, wires := ?_, sound := (h.skipping (some b)).grant hb hd hc hl hfree, keeps := s.grant_keeps b d c
      desks := s.grant_desks b d c, booths := fun x hx => ?_, offer := ?_, chans := fun x hx => ⟨?_, ?_⟩
      turns := fun x hx => ?_, free := fun _ => ⟨?_, ?_, ?_, ?_, hran⟩, held := fun hne => absurd hfree hne }⟩
  · rw [State.onlyChanges_iff]
    simp
  · rw [State.sameLinks_iff_wire]
    simp
  · rw [State.grant_booth, if_neg hx]
  · rw [State.grant_booth, if_pos rfl]
  · exact congrArg₂ ChannelRun.mk ((hholder x).trans (if_neg hx)) (hqueue x)
  · rw [State.grant_carriage, if_neg hx]
  · rw [hturn, if_neg hx]
  · rw [State.grant_booth, if_pos rfl, ← hp]
  · exact congrArg₂ ChannelRun.mk ((hholder c).trans (if_pos rfl)) (hqueue c)
  · rw [State.grant_carriage, if_pos rfl]
  · rw [hturn, if_pos rfl]

theorem State.joinQueue_claims (h : s.MicSound none) (hr : s.RelayLaw) (hb : b ∈ Config.boothNumbers)
    (hd : d ∈ [1, 2, 3]) (hc : c ∈ Config.channelNumbers) (hl : (s.booth b).live = none)
    (hp : (s.booth b).pending = none) (hheld : (s.chan c).holder ≠ none) (hroom : (s.chan c).queue.length < 4)
    (y : Output) : s.Claims (s.joinQueue b d c y) b d c y 0 where
  only := by
    rw [State.onlyChanges_iff]
    simp
  wires := ⟨rfl, rfl, rfl⟩
  sound := h.joinQueue hb hd hc hl hp hroom
  keeps := ⟨rfl, rfl, rfl, rfl, rfl, rfl, rfl, rfl, rfl⟩
  desks := rfl
  booths x hx := by rw [State.joinQueue_booth, if_neg hx]
  offer := by rw [State.joinQueue_booth, if_pos rfl]
  chans x hx := ⟨by rw [State.joinQueue_chan, if_neg hx], rfl⟩
  turns _ _ := rfl
  free hfree := absurd hfree hheld
  held _ := ⟨rfl, rfl, by rw [State.joinQueue_chan, if_pos rfl],
    .of_still ⟨rfl, rfl, rfl, rfl, rfl, rfl⟩ hr h.producing,
    fun _ => ⟨by rw [State.joinQueue_booth, if_pos rfl], by rw [State.joinQueue_chan, if_pos rfl]⟩,
    fun hfull => absurd hroom (Nat.not_lt.mpr hfull)⟩

theorem State.full_claims (h : s.MicSound none) (hr : s.RelayLaw) (hheld : (s.chan c).holder ≠ none)
    (hfull : 4 ≤ (s.chan c).queue.length) (d : Nat) (y : Output) : s.Claims s b d c y 0 where
  only := s.onlyChanges_refl _
  wires := ⟨rfl, rfl, rfl⟩
  sound := h
  keeps := ⟨rfl, rfl, rfl, rfl, rfl, rfl, rfl, rfl, rfl⟩
  desks := rfl
  booths _ _ := rfl
  offer := rfl
  chans _ _ := ⟨rfl, rfl⟩
  turns _ _ := rfl
  free hfree := absurd hfree hheld
  held _ := ⟨rfl, rfl, rfl, .of_still ⟨rfl, rfl, rfl, rfl, rfl, rfl⟩ hr h.producing,
    fun hroom => absurd hroom (Nat.not_lt.mpr hfull), fun _ => ⟨rfl, rfl⟩⟩

/-- R65, cases 7 and 8: a claim grants, waits, or is turned away. -/
theorem State.claimChannel_claims (h : s.MicSound none) (hr : s.RelayLaw) (hs : s.framer.state = .onAir)
    (hb : b ∈ Config.boothNumbers) (hd : d ∈ [1, 2, 3]) (hc : c ∈ Config.channelNumbers) (hl : (s.booth b).live = none)
    (hp : (s.booth b).pending = none) (ht : s.turn b = none) (y : Output) :
    ∃ n, s.Claims (s.claimChannel b d c y).st b d c y n := by
  by_cases hfree : (s.chan c).holder = none
  · rw [State.claimChannel_free hfree]
    exact State.grant_claims h hr hs hb hd hc hl hp ht hfree y
  · by_cases hroom : (s.chan c).queue.length < 4
    · rw [State.claimChannel_waits hfree hroom]
      exact ⟨0, State.joinQueue_claims h hr hb hd hc hl hp hfree hroom y⟩
    · rw [State.claimChannel_full hfree (Nat.not_lt.mp hroom)]
      exact ⟨0, State.full_claims h hr hfree (Nat.not_lt.mp hroom) d y⟩

end Claim

/-! ## MIC_OFF from a desk that is not live -/

theorem State.micOff_notLive {s : State} {b d : Nat} (h : ∀ c, (s.booth b).live ≠ some (d, c)) : s.micOff b d =
    if (s.booth b).offer.map Prod.fst = some d then s.dropOffer b
    else if (s.booth b).pending.map Prod.fst = some d then s.withdraw b
    else s :=
  if_neg fun hl => by
    obtain ⟨c, hc⟩ := (BoothRun.liveDesk_iff _ _).mp hl
    exact h c hc

theorem State.MicSound.withdraw_queue_of {s : State} (h : s.MicSound none) (b x : Nat) :
    ((s.withdraw b).chan x).queue = (s.chan x).queue.filter fun w => decide (w.booth ≠ b) := by
  rw [h.withdraw_queue]
  refine List.filter_congr fun w _ => ?_
  rw [bne, Bool.eq_iff_iff]
  simp

/-- R69: what MIC_OFF from a desk that is not live leaves. -/
theorem State.micOff_idle {s : State} {b d : Nat} (hm : s.MicLaw) (hl : ∀ c, (s.booth b).live ≠ some (d, c)) :
    s.onlyChanges (s.micOff b d) [.bdc] ∧ (s.micOff b d).bdc.desks = s.bdc.desks ∧ s.boothsBut (s.micOff b d) b ∧
      (∀ x, ((s.micOff b d).chan x).holder = (s.chan x).holder) ∧
      ((∃ x, (s.booth b).offer = some (d, x)) →
        (s.micOff b d).booth b = { s.booth b with offer := none, offerTimer := none } ∧
          (s.micOff b d).bdc.channels = s.bdc.channels) ∧
      ((∃ x, (s.booth b).pending = some (d, x)) → (s.micOff b d).booth b = { s.booth b with pending := none } ∧
        ∀ x, ((s.micOff b d).chan x).queue = (s.chan x).queue.filter fun w => decide (w.booth ≠ b)) ∧
      ((∀ x, (s.booth b).offer ≠ some (d, x)) → (∀ x, (s.booth b).pending ≠ some (d, x)) →
        (s.micOff b d).bdc = s.bdc) := by
  rw [State.micOff_notLive hl]
  by_cases ho : ∃ x, (s.booth b).offer = some (d, x)
  · have hpend : ¬ ∃ x, (s.booth b).pending = some (d, x) := by
      rintro ⟨x, hx⟩
      obtain ⟨y, hy⟩ := ho
      obtain ⟨e, c, hlive, -⟩ := hm.offer b d y hy
      rw [hm.sound.pending_none_of_live hlive] at hx
      cases hx
    rw [if_pos ((map_fst_eq_some_iff _ _).mpr ho)]
    refine ⟨?_, rfl, fun x hx => ?_, fun _ => rfl, fun _ => ⟨?_, rfl⟩, fun h => absurd h hpend,
      fun h => absurd ho (not_exists.mpr h)⟩
    · rw [State.onlyChanges_iff]
      simp
    · rw [State.dropOffer_booth, if_neg hx]
    · rw [State.dropOffer_booth, if_pos rfl]
  · rw [if_neg (mt (map_fst_eq_some_iff _ _).mp ho)]
    by_cases hp : ∃ x, (s.booth b).pending = some (d, x)
    · rw [if_pos ((map_fst_eq_some_iff _ _).mpr hp)]
      refine ⟨?_, rfl, fun x hx => ?_, fun x => State.MicSound.withdraw_holder s b x, fun h => absurd h ho,
        fun _ => ⟨?_, fun x => hm.sound.withdraw_queue_of b x⟩, fun _ h => absurd hp (not_exists.mpr h)⟩
      · rw [State.onlyChanges_iff]
        simp
      · rw [State.withdraw_booth, if_neg hx]
      · rw [State.withdraw_booth, if_pos rfl]
    · rw [if_neg (mt (map_fst_eq_some_iff _ _).mp hp)]
      exact ⟨s.onlyChanges_refl _, rfl, fun _ _ => rfl, fun _ => rfl, fun h => absurd h ho, fun h => absurd h hp,
        fun _ _ => rfl⟩

/-! ## The cross-output start -/

/-- R72: the wait queue of another channel, a desk having joined it. -/
theorem State.passedQueue_joined {s v : State} {c x : Nat} {w : DeskId} (hq : (v.chan c).queue = (s.chan c).queue)
    (hx : x ≠ c) (hj : (v.chan x).queue = (s.chan x).queue ++ [w])
    (hw : ∀ e ∈ (s.chan c).queue.head?, e.booth ≠ w.booth) : v.passedQueue c x = s.passedQueue c x ++ [w] := by
  simp only [State.passedQueue, hq]
  cases hqc : (s.chan c).queue with
  | nil => exact hj
  | cons e rest =>
    have hne : w.booth ≠ e.booth := fun he => hw e (by simp [hqc]) he.symm
    simp only [if_neg hx, hj, List.filter_append, List.filter_cons, List.filter_nil, hne, ne_eq, not_false_eq_true,
      decide_true, if_true]

theorem State.passedQueue_congr {s v : State} {c x : Nat} (hq : (v.chan c).queue = (s.chan c).queue)
    (hx : (v.chan x).queue = (s.chan x).queue) : v.passedQueue c x = s.passedQueue c x := by
  simp only [State.passedQueue, hq, hx]

/-- What is left of a release where the offering desk has then claimed the channel of its own output: `w` is the state
after the release, `v` after the claim, `t` after the released channel has passed on. -/
structure State.Crossed (s t : State) (b c e c' : Nat) (y : Output) (n : Nat) : Prop where
  only : s.onlyChanges t [.mixer, .bdc, .relay, .meter, .journal, .links]
  wires : s.sameLinks t
  passed : s.passedOn t b c
  ended : s.turnEnded t b .release
  meter : s.meterBut t
  desks : t.bdc.desks = s.bdc.desks
  beside : ∀ x, x ≠ c → x ≠ c' → s.keptBeside t c x
  mixer : s.mixerBut t
  law : t.RelayLaw
  links : t.links = (s.releaseFlags b n).links
  free : (s.chan c').holder = none → t.booth b = ⟨some (e, c'), none, none, none⟩ ∧
    t.chan c' = ⟨some ⟨b, e⟩, s.passedQueue c c'⟩ ∧ t.carriage c' = ⟨some ⟨b, e⟩, none⟩ ∧ t.turn b = s.newTurn b e c' ∧
    s.relayRuns t ((c, none) :: (c', some b) :: s.passReports c) n
  held : (s.chan c').holder ≠ none → t.turn b = none ∧ t.carriage c' = s.carriage c' ∧
    s.relayRuns t ((c, none) :: s.passReports c) n ∧
    ((s.chan c').queue.length < 4 → t.booth b = ⟨none, some (e, y), none, none⟩ ∧
      t.chan c' = { s.chan c' with queue := s.passedQueue c c' ++ [⟨b, e⟩] }) ∧
    (4 ≤ (s.chan c').queue.length → t.booth b = ⟨none, none, none, none⟩ ∧ s.keptBeside t c c')

/-- The booth that waits first for a channel is another than a booth that is live, and has no open turn. -/
theorem State.MicSound.head_idle {s : State} (h : s.MicSound none) (ht : s.TurnLaw) {b : Nat} {l : Nat × Nat}
    (hl : (s.booth b).live = some l) (c : Nat) :
    ∀ e ∈ (s.chan c).queue.head?, e.booth ≠ b ∧ s.turn e.booth = none := by
  intro e he
  have hlive := h.live_none_of_waits (List.mem_of_mem_head? he)
  refine ⟨fun heb => ?_, ?_⟩
  · rw [heb, hl] at hlive
    cases hlive
  · cases hturn : s.turn e.booth with
    | none => rfl
    | some x =>
      have := (ht.live e.booth x hturn).2
      rw [hlive] at this
      cases this

theorem State.crossed {s : State} {b d c e c' : Nat} {y : Output} (hm : s.MicLaw) (hr : s.RelayLaw) (ht : s.TurnLaw)
    (hs : s.framer.state = .onAir) (hl : (s.booth b).live = some (d, c)) (ho : (s.booth b).offer = some (e, y))
    (hplan : s.planChannel b y = some c') (hne : c' ≠ c) :
    ∃ n, s.Crossed (((s.release b c .release).crossStart b e y).passQueue c) b c e c' y n := by
  have hb : b ∈ Config.boothNumbers := hm.sound.booth_of_live hl
  have hc' : c' ∈ Config.channelNumbers := hm.sound.planChannel_mem hplan
  have hpend := hm.sound.pending_none_of_live hl
  -- the release
  obtain ⟨u, hu⟩ : ∃ u, u = s.release b c .release := ⟨_, rfl⟩
  have husound : u.MicSound none := hu ▸ hm.sound.release hl .release
  have huchan (x : Nat) : u.chan x = if x = c then { s.chan c with holder := none } else s.chan x := by
    rw [hu, State.release_chan]
  have hubooth (x : Nat) : u.booth x = if x = b then { s.booth b with live := none } else s.booth x := by
    rw [hu, State.release_booth]
  obtain ⟨n, hrel⟩ := State.release_ran hr hm.sound.producing hs b c .release
  have hended := State.turnClosed_ended (s := s) rfl rfl rfl b c .release
  have hkeeps := s.release_keeps b c .release
  rw [← hu] at hrel hkeeps
  -- the offer removed
  obtain ⟨w, hw⟩ : ∃ w, w = u.dropOffer b := ⟨_, rfl⟩
  have hwsound : w.MicSound none := hw ▸ husound.setOffer nofun nofun rfl
  have hwchan (x : Nat) : w.chan x = u.chan x := by rw [hw]; rfl
  have hwbooth : w.booth b = ⟨none, none, none, none⟩ := by
    rw [hw, State.dropOffer_booth, if_pos rfl, hubooth, if_pos rfl]
    exact congrArg (fun p => (⟨none, p, none, none⟩ : BoothRun)) hpend
  have hstill : u.Still w := by rw [hw]; exact ⟨rfl, rfl, rfl, rfl, rfl, rfl⟩
  have hwran := hrel.still hstill
  have hwstraps : w.straps = s.straps := by rw [hw, hu]; simp
  have hwbanks : w.banks = s.banks := by rw [hw, hu]; simp
  have hwbut (x : Nat) (hx : x ≠ b) : w.booth x = s.booth x := by
    rw [hw, State.dropOffer_booth, if_neg hx, hubooth, if_neg hx]
  have hwcar (x : Nat) : w.carriage x = if x = c then {} else s.carriage x := by
    rw [State.carriage_congr (t := w) (s := u) (by rw [hw]; rfl), hu, State.release_carriage]
  have hwturns (x : Nat) : w.turn x = if x = b then none else s.turn x := by
    rw [State.turn_congr (t := w) (s := u) (by rw [hw]; rfl), hu, State.release_turn]
  have hwturn : w.turn b = none := by rw [hwturns, if_pos rfl]
  -- the claim of the other channel
  obtain ⟨v, hv⟩ : ∃ v, v = (w.claimChannel b e c' y).st := ⟨_, rfl⟩
  have hcross : u.crossStart b e y = v := by
    have hwplan : w.planChannel b y = some c' := by
      rw [State.planChannel_congr hwstraps hwbanks, hplan]
    rw [hv, State.crossStart, ← hw, State.ask_assigned hwplan, State.askChannel_claims (by rw [hwbooth]) (by rw [hwbooth])]
  obtain ⟨m, hclaim⟩ := State.claimChannel_claims hwsound hwran.law (by rw [hwran.framer]; simpa [State.turnClosed] using hs)
    hb (hm.offering b e y ho) hc' (by rw [hwbooth]) (by rw [hwbooth]) hwturn y
  rw [← hv] at hclaim
  have hvc := hclaim.chans c hne.symm
  have hvq : (v.chan c).queue = (s.chan c).queue := by rw [hvc.1, hwchan, huchan, if_pos rfl]
  have hvfree : (v.chan c).holder = none := by rw [hvc.1, hwchan, huchan, if_pos rfl]
  have hwc' : w.chan c' = s.chan c' := by rw [hwchan, huchan, if_neg hne]
  have hhead := hm.sound.head_idle ht hl c
  have hvsame (x : Nat) (hx : x ≠ b) : v.booth x = s.booth x ∧ v.turn x = s.turn x :=
    ⟨(hclaim.booths x hx).trans (hwbut x hx), (hclaim.turns x hx).trans (by rw [hwturns, if_neg hx])⟩
  obtain ⟨xs, hxs, hvran⟩ : ∃ xs, xs = (if (s.chan c').holder = none then [(c', some b)] else []) ∧ w.Ran v xs m := by
    refine ⟨_, rfl, ?_⟩
    split
    · next hfree => exact (hclaim.free (by rw [hwc']; exact hfree)).2.2.2.2
    · next hheld => exact (hclaim.held (by rw [hwc']; exact hheld)).2.2.2.1
  -- the released channel passed on
  obtain ⟨k, hpass⟩ := State.passQueue_ran hvran.law hvran.producing
    (by rw [hvran.framer, hwran.framer]; simpa [State.turnClosed] using hs) c
    fun e he => hclaim.sound.booth_of_waits (c := c) he
  rw [State.passReports_congr hvq] at hpass
  have hran := (hwran.trans hvran).trans hpass
  have hpassed : v.passedOn (v.passQueue c) b c :=
    hclaim.sound.passQueue_passedOn hvfree (by rw [hvc.2, hwcar, if_pos rfl])
      (fun x hx => by
        rw [hvq] at hx
        rw [(hvsame _ (hhead x hx).1).2]
        exact (hhead x hx).2) b
  have hbeside (x : Nat) (hx : x ≠ c) := hclaim.sound.passQueue_keptBeside (c := c) hx
  have hpk := v.passQueue_keeps c
  have hwk : u.PassKeeps w := by rw [hw]; exact ⟨rfl, rfl, rfl, rfl, rfl, rfl, rfl, rfl, rfl⟩
  have htk := ((hkeeps.trans hwk).trans hclaim.keeps).trans hpk
  have htbooth : (v.passQueue c).booth b = v.booth b :=
    State.passQueue_booth_of_ne _ _ _ fun x hx => by rw [hvq] at hx; exact (hhead x hx).1.symm
  have htturn : (v.passQueue c).turn b = v.turn b :=
    State.passQueue_turn_of_ne _ _ _ fun x hx => by rw [hvq] at hx; exact (hhead x hx).1.symm
  have hto := s.turnClosed_sameRelay b c .release
  have hback : (s.turnClosed b c .release).SameRelay s := ⟨hto.straps.symm, hto.banks.symm, hto.relay.symm⟩
  have hdesks : v.bdc.desks = s.bdc.desks := by rw [hclaim.desks, hw, State.dropOffer_desks, hu, State.release_desks]
  have hruns := State.relayRuns_congr hback rfl hran.runs
  have hkept (x : Nat) (hx : x ≠ c) (hx' : v.chan x = s.chan x) (hcar : v.carriage x = s.carriage x) :
      s.keptBeside (v.passQueue c) c x := (hbeside x hx).from_before hvq hx' hcar
  have hnew (x f : Nat) (z : Nat) (hi : v.bdc.desks = s.bdc.desks) : v.newTurn x f z = s.newTurn x f z :=
    State.newTurn_same (by simp only [State.desk, hi])
      ((hvran.banks).trans hwbanks) (by rw [hclaim.keeps.sitting, hwk.sitting, hkeeps.sitting]; simp [State.turnClosed])
      (by rw [hclaim.keeps.time, hwk.time, hkeeps.time]; simp [State.turnClosed]) z
  rw [← hu, hcross]
  refine ⟨n + m + k,
    { only := ?_, wires := ?_, passed := ?_, ended := ?_, meter := ?_, desks := ?_, beside := fun x hx hx' => ?_
      mixer := ?_, law := hran.law, links := ?_, free := fun hfree => ?_, held := fun hheld => ?_ }⟩
  · have hsw : s.onlyChanges w [.mixer, .bdc, .relay, .meter, .journal, .links] := by
      rw [State.onlyChanges_iff, hw, hu]
      simp
    have hvt : v.onlyChanges (v.passQueue c) [.mixer, .bdc, .relay, .meter, .journal, .links] := by
      rw [State.onlyChanges_iff]
      simp
    exact (hsw.trans (hclaim.only.mono (by simp))).trans hvt
  · rw [State.sameLinks_iff_wire, State.passQueue_wire, (State.sameLinks_iff_wire w v).mp hclaim.wires, hw, hu]
    simp
  · exact hpassed.from_before hvq hvsame (fun x hx => (hhead x hx).1) fun x _ => hnew x.booth x.desk c hdesks
  · exact hended.1.congr htk.journal htk.sitting htk.totals
  · rw [State.meterBut_iff]
    refine ⟨htk.time.trans ?_, htk.graceSetting.trans ?_, htk.graceTimer.trans ?_⟩ <;> simp [State.turnClosed]
  · rw [State.passQueue_desks, hdesks]
  · exact hkept x hx ((hclaim.chans x hx').1.trans (by rw [hwchan, huchan, if_neg hx]))
      ((hclaim.chans x hx').2.trans (by rw [hwcar, if_neg hx]))
  · rw [State.mixerBut_iff]
    refine ⟨htk.feeds.trans ?_, htk.rampLength.trans ?_, htk.offerTimeout.trans ?_⟩ <;>
      simp [State.turnClosed, State.mixRelease, State.setCarriage]
  · rw [hran.links, State.raise_links_congr hended.2]
    rfl
  · obtain ⟨hcb, hcc, hccar, hct, -⟩ := hclaim.free (by rw [hwc']; exact hfree)
    rw [hwc'] at hcc
    obtain ⟨hh, hq, hcar⟩ := hbeside c' hne
    rw [if_pos hfree] at hxs
    rw [hxs] at hruns
    refine ⟨?_, ?_, hcar.trans hccar, ?_, hruns⟩
    · rw [htbooth, hcb, hwbooth]
    · refine congrArg₂ ChannelRun.mk (hh.trans (by rw [hcc])) (hq.trans ?_)
      exact State.passedQueue_congr hvq (by rw [hcc])
    · rw [htturn, hct]
      exact State.newTurn_same (by rw [hw, State.dropOffer_desk, hu, State.release_desk]) hwbanks
        (by rw [hwk.sitting, hkeeps.sitting]; simp [State.turnClosed])
        (by rw [hwk.time, hkeeps.time]; simp [State.turnClosed]) c'
  · obtain ⟨hct, hccar, hhold, -, hroom, hfull⟩ := hclaim.held (by rw [hwc']; exact hheld)
    rw [hwc'] at hroom hfull hhold
    have hccar' : v.carriage c' = s.carriage c' := by rw [hccar, hwcar, if_neg hne]
    obtain ⟨hh, hq, hcar⟩ := hbeside c' hne
    rw [if_neg hheld] at hxs
    rw [hxs] at hruns
    refine ⟨by rw [htturn, hct, hwturn], hcar.trans hccar', hruns, fun hlt => ?_, fun hge => ?_⟩
    · obtain ⟨hcb, hcq⟩ := hroom hlt
      refine ⟨by rw [htbooth, hcb, hwbooth], congrArg₂ ChannelRun.mk (hh.trans hhold) (hq.trans ?_)⟩
      exact State.passedQueue_joined hvq hne hcq fun x hx => (hhead x hx).1
    · obtain ⟨hcb, hcq⟩ := hfull hge
      exact ⟨by rw [htbooth, hcb, hwbooth], hkept c' hne (congrArg₂ ChannelRun.mk hhold hcq) hccar'⟩

/-- Settles O35. -/
theorem micOffWithdrawsOrCrosses : Obligations.MicOffWithdrawsOrCrosses := by
  intro s b d hacc hm hs hd
  have hexec : exec (.micOff b d) s = .next ((s.micOff b d).post .desk
      ⟨Code.micOff, .done, [f1 ((s.micOff b d).lamp b d).code]⟩) :=
    exec_deskRule (i := .micOff b d) (rule := fun s => ⟨s.micOff b d, .done⟩) rfl hacc rfl hs hd rfl
  refine ⟨fun hl => ⟨s.micOff b d, hexec, State.micOff_idle hm hl⟩, fun c e y c' hl ho hplan hne hr ht => ?_⟩
  have hmicOff : s.micOff b d = ((s.release b c .release).crossStart b e y).passQueue c := by
    unfold State.micOff State.giveUp
    rw [if_pos ((BoothRun.liveDesk_iff _ _).mpr ⟨c, hl⟩), hl, ho]
    exact if_neg fun h => hne (Option.some.inj (hplan.symm.trans h))
  obtain ⟨n, h⟩ := State.crossed hm hr ht hs hl ho hplan hne
  rw [← hmicOff] at h
  exact ⟨s.micOff b d, n, hexec, h.only, h.wires, h.passed, h.ended, h.meter, h.desks, h.beside, h.mixer, h.law.feed,
    h.links, h.free, h.held⟩

end Sys2Proof.Machine
end

section
/-! OUTPUT moves a desk to its other channel (O36). -/

namespace Sys2Proof.Machine

open Sys2Proof

/-! ## What follows a channel passed on -/

/-- A step that leaves the channel, the booths but `b` and their turns alone keeps what has passed on. -/
theorem State.passedOn.then {s p t : State} {b c : Nat} (h : s.passedOn p b c) (hc : t.chan c = p.chan c)
    (hcar : t.carriage c = p.carriage c) (hsame : ∀ x, x ≠ b → t.booth x = p.booth x ∧ t.turn x = p.turn x)
    (hhead : ∀ e ∈ (s.chan c).queue.head?, e.booth ≠ b) : s.passedOn t b c := by
  obtain ⟨hchan, hcarriage, hgranted, hother⟩ := h
  refine ⟨hc.trans hchan, hcar.trans hcarriage, fun e he => ?_, fun x hx hxe => ?_⟩
  · rw [(hsame e.booth (hhead e he)).1, (hsame e.booth (hhead e he)).2]
    exact hgranted e he
  · rw [(hsame x hx).1, (hsame x hx).2]
    exact hother x hx hxe

theorem State.keptBeside.then {s p t : State} {c x : Nat} (h : s.keptBeside p c x) (hx : t.chan x = p.chan x)
    (hcar : t.carriage x = p.carriage x) : s.keptBeside t c x := by
  obtain ⟨hh, hq, hc⟩ := h
  exact ⟨by rw [hx, hh], by rw [hx, hq], hcar.trans hc⟩

/-! ## OUTPUT from a desk that is not live -/

theorem State.changeOutput_idle {s : State} {b d : Nat} {x : Output} (hne : (s.desk b d).output ≠ x)
    (hl : ∀ c, (s.booth b).live ≠ some (d, c)) : s.changeOutput b d x = ⟨s.outputIdle b d x, .done⟩ := by
  unfold State.changeOutput
  rw [if_neg hne, if_neg fun h => ?_]
  obtain ⟨c, hc⟩ := (BoothRun.liveDesk_iff _ _).mp h
  exact hl c hc

theorem State.changeOutput_live {s : State} {b d c : Nat} {x : Output} (hne : (s.desk b d).output ≠ x)
    (hl : (s.booth b).live = some (d, c)) : s.changeOutput b d x =
      match s.planChannel b x with
      | some c' => s.outputLive b d c c' x
      | none => ⟨s, .channelUnassigned⟩ := by
  unfold State.changeOutput
  rw [if_neg hne, if_pos ((BoothRun.liveDesk_iff _ _).mpr ⟨c, hl⟩), hl]
  cases s.planChannel b x <;> rfl

/-- R74: what OUTPUT from a desk that is not live leaves. -/
theorem State.outputIdle_leaves {s : State} (hm : s.MicLaw) (b d : Nat) (x : Output) :
    s.onlyChanges (s.outputIdle b d x) [.bdc] ∧ (s.outputIdle b d x).desk b d = { s.desk b d with output := x } ∧
      s.desksBut (s.outputIdle b d x) b d ∧ s.boothsBut (s.outputIdle b d x) b ∧
      (s.outputIdle b d x).booth b =
        (if (s.booth b).pending.map Prod.fst = some d then { s.booth b with pending := none }
        else if (s.booth b).offer.map Prod.fst = some d then { s.booth b with offer := none, offerTimer := none }
        else s.booth b) ∧
      ∀ c, ((s.outputIdle b d x).chan c).holder = (s.chan c).holder ∧ ((s.outputIdle b d x).chan c).queue =
        if (s.booth b).pending.map Prod.fst = some d then (s.chan c).queue.filter fun w => decide (w.booth ≠ b)
        else (s.chan c).queue := by
  obtain ⟨u, hu⟩ : ∃ u, u = if (s.booth b).pending.map Prod.fst = some d then s.withdraw b
    else if (s.booth b).offer.map Prod.fst = some d then s.dropOffer b else s := ⟨_, rfl⟩
  have hidle : s.outputIdle b d x = u.select b d x := by rw [hu]; rfl
  have hdesk (y z : Nat) : u.desk y z = s.desk y z := by
    rw [hu]
    (repeat' split) <;> rfl
  have hselect (y z : Nat) := State.select_desk u b d x y z
  have hu_only : s.onlyChanges u [.bdc] := by
    rw [State.onlyChanges_iff, hu]
    (repeat' split) <;> simp
  rw [hidle]
  refine ⟨hu_only.trans ?_, ?_, fun y z hk => ?_, fun y hy => ?_, ?_, fun c => ?_⟩
  · rw [State.onlyChanges_iff]
    simp
  · rw [hselect, if_pos rfl, hdesk]
  · rw [hselect, if_neg hk, hdesk]
  · rw [State.select_booth, hu]
    split
    · rw [State.withdraw_booth, if_neg hy]
    · split
      · rw [State.dropOffer_booth, if_neg hy]
      · rfl
  · rw [State.select_booth, hu]
    split
    · rw [State.withdraw_booth, if_pos rfl]
    · split
      · rw [State.dropOffer_booth, if_pos rfl]
      · rfl
  · rw [State.select_chan, hu]
    split
    · exact ⟨State.MicSound.withdraw_holder s b c, hm.sound.withdraw_queue_of b c⟩
    · split <;> exact ⟨rfl, rfl⟩

/-! ## OUTPUT from the live desk -/

/-- What OUTPUT from the live desk leaves, for both outcomes of its claim. -/
structure State.Moved (s t : State) (code : AnswerCode) (b d c c' : Nat) (x : Output) (n : Nat) : Prop where
  only : s.onlyChanges t [.mixer, .bdc, .relay, .meter, .journal, .links]
  wires : s.sameLinks t
  passed : s.passedOn t b c
  ended : s.turnEnded t b .output
  meter : s.meterBut t
  desk : t.desk b d = { s.desk b d with output := x }
  beside : ∀ y, y ≠ c → y ≠ c' → s.keptBeside t c y
  mixer : s.mixerBut t
  law : t.RelayLaw
  links : t.links = (s.releaseFlags b n).links

/-- R75: the state after the release and the selection of the other output. -/
structure State.Selected (s q : State) (b d c : Nat) (x : Output) (n : Nat) : Prop where
  only : s.onlyChanges q [.mixer, .bdc, .relay, .meter, .journal, .links]
  wires : s.sameLinks q
  sound : q.MicSound none
  law : q.RelayLaw
  booth : q.booth b = { s.booth b with live := none }
  turn : q.turn b = none
  desk : q.desk b d = { s.desk b d with output := x }
  desks : s.desksBut q b d
  passed : s.passedOn q b c
  beside : ∀ y, y ≠ c → s.keptBeside q c y
  ended : s.turnEnded q b .output
  meter : s.meterBut q
  mixer : s.mixerBut q
  runs : s.relayRuns q ((c, none) :: s.passReports c) n
  isOpen : q.meter.sitting.isOpen = s.meter.sitting.isOpen
  links : q.links = (s.releaseFlags b n).links

theorem State.selected {s : State} {b d c : Nat} (hm : s.MicLaw) (hr : s.RelayLaw) (ht : s.TurnLaw)
    (hs : s.framer.state = .onAir) (hl : (s.booth b).live = some (d, c)) (x : Output) :
    ∃ n, s.Selected (((s.release b c .output).passQueue c).select b d x) b d c x n := by
  obtain ⟨n, h⟩ := State.vacate (.refl s b) hm.sound hm.sound hr ht hs hl .output
  have hsound : ((s.release b c .output).passQueue c).MicSound none :=
    (hm.sound.release hl .output).passQueue (by rw [State.release_chan, if_pos rfl])
  have hopen : ((s.release b c .output).passQueue c).meter.sitting.isOpen = s.meter.sitting.isOpen := by
    rw [((s.release b c .output).passQueue_keeps c).sitting, State.release_isOpen]
  generalize (s.release b c .output).passQueue c = p at h hsound hopen
  have hdesk (y z : Nat) : p.desk y z = s.desk y z := by simp only [State.desk, h.desks]
  have hselect (y z : Nat) := State.select_desk p b d x y z
  have hstill : p.Still (p.select b d x) := ⟨rfl, rfl, rfl, rfl, rfl, rfl⟩
  have honly : p.onlyChanges (p.select b d x) [.mixer, .bdc, .relay, .meter, .journal, .links] := by
    rw [State.onlyChanges_iff]
    simp
  exact ⟨n,
    { only := h.only.trans honly
      wires := h.wires
      sound := hsound.congr hsound.entries (fun _ => rfl) (fun _ => rfl) (fun _ => rfl) fun _ => rfl
      law := hstill.law h.law
      booth := h.booth
      turn := h.turn
      desk := by rw [hselect, if_pos rfl, hdesk]
      desks := fun y z hk => by rw [hselect, if_neg hk, hdesk]
      passed := h.passed
      beside := h.beside
      ended := h.ended
      meter := h.meter
      mixer := h.mixer
      runs := State.relayRuns_congr (t := p) (t' := p.select b d x) ⟨rfl, rfl, rfl⟩ rfl h.runs
      isOpen := hopen
      links := h.links }⟩

/-- R75: the claim on the other channel, and an offer perhaps cancelled, after the release. -/
theorem State.Selected.moved {s q v t : State} {b d c c' n m : Nat} {x : Output} {xs : List (Nat × Option Nat)}
    (h : s.Selected q b d c x n) (hhead : ∀ e ∈ (s.chan c).queue.head?, e.booth ≠ b) (hne : c' ≠ c)
    (hc : q.Claims v b d c' x m) (hran : q.Ran v xs m) (hlike : v.LikeBut t b)
    (hdesk : t.desk b d = v.desk b d) (code : AnswerCode) :
    s.Moved t code b d c c' x (n + m) ∧ s.relayRuns t ((c, none) :: s.passReports c ++ xs) (n + m) := by
  have hcar (y : Nat) : t.carriage y = v.carriage y := by rw [hlike.same]; rfl
  have hturn (y : Nat) : t.turn y = v.turn y := by rw [hlike.same]; rfl
  have hmeter : t.meter = v.meter := by rw [hlike.same]; rfl
  have hmixer : t.mixer = v.mixer := by rw [hlike.same]; rfl
  have hjournal : t.journal = v.journal := by rw [hlike.same]; rfl
  have hother (y : Nat) (hy : y ≠ c') : t.chan y = q.chan y ∧ t.carriage y = q.carriage y :=
    ⟨(hlike.chans y).trans (hc.chans y hy).1, (hcar y).trans (hc.chans y hy).2⟩
  have htran : q.Ran t xs m := hran.still hlike.still
  have honly : v.onlyChanges t [.mixer, .bdc, .relay, .meter, .journal, .links] := by
    rw [State.onlyChanges_iff, hlike.same]
    simp
  obtain ⟨hstraps, hbanks, -⟩ := (State.onlyChanges_iff s q _).mp h.only
  refine ⟨{ only := (h.only.trans (hc.only.mono (by simp))).trans honly, wires := ?_
            passed := h.passed.then (hother c hne.symm).1 (hother c hne.symm).2
              (fun y hy => ⟨(hlike.booths y hy).trans (hc.booths y hy), (hturn y).trans (hc.turns y hy)⟩) hhead
            ended := h.ended.congr (hjournal.trans hc.keeps.journal) (by rw [hmeter, hc.keeps.sitting])
              (by rw [hmeter, hc.keeps.totals])
            meter := ?_, desk := ?_, beside := fun y hy hy' => (h.beside y hy).then (hother y hy').1 (hother y hy').2
            mixer := ?_, law := htran.law, links := ?_ }, ?_⟩
  · have hlinks : t.links = v.links := hlike.still.links
    rw [State.sameLinks_iff_wire, hlinks, (State.sameLinks_iff_wire q v).mp hc.wires]
    exact (State.sameLinks_iff_wire s q).mp h.wires
  · obtain ⟨htime, hset, htimer⟩ := (State.meterBut_iff _ _).mp h.meter
    rw [State.meterBut_iff, hmeter]
    exact ⟨hc.keeps.time.trans htime, hc.keeps.graceSetting.trans hset, hc.keeps.graceTimer.trans htimer⟩
  · rw [hdesk, ← h.desk]
    simp only [State.desk, hc.desks]
  · obtain ⟨hfeeds, hlen, hoffer⟩ := (State.mixerBut_iff _ _).mp h.mixer
    rw [State.mixerBut_iff, hmixer]
    exact ⟨hc.keeps.feeds.trans hfeeds, hc.keeps.rampLength.trans hlen, hc.keeps.offerTimeout.trans hoffer⟩
  · rw [htran.links, State.raise_links_congr h.links, State.releaseFlags, State.raise_raise]
    rfl
  · exact State.relayRuns_append h.runs (hstraps (by simp)) (hbanks (by simp)) htran.runs

/-- Settles O36. -/
theorem outputMovesTheDesk : Obligations.OutputMovesTheDesk := by
  intro s b d place x hacc hx hm hs hd
  have hexec {t : State} {code : AnswerCode} (hclaim : s.changeOutput b d x = ⟨t, code⟩) :
      exec (.output b d place) s = .next (t.post .desk ⟨Code.output, code, [f1 (t.lamp b d).code]⟩) := by
    rw [hx] at hclaim
    exact exec_deskRule (i := .output b d place) (rule := fun s => s.changeOutput b d (Output.ofPlace place)) rfl hacc rfl
      hs hd hclaim
  refine ⟨fun hsame => hexec (if_pos hsame), fun hne hl => ?_, fun hne hl hplan => ?_, fun c c' hne hl hplan hcc hr ht => ?_⟩
  · exact ⟨s.outputIdle b d x, hexec (State.changeOutput_idle hne hl), State.outputIdle_leaves hm b d x⟩
  · obtain ⟨c, hc⟩ := hl
    exact hexec (by rw [State.changeOutput_live hne hc, hplan])
  · obtain ⟨n, h⟩ := State.selected hm hr ht hs hl x
    have hout : s.changeOutput b d x =
        (((s.release b c .output).passQueue c).select b d x).claimOther b d c' x := by
      rw [State.changeOutput_live hne hl, hplan]
      rfl
    generalize ((s.release b c .output).passQueue c).select b d x = q at h hout
    have hpend := hm.sound.pending_none_of_live hl
    have hb : b ∈ Config.boothNumbers := hm.sound.booth_of_live hl
    obtain ⟨hstraps, hbanks, hframer, -⟩ := (State.onlyChanges_iff s q _).mp h.only
    have hqair : q.framer.state = .onAir := by rw [hframer (by simp)]; exact hs
    have hhead (e : DeskId) (he : e ∈ (s.chan c).queue.head?) := (hm.sound.head_idle ht hl c e he).1
    obtain ⟨hh', hq', hcar'⟩ := h.beside c' hcc
    obtain ⟨m, hclaim⟩ := State.claimChannel_claims h.sound h.law hqair hb (hm.live b d c hl)
      (hm.sound.planChannel_mem hplan) (by rw [h.booth]) (by rw [h.booth]; exact hpend) h.turn x
    by_cases hfree : (s.chan c').holder = none
    · have hqfree : (q.chan c').holder = none := hh'.trans hfree
      rw [State.claimChannel_free hqfree] at hclaim
      have hother : q.claimOther b d c' x = ⟨q.grant b d c', .done⟩ :=
        (if_pos hqfree).trans (State.claimChannel_free hqfree b d x)
      obtain ⟨hcb, hcc', hccar, hct, hran⟩ := hclaim.free hqfree
      obtain ⟨hmoved, hruns⟩ := h.moved hhead hcc hclaim hran (.refl _ b) rfl .done
      refine ⟨q.grant b d c', .done, n + m, hexec (hout.trans hother), hmoved.only, hmoved.wires, hmoved.passed,
        hmoved.ended, hmoved.meter, hmoved.desk, hmoved.beside, hmoved.mixer, hmoved.law.feed, hmoved.links,
        fun _ => ⟨rfl, fun y z hk => ?_, ?_, ?_, hccar, ?_, hruns⟩, fun hheld => absurd hfree hheld⟩
      · rw [State.grant_desk]
        exact h.desks y z hk
      · rw [hcb, h.booth]
      · rw [hcc', hq']
      · rw [hct]
        obtain ⟨htime, -⟩ := (State.meterBut_iff _ _).mp h.meter
        exact State.newTurn_same (by rw [h.desk]) (hbanks (by simp)) h.isOpen htime c'
    · have hqheld : (q.chan c').holder ≠ none := by rw [hh']; exact hfree
      obtain ⟨hct, hccar, hhold, hran, hroom, hfull⟩ := hclaim.held hqheld
      have hother : q.claimOther b d c' x =
          ⟨(q.claimChannel b d c' x).st.cancelOffer b, (q.claimChannel b d c' x).code⟩ := if_neg hqheld
      obtain ⟨v, hv⟩ : ∃ v, v = (q.claimChannel b d c' x).st := ⟨_, rfl⟩
      rw [← hv] at hclaim hct hccar hhold hran hroom hfull hother
      have hvoffer : (v.booth b).offer = (s.booth b).offer := by rw [hclaim.offer, h.booth]
      have hvdesk (y z : Nat) : v.desk y z = q.desk y z := by simp only [State.desk, hclaim.desks]
      have hkey (e : Nat) (y : Output) (ho : (s.booth b).offer = some (e, y)) : deskKey b e ≠ deskKey b d := by
        obtain ⟨d', c₀, hl', hde⟩ := hm.offer b e y ho
        rw [hl] at hl'
        obtain ⟨rfl, -⟩ := Prod.mk.inj (Option.some.inj hl')
        exact fun hk => hde (deskKey_inj (hm.offering b e y ho) (hm.live b d c hl) hk).2.symm
      obtain ⟨hnone, hsome⟩ := v.cancelOffer_desks b
      rw [hvoffer] at hnone hsome
      have hkeep (y z : Nat) (hk : ∀ e w, (s.booth b).offer = some (e, w) → deskKey y z ≠ deskKey b e) :
          (v.cancelOffer b).desk y z = v.desk y z := by
        cases ho : (s.booth b).offer with
        | none => simp only [State.desk, hnone ho]
        | some o => exact (hsome o.1 o.2 ho).2 y z (hk o.1 o.2 ho)
      obtain ⟨hmoved, hruns⟩ := h.moved hhead hcc hclaim hran (v.cancelOffer_likeBut b)
        (hkeep b d fun e y ho => (hkey e y ho).symm) (q.claimChannel b d c' x).code
      rw [List.append_nil] at hruns
      have htbooth := v.cancelOffer_booth (b := b) hclaim.sound.offerTimer_none
      have htchan : (v.cancelOffer b).chan c' = v.chan c' := v.cancelOffer_chan b c'
      have htcar : (v.cancelOffer b).carriage c' = s.carriage c' := by
        rw [State.carriage_congr (v.cancelOffer_mixer b), hccar, hcar']
      refine ⟨v.cancelOffer b, (q.claimChannel b d c' x).code, n + m, hexec (hout.trans hother), hmoved.only,
        hmoved.wires, hmoved.passed, hmoved.ended, hmoved.meter, hmoved.desk, hmoved.beside, hmoved.mixer,
        hmoved.law.feed, hmoved.links, fun hf => absurd hf hfree, fun _ => ⟨?_, htcar, hruns, fun e y ho => ?_,
          fun y z hk ho => ?_, fun hlt => ⟨?_, ?_, ?_⟩, fun hge => ⟨?_, ?_, ?_, ?_, htcar⟩⟩⟩
      · rw [State.turn_congr (v.cancelOffer_meter b), hct, h.turn]
      · rw [(hsome e y ho).1, hvdesk, h.desks b e (hkey e y ho)]
      · rw [hkeep y z ho, hvdesk, h.desks y z hk]
      · rw [State.claimChannel_waits hqheld (by rw [hq']; exact hlt)]
      · rw [htbooth, (hroom (by rw [hq']; exact hlt)).1, h.booth]
      · rw [htchan]
        exact congrArg₂ ChannelRun.mk (hhold.trans hh') ((hroom (by rw [hq']; exact hlt)).2.trans (by rw [hq']))
      · rw [State.claimChannel_full hqheld (by rw [hq']; exact hge)]
      · rw [htbooth, (hfull (by rw [hq']; exact hge)).1, h.booth]
        exact congrArg (fun p => (⟨none, p, none, none⟩ : BoothRun)) hpend
      · rw [htchan, hhold, hh']
      · rw [htchan, (hfull (by rw [hq']; exact hge)).2, hq']

end Sys2Proof.Machine
end

section
/-! LIVE_RESET (O40): the releases of the desks interleave with the flags of their turns. -/

namespace Sys2Proof

open Machine

/-! ## Tables equal record by record -/

/-- Canonical tables with the same records are equal. -/
theorem Table.eq_of_fetch? {α : Type} {t u : Table α} (ht : Rising t) (hu : Rising u)
    (h : ∀ k, Table.fetch? t k = Table.fetch? u k) : t = u := by
  have hnd {x : Table α} (hx : Rising x) : (x.map Prod.fst).Nodup :=
    (List.pairwise_map.mpr hx).imp fun hlt => Nat.ne_of_lt hlt
  have hsub {x y : Table α} (hx : Rising x) (hxy : ∀ k, Table.fetch? x k = Table.fetch? y k) (e : Nat × α)
      (he : e ∈ x) : e ∈ y :=
    Table.mem_of_fetch? ((hxy e.1).symm.trans (Table.fetch?_eq_of_mem (hnd hx) he))
  have hperm : t.Perm u := (List.perm_ext_iff_of_nodup (List.Nodup.of_map _ (hnd ht)) (List.Nodup.of_map _ (hnd hu))).mpr
    fun e => ⟨hsub ht h e, hsub hu (fun k => (h k).symm) e⟩
  exact hperm.eq_of_pairwise (fun a b _ _ hab hba => absurd hab (Nat.lt_asymm hba)) ht hu

/-- Records of different numbers are written in either order. -/
theorem Table.insert_comm {α : Type} {t : Table α} (h : Rising t) {i j : Nat} (hne : i ≠ j) (v w : α) :
    Table.insert (Table.insert t i v) j w = Table.insert (Table.insert t j w) i v := by
  refine Table.eq_of_fetch? (Table.rising_insert _ _ _ (Table.rising_insert _ _ _ h))
    (Table.rising_insert _ _ _ (Table.rising_insert _ _ _ h)) fun k => ?_
  simp only [Table.fetch?_insert]
  by_cases hi : k = i
  · subst hi
    simp [hne]
  · simp [hi]

end Sys2Proof

namespace Sys2Proof.Machine

open Sys2Proof

/-! ## Raises of different flags -/

theorem FlagSet.raise_insert (f : FlagSet) (i : Nat) {n : Nat} (hn : n ≠ 0) :
    f.raise i n = { f with
      states := f.states ||| (1 <<< i), counts := Table.insert f.counts i (satAdd Config.max16 (f.count i) n) } := by
  have hpos : satAdd Config.max16 (f.count i) n ≠ 0 := by
    unfold satAdd
    rw [show Config.max16 = 65535 from rfl]
    omega
  rw [FlagSet.raise_pos f i hn, Table.store, if_neg hpos]

/-- Raises of different flags commute. -/
theorem FlagSet.raise_comm {f : FlagSet} (h : Rising f.counts) {i j : Nat} (hne : i ≠ j) (m n : Nat) :
    (f.raise i m).raise j n = (f.raise j n).raise i m := by
  by_cases hm : m = 0
  · simp [hm]
  by_cases hn : n = 0
  · simp [hn]
  have hi : (f.raise j n).count i = f.count i := by rw [FlagSet.count_raise _ _ _ _ hn, if_neg hne]
  have hj : (f.raise i m).count j = f.count j := by rw [FlagSet.count_raise _ _ _ _ hm, if_neg hne.symm]
  rw [FlagSet.raise_insert (f.raise i m) j hn, FlagSet.raise_insert (f.raise j n) i hm, hi, hj, FlagSet.raise_insert f i hm,
    FlagSet.raise_insert f j hn]
  simp only [FlagSet.mk.injEq, and_true]
  exact ⟨by rw [BitVec.or_assoc, BitVec.or_comm (1 <<< i), ← BitVec.or_assoc], Table.insert_comm h hne _ _⟩

theorem ConsoleFlag.bit_ne {f g : ConsoleFlag} (h : f ≠ g) : f.bit ≠ g.bit := by
  intro he
  exact h (by cases f <;> cases g <;> simp_all [ConsoleFlag.bit])

theorem State.raise_comm {s : State} (h : s.TablesLaw) {f g : ConsoleFlag} (hne : f ≠ g) (m n : Nat) :
    (s.raise f m).raise g n = (s.raise g n).raise f m := by
  have hr : Rising s.links.consoleFlags.counts := ((Table.wf_iff _ _).mp h.consoleCounts).1
  unfold State.raise
  simp only [State.setFlags, State.flags, State.setLinks, FlagSet.raise_comm hr (ConsoleFlag.bit_ne hne)]

theorem State.raiseCounter_raise (s : State) (f : ConsoleFlag) (g : CounterFlag) (m n : Nat) :
    (s.raise f m).raiseCounter g n = (s.raiseCounter g n).raise f m := rfl

theorem State.handedOver_tablesLaw {s : State} (h : s.TablesLaw) (n : Nat) : (s.handedOver n).TablesLaw := by
  unfold State.handedOver
  refine State.TablesLaw.raise ?_ _ _
  split
  · refine ((State.TablesLaw.raise ?_ _ _).raiseCounter _ _)
    split
    · exact h.raise _ _
    · exact h
  · split
    · exact h.raise _ _
    · exact h

/-- The flags of one more entry handed over, RELAY_LOST having been raised in between. -/
theorem State.HandedTo.links_handOver_lost {s t : State} {bodies : List EntryBody} (h : s.HandedTo t bodies)
    (htab : s.TablesLaw) {n : Nat} (hl : t.links = ((s.handedOver bodies.length).raise .relayLost n).links)
    (x : EntryBody) : (t.handOver x).links = ((s.handedOver (bodies.length + 1)).raise .relayLost n).links := by
  have hX := State.handedOver_tablesLaw htab bodies.length
  rw [State.handedOver_succ]
  by_cases hf : 1024 ≤ t.journal.entries.length
  · have hlen := h.full_iff.1 hf
    rw [State.handOver_of_full hf, if_neg (by omega), State.raise_links_congr hl, State.raise_comm hX (by decide)]
  · have hlen : bodies.length < s.room := by
      by_contra hr
      exact hf (h.full_iff.2 (by omega))
    have hlength : t.journal.entries.length = s.journal.entries.length + bodies.length := by rw [h.length]; omega
    rw [State.handOver_of_room (by omega), State.writeEntry_links, hlength, if_pos hlen]
    split
    · rw [State.raise_links_congr hl, State.raise_comm hX (by decide)]
    · split
      · rw [State.raiseCounter_links_congr (State.raise_links_congr hl _ _), State.raise_comm hX (by decide),
          State.raiseCounter_raise]
      · exact hl

/-- The flags of one more turn closed, RELAY_LOST having been raised in between. -/
theorem State.TurnsHanded.links_closeTurn_lost {s t : State} {bs : List Nat} {r : Reason} (h : s.TurnsHanded t bs r)
    (htab : s.TablesLaw) {n : Nat} (hl : t.links = ((s.handedOver (s.metered bs).length).raise .relayLost n).links)
    {b : Nat} (ht : t.turn b = s.turn b) :
    (t.closeTurn b r).links = ((s.handedOver (s.metered (bs ++ [b])).length).raise .relayLost n).links := by
  rw [State.closeTurn_links, ht, State.metered_concat]
  cases hx : s.turn b with
  | none => simpa using hl
  | some x =>
    have hlen := State.turnEntries_length s bs r
    simpa [hlen] using h.handed.links_handOver_lost htab (by rw [hlen]; exact hl) (.turn (t.turnBody b x r))

/-! ## The desks released one after another -/

/-- The stops that the releases of some booths' live desks report. -/
def State.stops (s : State) (bs : List Nat) : List (Nat × Option Nat) :=
  bs.filterMap fun b => (s.booth b).live.map fun x => (x.2, none)

/-- The live desks of the booths `bs` have been released in this order from `s` to `t`. -/
structure State.ResetTo (s t : State) (bs : List Nat) : Prop where
  straps : t.straps = s.straps
  banks : t.banks = s.banks
  framer : t.framer = s.framer
  sound : t.MicSound none
  live : ∀ b, (t.booth b).live = if b ∈ bs then none else (s.booth b).live
  turns : ∀ b, t.turn b = if b ∈ bs then none else s.turn b
  handed : s.TurnsHanded t bs .liveReset
  kept : s.relayKept t
  relay : s.RelayLaw → t.RelayLaw ∧ ∃ n, s.relayRuns t (s.stops bs) n ∧
    t.links = ((s.handedOver (s.metered bs).length).raise .relayLost n).links

theorem State.productionStop_kept (s : State) (c : Nat) : s.relayKept (s.productionStop c) := by
  unfold State.productionStop
  split
  · refine ⟨by simp [State.beginHolds, State.clearProducer], by simp [State.beginHolds, State.clearProducer], fun b => ?_⟩
    rw [State.resolve_mode]
    have : ((s.clearProducer c).beginHolds c).relayRec b = if b ∈ Config.boothNumbers then
        (s.relayRec b).holdOn c s.relay.hold else s.relayRec b := Table.fetch_fill _ _ _ _ _
    rw [this]
    split
    · unfold RelayRec.holdOn
      split <;> rfl
    · rfl
  · exact ⟨rfl, rfl, fun _ => rfl⟩

theorem State.ResetTo.step {s t : State} {bs : List Nat} {b : Nat} (h : s.ResetTo t bs) (hm : s.MicLaw) (ht : s.TurnLaw)
    (htab : s.TablesLaw) (hb : b ∉ bs) : s.ResetTo (t.releaseBooth b) (bs ++ [b]) := by
  have hlive : (t.booth b).live = (s.booth b).live := by rw [h.live, if_neg hb]
  have hturn : t.turn b = s.turn b := by rw [h.turns, if_neg hb]
  have hhanded := h.handed.closeTurn hb hturn
  unfold State.releaseBooth
  cases hl : (s.booth b).live with
  | none =>
    have hnone : s.turn b = none := by
      cases hx : s.turn b with
      | none => rfl
      | some x =>
        have := (ht.live b x hx).2
        rw [hl] at this
        cases this
    rw [State.closeTurn_of_none (hturn.trans hnone)] at hhanded
    rw [hlive, hl]
    have hmetered : s.metered (bs ++ [b]) = s.metered bs := by simp [State.metered_concat, hnone]
    have hstops : s.stops (bs ++ [b]) = s.stops bs := by simp [State.stops, hl]
    exact
      { h with
        live := fun x => by
          rw [h.live]
          by_cases hx : x = b
          · simp [hx, hl]
          · simp [hx]
        turns := fun x => by
          rw [h.turns]
          by_cases hx : x = b
          · simp [hx, hnone]
          · simp [hx]
        handed := hhanded
        relay := by rw [hmetered, hstops]; exact h.relay }
  | some p =>
    obtain ⟨d, c⟩ := p
    rw [hlive, hl]
    have hair : t.framer.state = .onAir := by
      rw [h.framer]
      by_contra hn
      rw [(hm.quiet hn).1 b] at hl
      cases hl
    have hstops : s.stops (bs ++ [b]) = s.stops bs ++ [(c, none)] := by simp [State.stops, hl]
    have hclosed : s.TurnsHanded (t.turnClosed b c .liveReset) (bs ++ [b]) .liveReset :=
      State.TurnsHanded.closeTurn (h.handed.congr (by simp) (by simp) (by simp) (by simp)) hb
        ((State.turn_congr (by simp) b).trans hturn)
    have hkeeps := t.release_keeps b c .liveReset
    have hsame := t.turnClosed_sameRelay b c .liveReset
    have hrec (x : Nat) := State.relayRec_congr hsame.relay x
    obtain ⟨hfl, hhold, hmode⟩ := h.kept
    obtain ⟨hfl', hhold', hmode'⟩ := (t.turnClosed b c .liveReset).productionStop_kept c
    exact
      { straps := by simp [h.straps]
        banks := by simp [h.banks]
        framer := by simp [h.framer]
        sound := h.sound.release (hlive.trans hl) .liveReset
        live := fun x => by
          rw [State.release_booth]
          by_cases hx : x = b
          · simp [hx]
          · simp [hx, h.live]
        turns := fun x => by
          rw [State.release_turn]
          by_cases hx : x = b
          · simp [hx]
          · simp [hx, h.turns]
        handed := hclosed.congr hkeeps.journal hkeeps.time hkeeps.sitting hkeeps.totals
        kept := ⟨hfl'.trans ((congrArg Relay.floorLang hsame.relay).trans hfl),
          hhold'.trans ((congrArg Relay.hold hsame.relay).trans hhold),
          fun x => (hmode' x).trans ((congrArg RelayRec.mode (hrec x)).trans (hmode x))⟩
        relay := fun hr => by
          obtain ⟨hlaw, n, hruns, hlinks⟩ := h.relay hr
          obtain ⟨m, hran⟩ := State.release_ran hlaw h.sound.producing hair b c .liveReset
          have hback : (t.turnClosed b c .liveReset).SameRelay t := ⟨hsame.straps.symm, hsame.banks.symm, hsame.relay.symm⟩
          have hclosedLinks : (t.turnClosed b c .liveReset).links =
              ((s.handedOver (s.metered (bs ++ [b])).length).raise .relayLost n).links :=
            State.TurnsHanded.links_closeTurn_lost (h.handed.congr (by simp) (by simp) (by simp) (by simp)) htab
              (by simpa using hlinks) ((State.turn_congr (by simp) b).trans hturn)
          refine ⟨hran.law, n + m, ?_, ?_⟩
          · rw [hstops]
            exact State.relayRuns_append hruns h.straps h.banks (State.relayRuns_congr hback rfl hran.runs)
          · rw [hran.links, State.raise_links_congr hclosedLinks, State.raise_raise] }

theorem State.ResetTo.foldl {s : State} (hm : s.MicLaw) (ht : s.TurnLaw) (htab : s.TablesLaw) (bs : List Nat) {t : State}
    {pre : List Nat} (h : s.ResetTo t pre) (hnd : (pre ++ bs).Nodup) :
    s.ResetTo (bs.foldl State.releaseBooth t) (pre ++ bs) := by
  induction bs generalizing t pre with
  | nil => simpa using h
  | cons b bs ih =>
    have hassoc : pre ++ b :: bs = pre ++ [b] ++ bs := by simp
    have hb : b ∉ pre := fun hin => (List.nodup_append.1 hnd).2.2 b hin b (by simp) rfl
    rw [hassoc] at hnd ⊢
    exact ih (h.step hm ht htab hb) hnd

theorem State.liveReset_resetTo {s : State} (hm : s.MicLaw) (ht : s.TurnLaw) (htab : s.TablesLaw) :
    s.ResetTo s.liveReset Config.boothNumbers := by
  have hclear : s.ResetTo s.clearWaits [] :=
    { straps := rfl, banks := rfl, framer := rfl
      sound := hm.sound.clearWaits
      live := fun b => by rw [hm.sound.clearWaits_booth]; rfl
      turns := fun _ => rfl
      handed := (State.TurnsHanded.refl s .liveReset).congr rfl rfl rfl rfl
      kept := ⟨rfl, rfl, fun _ => rfl⟩
      relay := fun hr => ⟨hr.congr rfl rfl rfl, 0, ⟨rfl, rfl⟩, by simp [State.metered]⟩ }
  exact hclear.foldl hm ht htab Config.boothNumbers (by simpa using boothNumbers_nodup)

/-- A booth's end of production leaves the mixer's feeds and settings, the meter's clock and the return grace alone. -/
theorem State.liveReset_mixerBut (s : State) : s.mixerBut s.liveReset ∧ s.meterBut s.liveReset := by
  have hrelease (t : State) (b : Nat) : t.mixerBut (t.releaseBooth b) ∧ t.meterBut (t.releaseBooth b) := by
    unfold State.releaseBooth
    split
    · rw [State.mixerBut_iff, State.meterBut_iff]
      simp
    · exact ⟨rfl, rfl⟩
  rw [State.mixerBut_iff, State.meterBut_iff]
  unfold State.liveReset
  refine List.foldlRecOn (motive := fun t : State => (t.mixer.feeds = s.mixer.feeds ∧ t.mixer.rampLength = s.mixer.rampLength ∧
      t.mixer.offerTimeout = s.mixer.offerTimeout) ∧ t.meter.time = s.meter.time ∧
      t.meter.graceSetting = s.meter.graceSetting ∧ t.meter.graceTimer = s.meter.graceTimer) _ _
    ⟨⟨rfl, rfl, rfl⟩, rfl, rfl, rfl⟩ fun t ih b _ => ?_
  obtain ⟨hmix, hmet⟩ := hrelease t b
  rw [State.mixerBut_iff] at hmix
  rw [State.meterBut_iff] at hmet
  obtain ⟨⟨h1, h2, h3⟩, h4, h5, h6⟩ := ih
  obtain ⟨g1, g2, g3⟩ := hmix
  obtain ⟨g4, g5, g6⟩ := hmet
  exact ⟨⟨g1.trans h1, g2.trans h2, g3.trans h3⟩, g4.trans h4, g5.trans h5, g6.trans h6⟩

theorem State.liveReset_desk {s : State} (h : s.TablesLaw) (b d : Nat) :
    s.liveReset.desk b d = { s.desk b d with refused := false } := by
  have hrelease (t : State) (x : Nat) : (t.releaseBooth x).bdc.desks = t.bdc.desks := by
    unfold State.releaseBooth
    split
    · exact t.release_desks _ _ _
    · rfl
  have hdesks : s.liveReset.bdc.desks = s.clearWaits.bdc.desks := by
    unfold State.liveReset
    exact foldl_keeps State.releaseBooth (fun t => t.bdc.desks) hrelease _ _
  have hsame : s.liveReset.desk b d = s.clearWaits.desk b d := congrArg (fun x => Table.fetch ({} : Desk) x (deskKey b d)) hdesks
  exact hsame.trans (State.clearWaits_desk h.desks b d)

theorem State.MicSound.carriage_cleared {s : State} {skip : Option Nat} (h : s.MicSound skip) {c : Nat}
    (hc : s.chan c = {}) : s.carriage c = ⟨none, none⟩ := by
  have hlive : (s.carriage c).live = none := by rw [h.carriage, hc]
  have hramp : (s.carriage c).ramp = none := by
    cases hr : (s.carriage c).ramp with
    | none => rfl
    | some r =>
      have := h.ramp c r hr
      rw [hlive] at this
      cases this
  exact congrArg₂ Carriage.mk hlive hramp

/-- Settles O40. -/
theorem liveResetClearsTheDesks : Obligations.LiveResetClearsTheDesks := by
  intro s hrec hm ht htab
  have h := State.liveReset_resetTo hm ht htab
  have hchan (c : Nat) := hm.sound.liveReset_chan (c := c)
  obtain ⟨hmix, hmet⟩ := s.liveReset_mixerBut
  refine ⟨s.liveReset, exec_reply (i := .liveReset) rfl (accepts_of_receives rfl hrec rfl) rfl, ?_, ?_,
    hm.sound.liveReset_booth, hchan, State.liveReset_desk htab, fun c => h.sound.carriage_cleared (hchan c),
    fun c => ?_, h.kept, hmix, fun b => ?_, hmet, h.handed.sitting, h.handed.totals, h.handed.handed.journal, fun hr => ?_⟩
  · rw [State.onlyChanges_iff]
    simp
  · rw [State.sameLinks_iff_wire]
    simp
  · rw [h.sound.producer, hchan]
    rfl
  · rw [h.turns]
    split
    · rfl
    · next hb =>
      cases hx : s.turn b with
      | none => rfl
      | some x => exact absurd (hm.sound.booth_of_live (ht.live b x hx).2) hb
  · obtain ⟨hlaw, n, hruns, hlinks⟩ := h.relay hr
    exact ⟨n, hruns, hlaw.feed, hlinks⟩

end Sys2Proof.Machine
end

section
/-! A plan taken: the turns that the carry-over ends, and what else R26, R36 and R37 leave. -/

namespace Sys2Proof.Machine

open Sys2Proof

/-! ## The turns that the carry-over ends -/

/-- R86: an outcome that ends the desk's turn: a release, or another channel. -/
def Carry.moves (x : Carry) : Bool := decide (x.new ≠ some x.old)

/-- The booths of the outcomes that end a turn. -/
def movers (xs : List Carry) : List Nat := (xs.filter Carry.moves).map Carry.booth

theorem movers_concat (xs : List Carry) (x : Carry) :
    movers (xs ++ [x]) = if x.moves then movers xs ++ [x.booth] else movers xs := by
  unfold movers
  rw [List.filter_append, List.filter_cons, List.filter_nil]
  split <;> simp

theorem movers_subset {xs : List Carry} {b : Nat} (h : b ∈ movers xs) : b ∈ xs.map Carry.booth :=
  List.map_subset _ List.filter_sublist.subset h

/-- R86: an outcome that ends a turn hands it over; the other outcomes leave meter, journal and links alone. -/
theorem State.TurnsHanded.reportCarry {s t : State} {bs : List Nat} (h : s.TurnsHanded t bs .switch)
    (hl : t.links = (s.handedOver (s.metered bs).length).links) {x : Carry} (hx : x.booth ∉ bs)
    (ht : t.turn x.booth = s.turn x.booth) :
    s.TurnsHanded (t.reportCarry x) (if x.moves then bs ++ [x.booth] else bs) .switch ∧
      (t.reportCarry x).links =
        (s.handedOver (s.metered (if x.moves then bs ++ [x.booth] else bs)).length).links := by
  unfold State.reportCarry
  cases hn : x.new with
  | none =>
    have hmoves : x.moves = true := by simp [Carry.moves, hn]
    rw [if_pos hmoves]
    have hturn : (t.leaveOld x.old).turn x.booth = s.turn x.booth := (State.turn_congr (by simp) _).trans ht
    have hleft : s.TurnsHanded (t.leaveOld x.old) bs .switch := h.congr (by simp) (by simp) (by simp) (by simp)
    exact ⟨hleft.closeTurn hx hturn, hleft.links_closeTurn (by simpa using hl) hturn⟩
  | some c =>
    dsimp only
    by_cases hc : c = x.old
    · have hmoves : x.moves = false := by simp [Carry.moves, hn, hc]
      rw [if_pos hc, if_neg (by simp [hmoves])]
      exact ⟨h.congr (by simp) (by simp) (by simp) (by simp), by simpa using hl⟩
    · have hmoves : x.moves = true := by simp [Carry.moves, hn, hc]
      rw [if_neg hc, if_pos hmoves]
      have hturn : ((t.leaveOld x.old).mixGrant c ⟨x.booth, x.desk⟩).turn x.booth = s.turn x.booth :=
        (State.turn_congr (by simp) _).trans ht
      have hleft : s.TurnsHanded ((t.leaveOld x.old).mixGrant c ⟨x.booth, x.desk⟩) bs .switch :=
        h.congr (by simp) (by simp) (by simp) (by simp)
      have hclosed := hleft.closeTurn hx hturn
      have hlinks := hleft.links_closeTurn (by simpa using hl) hturn
      exact ⟨hclosed.congr (by simp) (by simp) (by simp) (by simp), by simpa using hlinks⟩

theorem State.TurnsHanded.foldl_reportCarry {s : State} (xs : List Carry) {t : State} {pre : List Carry}
    (h : s.TurnsHanded t (movers pre) .switch) (hl : t.links = (s.handedOver (s.metered (movers pre)).length).links)
    (hnd : ((pre ++ xs).map Carry.booth).Nodup) (ht : ∀ x ∈ xs, t.turn x.booth = s.turn x.booth) :
    s.TurnsHanded (xs.foldl State.reportCarry t) (movers (pre ++ xs)) .switch ∧
      (xs.foldl State.reportCarry t).links = (s.handedOver (s.metered (movers (pre ++ xs))).length).links := by
  induction xs generalizing t pre with
  | nil => simpa using ⟨h, hl⟩
  | cons x xs ih =>
    have hassoc : pre ++ x :: xs = pre ++ [x] ++ xs := by simp
    rw [List.map_append, List.map_cons] at hnd
    obtain ⟨-, hnd2, hdisj⟩ := List.nodup_append.1 hnd
    have hx : x.booth ∉ movers pre := fun hin => hdisj _ (movers_subset hin) x.booth (by simp) rfl
    have hturn := ht x (by simp)
    obtain ⟨h1, h2⟩ := h.reportCarry hl hx hturn
    rw [← movers_concat] at h1 h2
    rw [List.foldl_cons, hassoc]
    refine ih h1 h2 (by rw [← hassoc, List.map_append, List.map_cons]; exact hnd) fun y hy => ?_
    have hne : y.booth ≠ x.booth := fun he => (List.nodup_cons.1 hnd2).1 (he ▸ List.mem_map_of_mem hy)
    rw [State.reportCarry_turn, if_neg hne]
    exact ht y (by simp [hy])

/-- R86: the booths whose turns a carry-over ends are those whose live desk has changed. -/
theorem State.movers_carries {s : State} (h : s.MicSound none) :
    movers (s.clearWaits.carries Config.boothNumbers []) = s.movedBooths s.carryOver := by
  unfold movers State.movedBooths
  rw [State.carries_boothNumbers, List.filter_filterMap, List.map_filterMap, ← List.filterMap_eq_filter]
  refine List.filterMap_congr fun b hb => ?_
  have hguard : Option.guard (fun b => decide ((s.carryOver.booth b).live ≠ (s.booth b).live)) b =
      if (s.carryOver.booth b).live = (s.booth b).live then none else some b := by
    simp [Option.guard]
  rw [hguard, State.carryOver_booth, if_pos hb, h.clearWaits_booth]
  cases hl : (s.booth b).live with
  | none => simp
  | some l =>
    obtain ⟨d, c⟩ := l
    cases hc : s.clearWaits.carriedTo b with
    | none => simp [Carry.moves]
    | some c' => by_cases he : c' = c <;> simp [Carry.moves, he]

/-- R86, R112: the carry-over hands over the turns of the booths whose live desk changes, booths ascending. `s` is a state
with the same meter and journal and the flags so far. -/
theorem State.carryOver_handed {s z : State} (h : z.MicSound none) (hm : z.meter = s.meter) (hj : z.journal = s.journal)
    (hl : z.links = s.links) : s.TurnsHanded z.carryOver (z.movedBooths z.carryOver) .switch ∧
      z.carryOver.links = (s.handedOver (s.metered (z.movedBooths z.carryOver)).length).links := by
  have hstart : s.TurnsHanded z.carryStart (movers []) .switch :=
    (State.TurnsHanded.refl s .switch).congr (by simp [hj]) (by simp [hm]) (by simp [hm]) (by simp [hm])
  have hfold := hstart.foldl_reportCarry (z.clearWaits.carries Config.boothNumbers [])
    (by simp [State.metered, movers, hl]) (by simpa using z.clearWaits.carries_nodup)
    fun x _ => State.turn_congr (by simp [hm]) _
  rwa [← State.carryOver_eq, List.nil_append, State.movers_carries h] at hfold

/-! ## Orphaned presets -/

theorem State.presetGone_eq (s : State) (r : Receiver) : s.presetGone r = s.orphans r := by
  unfold State.presetGone State.orphans
  cases r.hire with
  | none => simp
  | some h =>
    cases s.plan with
    | none => simp
    | some p =>
      by_cases hz : h.preset = 0
      · simp [hz]
      · simp [Bank.carries, Bank.enabledChannels, hz, List.not_any_eq_all_not]

end Sys2Proof.Machine
end

section
/-! The plan taken at the end of the settle interval (O14) and at a switch (O16). -/

namespace Sys2Proof.Machine

open Sys2Proof

/-! ## What the carry-over leaves of the settings -/

/-- The relay settings and the mixer's feeds and settings. -/
structure State.SameSettings (s t : State) : Prop where
  floorLang : t.relay.floorLang = s.relay.floorLang
  hold : t.relay.hold = s.relay.hold
  feeds : t.mixer.feeds = s.mixer.feeds
  rampLength : t.mixer.rampLength = s.mixer.rampLength
  offerTimeout : t.mixer.offerTimeout = s.mixer.offerTimeout

theorem State.SameSettings.of_eq {s t : State} (hr : t.relay = s.relay) (hm : t.mixer = s.mixer) : s.SameSettings t := by
  constructor <;> simp [hr, hm]

theorem State.SameSettings.trans {s t u : State} (h : s.SameSettings t) (h' : t.SameSettings u) : s.SameSettings u where
  floorLang := h'.floorLang.trans h.floorLang
  hold := h'.hold.trans h.hold
  feeds := h'.feeds.trans h.feeds
  rampLength := h'.rampLength.trans h.rampLength
  offerTimeout := h'.offerTimeout.trans h.offerTimeout

theorem State.leaveOld_sameSettings (s : State) (c : Nat) : s.SameSettings (s.leaveOld c) := by
  unfold State.leaveOld
  split
  · exact ⟨rfl, rfl, rfl, rfl, rfl⟩
  · exact .of_eq rfl rfl

theorem State.mixGrant_sameSettings (s : State) (c : Nat) (w : DeskId) : s.SameSettings (s.mixGrant c w) :=
  ⟨rfl, rfl, rfl, rfl, rfl⟩

theorem State.setProducer_sameSettings (s : State) (c b : Nat) : s.SameSettings (s.setProducer c b) :=
  ⟨rfl, rfl, rfl, rfl, rfl⟩

theorem State.closeTurn_sameSettings (s : State) (b : Nat) (r : Reason) : s.SameSettings (s.closeTurn b r) :=
  .of_eq (by simp) (by simp)

theorem State.openTurn_sameSettings (s : State) (b d c : Nat) : s.SameSettings (s.openTurn b d c) :=
  .of_eq (by simp) (by simp)

theorem State.reportCarry_sameSettings (s : State) (x : Carry) : s.SameSettings (s.reportCarry x) := by
  unfold State.reportCarry
  split
  · exact (s.leaveOld_sameSettings _).trans (State.closeTurn_sameSettings _ _ _)
  · split
    · exact (s.mixGrant_sameSettings _ _).trans (State.setProducer_sameSettings _ _ _)
    · exact (s.leaveOld_sameSettings _).trans <| (State.mixGrant_sameSettings _ _ _).trans <|
        (State.closeTurn_sameSettings _ _ _).trans <| (State.openTurn_sameSettings _ _ _ _).trans <|
        State.setProducer_sameSettings _ _ _

theorem State.carryOver_sameSettings (s : State) : s.SameSettings s.carryOver := by
  have hstart : s.SameSettings s.carryStart := .of_eq (by simp) (by simp)
  rw [State.carryOver_eq]
  exact List.foldlRecOn (motive := fun t : State => s.SameSettings t) _ _ hstart fun t ht x _ =>
    ht.trans (t.reportCarry_sameSettings x)

/-- R99: the end of holds leaves every mode, and NO_RELAY where it was. -/
theorem State.endHolds_rec (s : State) (which : Nat → Bool) (b : Nat) :
    ((s.endHolds which).relayRec b).mode = (s.relayRec b).mode ∧
      (((s.endHolds which).relayRec b).status = .noRelay ↔ (s.relayRec b).status = .noRelay) := by
  have hrec : (s.endHolds which).relayRec b = if b ∈ Config.boothNumbers then
      (if which b then (s.relayRec b).unhold else s.relayRec b) else s.relayRec b := Table.fetch_fill _ _ _ _ _
  rw [hrec]
  split
  · split
    · exact ⟨(State.RelaySound.unhold_eq _).2.2.1, unhold_noRelay _⟩
    · exact ⟨rfl, Iff.rfl⟩
  · exact ⟨rfl, Iff.rfl⟩

theorem State.planFlags_links_congr {s t : State} (h : t.links = s.links) (lost orphaned : Nat) :
    (t.planFlags lost orphaned).links = (s.planFlags lost orphaned).links :=
  State.raiseCounter_links_congr (State.raise_links_congr (State.raise_links_congr h _ _) _ _) _ _

/-! ## A plan taken -/

/-- From `s` to `w` a frame has begun in which a plan is taken: the ramps have advanced and the feeds are fixed, the
records of the other blocks are as they were. -/
structure State.FrameTaken (s w : State) : Prop where
  straps : w.straps = s.straps
  bdc : w.bdc = s.bdc
  relay : w.relay = s.relay
  meter : w.meter = s.meter
  register : w.register = s.register
  journal : w.journal = s.journal
  feedSource : w.mixer.feedSource = s.mixer.feedSource
  rampLength : w.mixer.rampLength = s.mixer.rampLength
  offerTimeout : w.mixer.offerTimeout = s.mixer.offerTimeout
  ramps : s.rampsAdvanced w
  feed : ∀ b ∈ Config.boothNumbers, w.feed b = w.feedSignal b

/-- R37: what a plan taken leaves from `s` on. -/
structure State.PlanTook (s t : State) : Prop where
  placed : t.relayPlaced
  kept : s.relayKept t
  reported : s.RelayLaw → t.sourcesReported
  marked : s.orphansMarked t
  feeds : s.feedsFixed t
  ramps : ∀ c, (t.carriage c).ramp = none
  rampLength : t.mixer.rampLength = s.mixer.rampLength
  offerTimeout : t.mixer.offerTimeout = s.mixer.offerTimeout

/-- The state in which a plan taken carries the live desks over. -/
def State.cleared (w : State) : State := w.dropRamps.endAllHolds

theorem State.planTaken_eq (w : State) : w.planTaken = w.cleared.carryOver.resolve.markOrphans := rfl

theorem State.MicSound.cleared {w : State} {skip : Option Nat} (h : w.MicSound skip) : w.cleared.MicSound skip :=
  h.dropRamps.endAllHolds

/-- R37, R101: the carry-over and the resolution of a plan taken see the modes, and who is in NO_RELAY, as they were. -/
theorem State.cleared_rec (w : State) (b : Nat) : (w.cleared.carryOver.relayRec b).mode = (w.relayRec b).mode ∧
    ((w.cleared.carryOver.relayRec b).status = .noRelay ↔ (w.relayRec b).status = .noRelay) := by
  have hrec : w.cleared.carryOver.relayRec b = w.cleared.relayRec b := by
    simp only [State.relayRec, w.cleared.carryOver_relayBooths.1]
  rw [hrec]
  exact w.dropRamps.endHolds_rec _ b

theorem State.orphans_congr {s t : State} (h : t.banks = s.banks) (r : Receiver) : t.orphans r = s.orphans r := by
  simp only [State.orphans, State.plan_congr h]

theorem State.planTaken_orphans (w : State) (r : Receiver) :
    w.planTaken.orphans r = w.cleared.carryOver.resolve.orphans r := State.orphans_congr (by simp [State.planTaken_eq]) r

theorem State.markOrphans_links (s : State) : s.markOrphans.links =
    ((s.raise .orphaned s.orphanCount).raiseCounter .orphaned s.orphanCount).links :=
  State.raiseCounter_links_congr (State.raise_links_congr (by simp) _ _) _ _

theorem State.planTaken_register (w : State) : w.planTaken.register = { w.register with
    slots := w.register.slots.map fun e =>
      (e.1, if w.cleared.carryOver.resolve.orphans e.2 then { e.2 with orphaned := true } else e.2) } := by
  simp [State.planTaken_eq, State.markOrphans, State.cleared]

theorem State.FrameTaken.planTook {s w : State} (h : s.FrameTaken w) (hm : w.MicSound none)
    (hs : w.framer.state = .onAir) : s.PlanTook w.planTaken := by
  have hair : w.cleared.carryOver.framer.state = .onAir := by simpa [State.cleared] using hs
  have hset : w.cleared.SameSettings w.cleared.carryOver := w.cleared.carryOver_sameSettings
  have hmixer : w.planTaken.mixer = w.cleared.carryOver.resolve.mixer := by simp [State.planTaken_eq]
  have hrelay : w.planTaken.relay = w.cleared.carryOver.resolve.relay := by simp [State.planTaken_eq]
  have hrec (b : Nat) : w.planTaken.relayRec b = w.cleared.carryOver.resolve.relayRec b := State.relayRec_congr hrelay b
  refine ⟨?_, ⟨?_, ?_, fun b => ?_⟩, fun hlaw => ?_, ⟨?_, ?_⟩, ⟨w, h.straps, by simp, by simp, h.bdc, h.feedSource, h.ramps,
    fun b hb => ?_⟩, fun c => ?_, ?_, ?_⟩
  · have hsame : w.cleared.carryOver.resolve.SameRelay w.planTaken :=
      ⟨by simp [State.planTaken_eq], by simp [State.planTaken_eq], hrelay⟩
    rw [State.relayPlaced_view, hsame.view, ← State.relayPlaced_view]
    exact State.resolve_relayPlaced hair hm.cleared.carryOver.producing
  · rw [hrelay, State.resolve_floorLang, hset.floorLang, ← h.relay]
    rfl
  · rw [hrelay, State.resolve_hold, hset.hold, ← h.relay]
    rfl
  · rw [hrec, State.resolve_mode, (w.cleared_rec b).1, State.relayRec_congr h.relay]
  · have hsound : w.RelaySound := hlaw.sound.congr (State.relayRec_congr h.relay) fun b => by
      simp only [State.feedSource, h.feedSource]
    exact (State.RelayLaw.planTaken hsound hs).feed
  · rw [w.planTaken_register, ← h.register]
  · rw [← h.register]
    rw [w.planTaken_register]
    refine List.map_congr_left fun e _ => ?_
    rw [State.presetGone_eq, w.planTaken_orphans]
  · rw [← h.feed b hb]
    simp only [State.feed, hmixer, State.resolve_feeds, hset.feeds]
    rfl
  · have hcar : w.planTaken.carriage c = w.cleared.carryOver.carriage c := by
      simp only [State.carriage, hmixer, State.resolve_carriages]
    rw [hcar, (hm.cleared.carryOver_copies c).1]
  · rw [hmixer, State.resolve_rampLength, hset.rampLength, ← h.rampLength]
    rfl
  · rw [hmixer, State.resolve_offerTimeout, hset.offerTimeout, ← h.offerTimeout]
    rfl

/-- R93, R151: the flags that a plan taken raises after those of the carry-over. -/
theorem State.FrameTaken.planTaken_links {s w : State} (h : s.FrameTaken w) (hs : w.framer.state = .onAir) :
    w.planTaken.links =
      (w.cleared.carryOver.planFlags (s.lostTo w.planTaken) (s.orphanedTo w.planTaken)).links := by
  have hair : w.cleared.carryOver.framer.state = .onAir := by simpa [State.cleared] using hs
  have hlost : w.cleared.carryOver.lostTo w.cleared.carryOver.resolve = s.lostTo w.planTaken := by
    rw [State.lostTo_congr fun b => (w.cleared_rec b).2,
      State.lostTo_congr (s := s) (u := w) fun b => by rw [State.relayRec_congr h.relay]]
    refine congrArg List.length (List.filter_congr fun b _ => ?_)
    rw [State.relayRec_congr (s := w.cleared.carryOver.resolve) (t := w.planTaken) (by simp [State.planTaken_eq])]
  have horphaned : w.cleared.carryOver.resolve.orphanCount = s.orphanedTo w.planTaken := by
    have hslots : w.cleared.carryOver.resolve.register = s.register := by simpa [State.cleared] using h.register
    rw [State.orphanCount, State.orphanedTo, hslots]
    refine congrArg List.length (List.filter_congr fun e _ => ?_)
    rw [State.newlyOrphaned, State.presetGone_eq, w.planTaken_orphans]
  rw [← hlost, ← horphaned]
  rw [State.planTaken_eq, State.markOrphans_links, State.planFlags]
  exact State.raiseCounter_links_congr (State.raise_links_congr (State.resolve_links_lost hair) _ _) _ _

/-- R47, R48: the slots of a TRANSITION frame. -/
theorem State.frameSlots_transition (s : State) :
    s.frameSlots true false = (List.range s.slots).map (fun i => if i < 2 then .floor else .silence) :=
  List.map_congr_left fun i _ => s.slotSignal_transition i

/-- R37: the plan taken keeps what the frame that began shows. -/
theorem State.newFrame_transition_congr {s t : State} (hs : t.straps = s.straps) (hb : t.banks = s.banks)
    (hf : t.framer = s.framer) (hl : t.relay.floorLang = s.relay.floorLang) (m : Bool) :
    t.newFrame true false m = s.newFrame true false m := by
  have hslots : t.slots = s.slots := by simp only [State.slots, hs]
  have hentry (c : Nat) : t.directoryEntry c = s.directoryEntry c := by
    simp only [State.directoryEntry, hl, State.enabled_congr hb, State.planEntry_congr hb, State.planPlace,
      State.plan_congr hb]
  have hheader : t.header true false = s.header true false := by
    simp only [State.header, State.headerFields, State.headerFlags, hf, hs, funext hentry]
  simp only [State.newFrame, hheader, hf, State.frameSlots_transition, hslots]

/-- R26, R37: the frame that begins as a plan is taken, as the state after it gives it. -/
theorem State.transition_frame {w : State} {m : Bool} (hframe : w.framer.frame = some (w.newFrame true false m)) :
    w.planTaken.framer.frame = some (w.planTaken.newFrame true false m) := by
  have hl : w.planTaken.relay.floorLang = w.relay.floorLang := by
    simp only [State.planTaken_eq, State.markOrphans_relay, State.resolve_floorLang]
    exact w.cleared.carryOver_sameSettings.floorLang
  rw [State.newFrame_transition_congr (by simp) (by simp) (by simp) hl]
  simpa using hframe

/-! ## The settle interval's end -/

/-- R85: with no live desk the carry-over has nothing to report. -/
theorem State.carryOver_of_idle {s : State} (h : s.MicSound none) (hl : ∀ b, (s.booth b).live = none) :
    s.carryOver = s.carryStart := by
  have hno : s.clearWaits.carries Config.boothNumbers [] = [] := by
    rw [State.carries_boothNumbers, List.filterMap_eq_nil_iff]
    intro b _
    rw [h.clearWaits_booth, hl]
    rfl
  rw [State.carryOver_eq, hno]
  rfl

/-- The first frame of a plan started, and its flag (R26). -/
def State.startFrame (s : State) : State := ((s.setFramer s.framer.started).beginFrame true false true).raise .startDone 1

theorem State.startFrame_taken (s : State) : s.FrameTaken s.startFrame where
  straps := rfl
  bdc := rfl
  relay := rfl
  meter := rfl
  register := rfl
  journal := rfl
  feedSource := rfl
  rampLength := rfl
  offerTimeout := rfl
  ramps := State.rampsAdvanced_of_carriage fun _ => rfl
  feed _ hb := State.beginFrame_feed (s.setFramer s.framer.started) true false true hb

theorem LineMode.pulses_true (m : LineMode) : m.pulses true = decide (m ≠ .off) := by cases m <;> rfl

/-- Settles O14. -/
theorem settleIntervalEndsWithFirstFrame : Obligations.SettleIntervalEndsWithFirstFrame := by
  intro s
  refine ⟨fun hs => congrArg Host.Outcome.next (if_neg hs), fun hs hlt => ?_, fun hs hone hmic htab => ?_⟩
  · have htick : s.settleTick = s.setFramer { s.framer with settle := s.framer.settle - 1 } := if_neg (by omega)
    refine ⟨s.settleTick, congrArg Host.Outcome.next (if_pos hs), ?_, by rw [htick]; rfl⟩
    rw [State.onlyChanges_iff, htick]
    simp
  have htick : s.settleTick = s.startFrame.planTaken := if_pos (by omega)
  have hexec : exec .settleTick s = .next s.startFrame.planTaken :=
    (congrArg Host.Outcome.next (if_pos hs)).trans (by rw [htick])
  obtain ⟨w, hw⟩ : ∃ w, w = s.startFrame := ⟨_, rfl⟩
  have htaken : s.FrameTaken w := hw ▸ s.startFrame_taken
  have hair : w.framer.state = .onAir := by rw [hw]; rfl
  have hsound : w.MicSound none := by
    have hc : (s.setFramer s.framer.started).MicSound none := hmic.sound.congr_blocks rfl rfl rfl rfl rfl
    rw [hw]
    exact (hc.beginFrame true false true).congr_blocks rfl rfl rfl rfl rfl
  obtain ⟨hboothQ, hchanQ⟩ := ((State.micLaw_iff s).mp hmic).2.2 (by rw [hs]; decide)
  have hidle (b : Nat) : (w.cleared.booth b).live = none := by
    rw [State.booth_congr (s := s) (by simpa [State.cleared] using htaken.bdc), hboothQ]
  have hcarry : w.cleared.carryOver = w.cleared.carryStart := State.carryOver_of_idle hsound.cleared hidle
  have htook := htaken.planTook hsound hair
  have hlinks := htaken.planTaken_links hair
  have hbdc : w.planTaken.bdc = w.cleared.carryStart.bdc := by rw [State.MicSound.planTaken_bdc, ← hcarry]; rfl
  have hbooth (b : Nat) : w.planTaken.booth b = {} := by
    rw [State.booth_congr (State.MicSound.planTaken_bdc w), State.carryOver_booth]
    have hnone : (w.cleared.clearWaits.booth b).live = none := by
      rw [hsound.cleared.clearWaits_booth]
      exact hidle b
    simp only [State.cleared] at hnone
    simp [hnone]
  have hchan (c : Nat) : w.planTaken.chan c = {} := by
    refine hsound.planTaken.chan_eq_empty (fun b => by rw [hbooth]) ?_
    rw [State.chan_congr (State.MicSound.planTaken_bdc w)]
    exact (State.carryOver_chan _ c).1
  have hframer : w.planTaken.framer = { s.framer with
      state := .onAir, settle := 0, planNumber := (s.framer.planNumber + 1) % 256, fragment := 0,
      frame := some (w.planTaken.newFrame true false true) } := by
    rw [← w.transition_frame (by rw [hw]; rfl), w.planTaken_framer, hw]
    rfl
  have hmode : w.planTaken.framer.lineMode = s.framer.lineMode := by rw [hframer]
  rw [← hw] at hexec
  refine ⟨w.planTaken, w.planTaken.newFrame true false true, hexec, ?_, hframer, rfl, rfl, rfl, ?_,
    State.frameSlots_transition _, hbooth, hchan, fun c _ => hsound.planTaken.carriage_cleared (hchan c), fun b d => ?_, ?_,
    htook.placed, htook.kept, htook.reported, htook.marked, htook.feeds, htook.rampLength, htook.offerTimeout⟩
  · have hmeter : w.planTaken.meter = s.meter := by
      rw [← htaken.meter, w.planTaken_eq, hcarry]
      simp [State.cleared]
    have hjournal : w.planTaken.journal = s.journal := by
      rw [← htaken.journal, w.planTaken_eq, hcarry]
      simp [State.cleared]
    rw [State.onlyChanges_iff]
    simp only [hmeter, hjournal]
    simp [hw, State.startFrame]
  · rw [← hmode]
    exact LineMode.pulses_true _
  · have hdesk : w.planTaken.desk b d = w.cleared.clearWaits.desk b d :=
      congrArg (fun x => Table.fetch ({} : Desk) x (deskKey b d))
        ((congrArg Bdc.desks hbdc).trans (State.carryStart_desks _))
    rw [hdesk]
    have hdesks : w.cleared.bdc = s.bdc := by simpa [State.cleared] using htaken.bdc
    rw [State.clearWaits_desk (by rw [hdesks]; exact htab.desks), State.desk_congr hdesks]
  · rw [hlinks]
    refine State.planFlags_links_congr ?_ _ _
    have hstart : w.cleared.carryStart.links = w.links := by simp [State.cleared]
    rw [hcarry, hstart, hw]
    exact State.raise_links_congr (by simp) _ _

end Sys2Proof.Machine
end

section
/-! The switch taken at a frame boundary (O16), and the live desks carried over to the new plan (O17). -/

namespace Sys2Proof.Machine

open Sys2Proof

/-! ## The frame in which a switch is taken -/

/-- R36, R40: the boundary at which the switch to bank `k` is taken, up to the plan's own effects: the frame ended, the banks
exchanged, the TRANSITION frame begun and its flag raised. -/
def State.switchFrame (s : State) (k : Nat) : State :=
  (((s.endFrame.endOverride.exchangeBanks k).setFramer s.endFrame.endOverride.framer.switched).beginFrame true false
    true).raise .switchDone 1

theorem State.boundary_of_switch {s : State} {k : Nat} (hs : s.framer.state = .onAir) (ho : s.framer.override ≠ .on)
    (hk : s.framer.pendingSwitch = some k) : exec .frameBoundary s = .next (s.switchFrame k).planTaken := by
  have hexec : exec .frameBoundary s = .next s.boundary :=
    congrArg Host.Outcome.next (if_pos ((State.onAir_iff s).mpr hs))
  rcases s.boundary_cases with ⟨k', hk', -, hb⟩ | ⟨hno, -⟩
  · obtain rfl : k = k' := Option.some.inj (hk.symm.trans hk')
    exact hexec.trans (congrArg Host.Outcome.next hb)
  · exact absurd hno (not_or.mpr ⟨by simp [hk], ho⟩)

theorem State.switchFrame_taken (s : State) (k : Nat) : s.FrameTaken (s.switchFrame k) where
  straps := by simp [State.switchFrame]
  bdc := by simp [State.switchFrame]
  relay := by simp [State.switchFrame]
  meter := by simp [State.switchFrame]
  register := by simp [State.switchFrame]
  journal := by simp [State.switchFrame]
  feedSource := by simp [State.switchFrame, State.beginFrame, State.fixFeeds, State.advanceRamps]
  rampLength := by simp [State.switchFrame, State.beginFrame, State.fixFeeds, State.advanceRamps]
  offerTimeout := by simp [State.switchFrame, State.beginFrame, State.fixFeeds, State.advanceRamps]
  ramps := State.rampsAdvanced_of_carriage fun c => by
    have hbefore : (s.switchFrame k).carriage c = ((s.endFrame.endOverride.exchangeBanks k).setFramer
      s.endFrame.endOverride.framer.switched).advanceRamps.carriage c := rfl
    rw [hbefore, State.MicSound.advanceRamps_carriage, State.MicSound.advanceRamps_carriage,
      State.carriage_congr (s := s) (by simp)]
  feed _ hb := State.beginFrame_feed ((s.endFrame.endOverride.exchangeBanks k).setFramer
    s.endFrame.endOverride.framer.switched) true false true hb

theorem State.switchFrame_onAir {s : State} (hs : s.framer.state = .onAir) (k : Nat) :
    (s.switchFrame k).framer.state = .onAir := hs

theorem State.switchFrame_sound {s : State} (h : s.MicSound none) (k : Nat) : (s.switchFrame k).MicSound none := by
  have hx : (s.endFrame.endOverride.exchangeBanks k).MicSound none :=
    h.congr (h.entries_of_booths (by simp) fun j => by
      rw [State.exchangeBanks_booths]
      rfl) (State.booth_congr (by simp)) (State.chan_congr (by simp)) (State.carriage_congr (by simp))
      (State.producer_congr (by simp))
  have hf : ((s.endFrame.endOverride.exchangeBanks k).setFramer s.endFrame.endOverride.framer.switched).MicSound none :=
    hx.congr_blocks rfl rfl rfl rfl rfl
  exact (hf.beginFrame true false true).congr_blocks rfl rfl rfl rfl rfl

/-- R37, R86: the live desks as the plan taken carries them over are those before the boundary. -/
theorem State.switchFrame_booth (s : State) (k b : Nat) : (s.switchFrame k).cleared.booth b = s.booth b :=
  State.booth_congr (by simpa [State.cleared] using (s.switchFrame_taken k).bdc) b

theorem State.planTaken_booth (w : State) (b : Nat) : w.planTaken.booth b = w.cleared.carryOver.booth b :=
  State.booth_congr (State.MicSound.planTaken_bdc w) b

theorem State.switchFrame_movedBooths (s : State) (k : Nat) :
    (s.switchFrame k).cleared.movedBooths (s.switchFrame k).cleared.carryOver =
      s.movedBooths (s.switchFrame k).planTaken := by
  simp only [State.movedBooths, State.switchFrame_booth, State.planTaken_booth]

/-- R86, R112: the turns that a switch ends are handed over. -/
theorem State.switchFrame_handed {s : State} (h : s.MicSound none) (k : Nat) :
    (s.raise .switchDone 1).TurnsHanded (s.switchFrame k).cleared.carryOver (s.movedBooths (s.switchFrame k).planTaken)
        .switch ∧
      (s.switchFrame k).cleared.carryOver.links = ((s.raise .switchDone 1).handedOver
        (s.metered (s.movedBooths (s.switchFrame k).planTaken)).length).links := by
  have htaken := s.switchFrame_taken k
  have hlinks : (s.switchFrame k).cleared.links = (s.raise .switchDone 1).links := by
    have hclear : (s.switchFrame k).cleared.links = (s.switchFrame k).links := by simp [State.cleared]
    rw [hclear]
    exact State.raise_links_congr (by simp) _ _
  rw [← s.switchFrame_movedBooths k]
  exact State.carryOver_handed (s.switchFrame_sound h k).cleared
    (by simpa [State.cleared] using htaken.meter) (by simpa [State.cleared] using htaken.journal) hlinks

/-- Settles O16. -/
theorem switchTakenAtBoundary : Obligations.SwitchTakenAtBoundary := by
  intro s j k hplan hmic hs ho hk hj
  have hexec := State.boundary_of_switch hs ho hk
  obtain ⟨w, hw⟩ : ∃ w, w = s.switchFrame k := ⟨_, rfl⟩
  have htaken : s.FrameTaken w := hw ▸ s.switchFrame_taken k
  have hair : w.framer.state = .onAir := hw ▸ State.switchFrame_onAir hs k
  have hsound : w.MicSound none := hw ▸ State.switchFrame_sound hmic.sound k
  have htook := htaken.planTook hsound hair
  have hlinks := htaken.planTaken_links hair
  have hbanks (i : Nat) : w.planTaken.bank i = if i = k then { s.bank k with status := .onAir }
      else if i = j then (s.bank j).retired else s.bank i := by
    have hon : s.endFrame.endOverride.onAirBank = some j := (hplan.onAirBank_iff j).mpr hj
    have hex : w.planTaken.banks = (s.endFrame.endOverride.exchangeBanks k).banks := by simp [hw, State.switchFrame]
    rw [State.bank_congr hex, State.exchangeBanks_bank hon]
    rfl
  have hkj : j ≠ k := by
    rintro rfl
    have := (hplan.pending j).mpr hk
    rw [hj] at this
    cases this
  have hframer : w.planTaken.framer = { s.framer with
      frameNumber := (s.framer.frameNumber + 1) % 16777216
      planNumber := (s.framer.planNumber + 1) % 256
      fragment := 0
      pendingSwitch := none
      override := .off
      trailer := some [0x00, BitVec.ofNat 8 s.slots]
      frame := some (w.planTaken.newFrame true false true) } := by
    have hover : s.framer.override.atBoundary = .off := by
      cases hov : s.framer.override with
      | on => exact absurd hov ho
      | off => rfl
      | ending => rfl
    have htrailer : [0x00, BitVec.ofNat 8 s.slots] = trailerBytes false s.slots := (trailerBytes_eq false _).symm
    rw [← w.transition_frame (by rw [hw]; rfl), w.planTaken_framer, hw, htrailer, ← hover]
    rfl
  have hmode : w.planTaken.framer.lineMode = s.framer.lineMode := by rw [hframer]
  rw [← hw] at hexec
  refine ⟨w.planTaken, w.planTaken.newFrame true false true, hexec, ?_, ?_, ?_, fun i hij hik => ?_, hframer, rfl, rfl, rfl,
    ?_, State.frameSlots_transition _, fun c _ => htook.ramps c, ?_, htook.placed, htook.kept, htook.reported,
    htook.marked, htook.feeds, htook.rampLength, htook.offerTimeout⟩
  · rw [State.onlyChanges_iff]
    simp [hw, State.switchFrame]
  · rw [hbanks, if_pos rfl]
  · rw [hbanks, if_neg hkj, if_pos rfl]
    rfl
  · rw [hbanks, if_neg hik, if_neg hij]
  · rw [← hmode]
    exact LineMode.pulses_true _
  · rw [hlinks]
    refine State.planFlags_links_congr ?_ _ _
    rw [hw]
    exact (State.switchFrame_handed hmic.sound k).2

/-! ## The live desks in the new plan -/

/-- R85: the new plan has the desk in use in a present booth, and its selected output on channel `c`. -/
def State.placedOn (s t : State) (b d c : Nat) : Prop :=
  ∃ e, t.planBooth b = some e ∧ d ≤ e.desksInUse ∧ e.channelOn (s.desk b d).output = some c

theorem State.carryChannel_eq_some {s z t : State} {b d : Nat} (hplan : t.planBooth b = z.planBooth b)
    (hout : (z.desk b d).output = (s.desk b d).output) (c : Nat) :
    z.carryChannel b d = some c ↔ s.placedOn t b d c := by
  unfold State.carryChannel State.placedOn State.deskInUse State.planChannel
  rw [hplan, hout]
  cases z.planBooth b with
  | none => simp
  | some e => simp

/-- R85: where a switch carries booth `b`'s live desk. -/
theorem State.carriedTo_placedOn {s z t : State} (hz : z.MicSound none) (hbooth : ∀ b, (z.booth b).live = (s.booth b).live)
    (hplan : ∀ b, t.planBooth b = z.planBooth b) (hout : ∀ b d, (z.desk b d).output = (s.desk b d).output) {b d c : Nat}
    (hl : (s.booth b).live = some (d, c)) (c' : Nat) :
    z.carriedTo b = some c' ↔ s.placedOn t b d c' ∧
      ∀ b' d' y, b' < b → (s.booth b').live = some (d', y) → ¬ s.placedOn t b' d' c' := by
  have hoffered {b d y : Nat} (hl : (s.booth b).live = some (d, y)) : z.offered b = some c' ↔ s.placedOn t b d c' := by
    have hlz : (z.booth b).live = some (d, y) := (hbooth b).trans hl
    rw [State.offered, hlz, Option.bind_some]
    exact State.carryChannel_eq_some (hplan b) (hout b d) c'
  rw [State.carriedTo_eq_some, hoffered hl]
  refine and_congr_right fun _ => ⟨fun h b' d' y hlt hl' => ?_, fun h b' _ hlt hoff => ?_⟩
  · rw [← hoffered hl']
    exact h b' (hz.booth_of_live ((hbooth b').trans hl')) hlt
  · cases hl' : (s.booth b').live with
    | none =>
      rw [State.offered, hbooth, hl'] at hoff
      cases hoff
    | some l => exact h b' l.1 l.2 hlt hl' ((hoffered hl').mp hoff)

/-- R86: the turn of a booth whose live desk is carried over to a channel, or released. -/
theorem State.carryOver_turn_live {z : State} (h : z.MicSound none) {b d c : Nat} (hl : (z.booth b).live = some (d, c)) :
    z.carryOver.turn b = z.clearWaits.carryTurn ⟨b, d, c, z.clearWaits.carriedTo b⟩ ∧
      (z.carryOver.booth b).live = (z.clearWaits.carriedTo b).map fun x => (d, x) := by
  have hb := h.booth_of_live hl
  have hlive : (z.clearWaits.booth b).live = some (d, c) := by rw [h.clearWaits_booth]; exact hl
  rw [State.carryOver_turn, State.carryOver_booth, if_pos hb, if_pos hb, hlive]
  exact ⟨rfl, rfl⟩

/-- Settles O17. -/
theorem carryOverFollowsTheNewPlan : Obligations.CarryOverFollowsTheNewPlan := by
  intro s k _ hmic _ htab hs ho hk
  have hexec := State.boundary_of_switch hs ho hk
  have hhanded := (State.switchFrame_handed hmic.sound k).1
  have hlive (b : Nat) := s.switchFrame_booth k b
  obtain ⟨w, hw⟩ : ∃ w, w = s.switchFrame k := ⟨_, rfl⟩
  rw [← hw] at hexec hhanded
  simp only [← hw] at hlive
  have htaken : s.FrameTaken w := hw ▸ s.switchFrame_taken k
  have hsound : w.MicSound none := hw ▸ State.switchFrame_sound hmic.sound k
  obtain ⟨z, hz⟩ : ∃ z, z = w.cleared := ⟨_, rfl⟩
  have hzsound : z.MicSound none := hz ▸ hsound.cleared
  have hzbdc : z.bdc = s.bdc := by rw [hz]; simpa [State.cleared] using htaken.bdc
  have hzmeter : z.meter = s.meter := by rw [hz]; simpa [State.cleared] using htaken.meter
  have htbdc : w.planTaken.bdc = z.carryOver.bdc := by rw [hz]; exact State.MicSound.planTaken_bdc w
  have htmeter : w.planTaken.meter = z.carryOver.meter := by rw [w.planTaken_eq, hz]; simp
  have htjournal : w.planTaken.journal = z.carryOver.journal := by rw [w.planTaken_eq, hz]; simp
  have htbanks : w.planTaken.banks = z.clearWaits.banks := by rw [hz]; simp [State.cleared]
  have htstraps : w.planTaken.straps = z.clearWaits.straps := by rw [hz]; simp [State.cleared]
  rw [← hz] at hhanded
  simp only [← hz] at hlive
  have hbooth (b : Nat) := (State.booth_congr htbdc b).trans (z.carryOver_booth b)
  have hdesk (b d : Nat) : z.clearWaits.desk b d = { s.desk b d with refused := false } := by
    rw [State.clearWaits_desk (by rw [hzbdc]; exact htab.desks), State.desk_congr hzbdc]
  have hcleared (b : Nat) : (z.clearWaits.booth b).live = (s.booth b).live := by rw [hzsound.clearWaits_booth, hlive]
  have hcarried {b d c : Nat} (hl : (s.booth b).live = some (d, c)) :
      w.planTaken.turn b = z.clearWaits.carryTurn ⟨b, d, c, z.clearWaits.carriedTo b⟩ ∧
        (w.planTaken.booth b).live = (z.clearWaits.carriedTo b).map fun x => (d, x) := by
    rw [State.turn_congr htmeter, State.booth_congr htbdc]
    exact State.carryOver_turn_live hzsound (by rw [hlive]; exact hl)
  refine ⟨w.planTaken, hexec, fun b => ?_, fun c => ?_, fun b d => ?_, fun b hl => ?_, fun b d c hl x => ?_,
    fun b d c hl => ⟨fun hnone => ?_, fun hsame => ?_, fun c' hc' hother => ?_⟩, fun b d c => hsound.planTaken.named b d c, ?_, ?_,
    ?_, ?_⟩
  · rw [hbooth]
    cases hx : (if b ∈ Config.boothNumbers then
        (z.clearWaits.booth b).live.bind fun l => (z.clearWaits.carriedTo b).map fun c => (l.1, c) else none) with
    | none => exact .inl rfl
    | some x => exact .inr ⟨x, rfl⟩
  · rw [State.chan_congr htbdc]
    exact (z.carryOver_chan c).1
  · rw [← hdesk]
    exact congrArg (fun x => Table.fetch ({} : Desk) x (deskKey b d))
      ((congrArg Bdc.desks (htbdc.trans z.carryOver_bdc)).trans z.carryStart_desks)
  · rw [hbooth]
    simp [hcleared, hl]
  · have hplaced := State.carriedTo_placedOn hzsound.clearWaits hcleared
      (fun b => State.planBooth_congr (t := w.planTaken) htstraps htbanks b) (fun b d => by rw [hdesk]) hl
    rw [(hcarried hl).2, Option.map_eq_some_iff]
    constructor
    · rintro ⟨c', hc', rfl⟩
      obtain ⟨⟨e, he, hd, hch⟩, hfirst⟩ := (hplaced c').mp hc'
      exact ⟨c', e, rfl, he, hd, hch, fun b' d' y e' hlt hl' he' hd' hch' => hfirst b' d' y hlt hl' ⟨e', he', hd', hch'⟩⟩
    · rintro ⟨c', e, rfl, he, hd, hch, hfirst⟩
      exact ⟨c', (hplaced c').mpr ⟨⟨e, he, hd, hch⟩, fun b' d' y hlt hl' ⟨e', he', hd', hch'⟩ =>
        hfirst b' d' y e' hlt hl' he' hd' hch'⟩, rfl⟩
  · obtain ⟨hturn', hnew⟩ := hcarried hl
    rw [hnew, Option.map_eq_none_iff] at hnone
    rw [hturn', hnone]
    rfl
  · obtain ⟨hturn', hnew⟩ := hcarried hl
    rw [hnew, Option.map_eq_some_iff] at hsame
    obtain ⟨x, hx, he⟩ := hsame
    cases he
    rw [hturn', hx]
    exact (if_pos rfl).trans (State.turn_congr (by simpa using hzmeter) b)
  · obtain ⟨hturn', hnew⟩ := hcarried hl
    rw [hnew, Option.map_eq_some_iff] at hother
    obtain ⟨x, hx, he⟩ := hother
    cases he
    have hnewTurn : z.clearWaits.carryTurn ⟨b, d, c, some c'⟩ = z.clearWaits.newTurn b d c' := if_neg hc'
    rw [hturn', hx, hnewTurn, State.newTurn, hdesk, State.carriedQuality_congr htbanks]
    simp [hzmeter]
  · rw [htjournal]
    exact hhanded.handed.journal
  · rw [State.meterBut_iff, htmeter, ← hzmeter]
    obtain ⟨-, htime, hsetting, htimer, -⟩ := z.carryOver_meter
    exact ⟨htime, hsetting, htimer⟩
  · rw [htmeter]
    exact hhanded.sitting
  · intro b
    rw [State.totals, htmeter]
    exact hhanded.totals b

end Sys2Proof.Machine
end

section
/-! What a console request makes of the console's own record: nothing is read from it but the select period, so that the
bytes which carried the request, and the bytes shifted out meanwhile, leave no trace in its effect. -/

namespace Sys2Proof.Machine

open Sys2Proof

/-- The state with the console's record replaced. -/
def State.withConsole (s : State) (x : ConsoleLink) : State := s.setLinks { s.links with console := x }

/-- The reply whose state has the console's record replaced. -/
def Reply.withConsole (r : Reply) (x : ConsoleLink) : Reply := { r with st := r.st.withConsole x }

section Operations

variable (s : State) (x : ConsoleLink)

/-! ## Flags and journal -/

theorem State.withConsole_raiseLevel : (s.withConsole x).raiseLevel = s.raiseLevel.withConsole x := by
  have hcase : (s.withConsole x).raiseLevel =
      if s.journal.entries.length = Config.journalHigh then (s.raise .journalHigh 1).withConsole x
      else if s.journal.free = Config.journalReserve then
        ((s.raise .journalFull 1).raiseCounter .journalFull 1).withConsole x
      else s.withConsole x := rfl
  rw [hcase, State.raiseLevel]
  (repeat' split) <;> rfl

theorem State.withConsole_writeEntry (body : EntryBody) :
    (s.withConsole x).writeEntry body = (s.writeEntry body).withConsole x :=
  State.withConsole_raiseLevel (s.setJournal (s.journal.append s.meter.time body)) x

theorem State.withConsole_handOver (body : EntryBody) :
    (s.withConsole x).handOver body = (s.handOver body).withConsole x := by
  have hcase : (s.withConsole x).handOver body =
      if s.journal.free = 0 then (s.raise .turnFolded 1).withConsole x else (s.withConsole x).writeEntry body := rfl
  rw [hcase, State.handOver, State.withConsole_writeEntry]
  split <;> rfl

/-! ## The relay resolver -/

theorem State.withConsole_resolve : (s.withConsole x).resolve = s.resolve.withConsole x := by
  have hcase : (s.withConsole x).resolve =
      if s.onAir then (s.placeBooths.raise .relayLost (Config.boothNumbers.filter s.newlyLost).length).withConsole x
      else s.withConsole x := rfl
  rw [hcase, State.resolve]
  split <;> rfl

theorem State.withConsole_productionStart (c p : Nat) :
    (s.withConsole x).productionStart c p = (s.productionStart c p).withConsole x := by
  have hcase : (s.withConsole x).productionStart c p = if s.onAir then
      (((s.setProducer c p).endHolds fun b => decide ((s.relayRec b).source = .channel c)).withConsole x).resolve
      else (s.setProducer c p).withConsole x := rfl
  rw [hcase, State.productionStart, State.withConsole_resolve]
  split <;> rfl

theorem State.withConsole_productionStop (c : Nat) :
    (s.withConsole x).productionStop c = (s.productionStop c).withConsole x := by
  have hcase : (s.withConsole x).productionStop c = if s.onAir then
      (((s.clearProducer c).beginHolds c).withConsole x).resolve else (s.clearProducer c).withConsole x := rfl
  rw [hcase, State.productionStop, State.withConsole_resolve]
  split <;> rfl

theorem State.withConsole_floorLanguage (code : Nat) :
    (s.withConsole x).floorLanguage code = (s.floorLanguage code).withConsole x := by
  have hcase : (s.withConsole x).floorLanguage code = if s.onAir then
      ((s.setRelay { s.relay with floorLang := code }).endAllHolds.withConsole x).resolve
      else (s.setRelay { s.relay with floorLang := code }).withConsole x := rfl
  rw [hcase, State.floorLanguage, State.withConsole_resolve]
  split <;> rfl

/-! ## Turns and sittings -/

theorem State.withConsole_openTurn (b d c : Nat) : (s.withConsole x).openTurn b d c = (s.openTurn b d c).withConsole x := by
  have hcase : (s.withConsole x).openTurn b d c = if s.meter.sitting.isOpen then
      (s.setTurn b { desk := d, interpreter := (s.desk b d).interpreter, channel := c, quality := s.carriedQuality c,
                     start := s.meter.time }).withConsole x
      else s.withConsole x := rfl
  rw [hcase, State.openTurn]
  split <;> rfl

theorem State.withConsole_endTurn (b : Nat) (t : Turn) (r : Reason) :
    (s.withConsole x).endTurn b t r = (s.endTurn b t r).withConsole x := by
  have hcase : (s.withConsole x).endTurn b t r = if s.journal.free = 0 then
      (((s.retireTurn b).foldTurn b t).withConsole x).handOver (.turn (s.turnBody b t r))
      else ((s.retireTurn b).withConsole x).handOver (.turn (s.turnBody b t r)) := rfl
  rw [hcase, State.endTurn, State.withConsole_handOver, State.withConsole_handOver]
  split <;> rfl

theorem State.withConsole_closeTurn (b : Nat) (r : Reason) :
    (s.withConsole x).closeTurn b r = (s.closeTurn b r).withConsole x := by
  have hturn : (s.withConsole x).turn b = s.turn b := rfl
  unfold State.closeTurn
  rw [hturn]
  cases s.turn b with
  | none => rfl
  | some t => exact s.withConsole_endTurn x b t r

/-- A fold of a step that the console's record does not touch. -/
theorem State.withConsole_foldl {α : Type} {f : State → α → State}
    (hf : ∀ t a, f (t.withConsole x) a = (f t a).withConsole x) (as : List α) :
    as.foldl f (s.withConsole x) = (as.foldl f s).withConsole x := by
  induction as generalizing s with
  | nil => rfl
  | cons a as ih => rw [List.foldl_cons, hf, ih, List.foldl_cons]

theorem State.withConsole_openLiveTurn (b : Nat) : (s.withConsole x).openLiveTurn b = (s.openLiveTurn b).withConsole x := by
  have hbooth : (s.withConsole x).booth b = s.booth b := rfl
  unfold State.openLiveTurn
  rw [hbooth]
  cases (s.booth b).live with
  | none => rfl
  | some l => exact s.withConsole_openTurn x b l.1 l.2

theorem State.withConsole_openSitting : (s.withConsole x).openSitting = s.openSitting.withConsole x :=
  State.withConsole_foldl (s.setMeter { s.meter with sitting := s.meter.opened, totals := [], graceTimer := none }) x
    (fun t b => t.withConsole_openLiveTurn x b) _

theorem State.withConsole_startGrace : (s.withConsole x).startGrace = s.startGrace.withConsole x := by
  have hcase : (s.withConsole x).startGrace = if s.meter.graceSetting = 0 then s.sweep.withConsole x
      else (s.setMeter { s.meter with graceTimer := some (s.meter.graceSetting * 60) }).withConsole x := rfl
  rw [hcase, State.startGrace]
  split <;> rfl

theorem State.withConsole_closeSitting : (s.withConsole x).closeSitting = s.closeSitting.withConsole x := by
  have hturns : (s.withConsole x).closeTurns .sittingClose = (s.closeTurns .sittingClose).withConsole x :=
    State.withConsole_foldl s x (fun t b => t.withConsole_closeTurn x b _) _
  have hrecord (t : State) : (t.withConsole x).closeRecord = t.closeRecord.withConsole x := rfl
  have hhand (t : State) : (t.withConsole x).handSitting = t.handSitting.withConsole x := t.withConsole_handOver x _
  rw [State.closeSitting, hturns, hrecord, hhand, State.withConsole_startGrace, State.closeSitting]

/-! ## Desks -/

theorem State.withConsole_grant (b d c : Nat) : (s.withConsole x).grant b d c = (s.grant b d c).withConsole x := by
  have hmix : ((s.withConsole x).grantRecords b d c).mixGrant c ⟨b, d⟩ =
      ((s.grantRecords b d c).mixGrant c ⟨b, d⟩).withConsole x := rfl
  rw [State.grant, hmix, State.withConsole_openTurn, State.withConsole_productionStart, State.grant]

theorem State.withConsole_release (b c : Nat) (r : Reason) :
    (s.withConsole x).release b c r = (s.release b c r).withConsole x := by
  have hmix : ((s.withConsole x).clearLive b c).mixRelease c = ((s.clearLive b c).mixRelease c).withConsole x := rfl
  rw [State.release, hmix, State.withConsole_closeTurn, State.withConsole_productionStop, State.release]

theorem State.withConsole_passQueue (c : Nat) : (s.withConsole x).passQueue c = (s.passQueue c).withConsole x := by
  have hchan : (s.withConsole x).chan c = s.chan c := rfl
  unfold State.passQueue
  rw [hchan]
  cases (s.chan c).queue with
  | nil => rfl
  | cons e rest => exact (s.setChan c { s.chan c with queue := rest }).withConsole_grant x _ _ _

theorem State.withConsole_cancelOffer (b : Nat) : (s.withConsole x).cancelOffer b = (s.cancelOffer b).withConsole x := by
  have hbooth : (s.withConsole x).booth b = s.booth b := rfl
  unfold State.cancelOffer
  rw [hbooth]
  cases (s.booth b).offer with
  | none => rfl
  | some o => rfl

theorem State.withConsole_forceOff (b c : Nat) : (s.withConsole x).forceOff b c = (s.forceOff b c).withConsole x := by
  rw [State.forceOff, State.withConsole_cancelOffer, State.withConsole_release, State.withConsole_passQueue, State.forceOff]

theorem State.withConsole_releaseBooth (b : Nat) : (s.withConsole x).releaseBooth b = (s.releaseBooth b).withConsole x := by
  have hbooth : (s.withConsole x).booth b = s.booth b := rfl
  unfold State.releaseBooth
  rw [hbooth]
  cases (s.booth b).live with
  | none => rfl
  | some l => exact s.withConsole_release x b l.2 _

theorem State.withConsole_liveReset : (s.withConsole x).liveReset = s.liveReset.withConsole x :=
  State.withConsole_foldl s.clearWaits x (fun t b => t.withConsole_releaseBooth x b) _

/-! ## The framer -/

theorem State.withConsole_stop : (s.withConsole x).stop = s.stop.withConsole x := by
  have hstopped : (s.withConsole x).stopped = s.stopped.withConsole x := rfl
  have hmix (t : State) : (t.withConsole x).mixStandby = t.mixStandby.withConsole x := rfl
  rw [State.stop_eq, hstopped, State.withConsole_liveReset, hmix, State.stop_eq]

/-! ## Replies -/

theorem withConsole_editBank (k : Nat) (p : Bank) : editBank k (s.withConsole x) p = (editBank k s p).withConsole x := by
  have hcase : editBank k (s.withConsole x) p = if (s.bank k).status.editable then
      Reply.withConsole ⟨s.setBank k p, .done, []⟩ x else Reply.withConsole ⟨s, .bankLocked, []⟩ x := rfl
  rw [hcase, editBank]
  split <;> rfl

theorem State.withConsole_validationRefusal (p : Bank) : (s.withConsole x).validationRefusal p = s.validationRefusal p := rfl

theorem withConsole_bankCheckReply (k : Nat) :
    bankCheckReply k (s.withConsole x) = (bankCheckReply k s).withConsole x := by
  have hbank : (s.withConsole x).bank k = s.bank k := rfl
  unfold bankCheckReply
  rw [hbank, State.withConsole_validationRefusal]
  cases s.validationRefusal (s.bank k) with
  | none => rfl
  | some v => rfl

theorem withConsole_startReply (k : Nat) : startReply k (s.withConsole x) = (startReply k s).withConsole x := by
  have hbank : (s.withConsole x).bank k = s.bank k := rfl
  have hframer : (s.withConsole x).framer = s.framer := rfl
  unfold startReply
  rw [hbank, hframer, State.withConsole_validationRefusal]
  split
  · rfl
  · cases s.validationRefusal (s.bank k) with
    | none => rfl
    | some v => rfl

theorem withConsole_switchReply (k : Nat) : switchReply k (s.withConsole x) = (switchReply k s).withConsole x := by
  have hbank : (s.withConsole x).bank k = s.bank k := rfl
  have hframer : (s.withConsole x).framer = s.framer := rfl
  have hair : (s.withConsole x).onAir = s.onAir := rfl
  have hon : (s.withConsole x).onAirBank = s.onAirBank := rfl
  unfold switchReply
  rw [hbank, hframer, hair, hon, State.withConsole_validationRefusal]
  split
  · rfl
  · split
    · rfl
    · split
      · rfl
      · cases s.validationRefusal (s.bank k) with
        | none => rfl
        | some v => rfl

theorem withConsole_standbyReply : standbyReply (s.withConsole x) = (standbyReply s).withConsole x := by
  have hframer : (s.withConsole x).framer = s.framer := rfl
  have hmeter : (s.withConsole x).meter = s.meter := rfl
  unfold standbyReply
  rw [hframer, hmeter, State.withConsole_stop]
  cases s.framer.state with
  | standby => rfl
  | starting => rfl
  | onAir =>
    dsimp only
    split <;> rfl

theorem withConsole_announceReply : announceReply (s.withConsole x) = (announceReply s).withConsole x := by
  have hframer : (s.withConsole x).framer = s.framer := rfl
  unfold announceReply
  rw [hframer]
  cases s.framer.state with
  | standby => rfl
  | starting => rfl
  | onAir =>
    dsimp only
    split <;> rfl

theorem withConsole_announceEndReply : announceEndReply (s.withConsole x) = (announceEndReply s).withConsole x := by
  have hframer : (s.withConsole x).framer = s.framer := rfl
  unfold announceEndReply
  rw [hframer]
  cases s.framer.override <;> rfl

theorem withConsole_forceOffReply (b : Nat) : forceOffReply b (s.withConsole x) = (forceOffReply b s).withConsole x := by
  have hair : (s.withConsole x).onAir = s.onAir := rfl
  have hbooth : (s.withConsole x).booth b = s.booth b := rfl
  unfold forceOffReply
  rw [hair, hbooth]
  split
  · rfl
  · cases (s.booth b).live with
    | none => rfl
    | some l =>
      dsimp only
      rw [State.withConsole_forceOff]
      rfl

theorem withConsole_jnlReadReply : jnlReadReply (s.withConsole x) = (jnlReadReply s).withConsole x := by
  have hjournal : (s.withConsole x).journal = s.journal := rfl
  unfold jnlReadReply
  rw [hjournal]
  cases s.journal.entries <;> rfl

theorem withConsole_jnlAckReply (n : Nat) : jnlAckReply n (s.withConsole x) = (jnlAckReply n s).withConsole x := by
  have hjournal : (s.withConsole x).journal = s.journal := rfl
  unfold jnlAckReply
  rw [hjournal]
  cases s.journal.entries with
  | nil => rfl
  | cons e rest =>
    dsimp only
    split <;> rfl

theorem withConsole_queryReply (n : Nat) : queryReply n (s.withConsole x) = (queryReply n s).withConsole x := by
  have hreceiver : (s.withConsole x).receiver n = s.receiver n := rfl
  unfold queryReply
  rw [hreceiver]
  cases s.receiver n <;> rfl

theorem withConsole_acctQueryReply (n : Nat) : acctQueryReply n (s.withConsole x) = (acctQueryReply n s).withConsole x := by
  have haccount : (s.withConsole x).account n = s.account n := rfl
  unfold acctQueryReply
  rw [haccount]
  cases s.account n <;> rfl

end Operations

/-! ## Console requests -/

/-- The effect and the answer of a console request, but for the console's own record, do not depend on that record. -/
theorem Instr.rule_withConsole {i : Instr} {r : Request} (hr : i.request = some r) (hl : r.link = .console) (s : State)
    (x : ConsoleLink) : i.rule (s.withConsole x) = (i.rule s).withConsole x := by
  cases i <;> cases hr
  case rxQuery l n => exact withConsole_queryReply s x n
  case acctQuery l n => exact withConsole_acctQueryReply s x n
  case flagsRead l =>
    cases l with
    | console => rfl
    | counter => cases hl
  case flagsClear l n =>
    cases l with
    | console => rfl
    | counter => cases hl
  case maskSet l n =>
    cases l with
    | console => rfl
    | counter => cases hl
  case chSet | boothSet | bankClear | bankCopy => exact withConsole_editBank s x _ _
  case bankCheck k => exact withConsole_bankCheckReply s x k
  case start k => exact withConsole_startReply s x k
  case standby => exact withConsole_standbyReply s x
  case switch k => exact withConsole_switchReply s x k
  case announce => exact withConsole_announceReply s x
  case announceEnd => exact withConsole_announceEndReply s x
  case forceOff b => exact withConsole_forceOffReply s x b
  case liveReset =>
    rw [Instr.rule, State.withConsole_liveReset, Instr.rule, Reply.withConsole]
  case floorLang n =>
    rw [Instr.rule, State.withConsole_floorLanguage, Instr.rule, Reply.withConsole]
  case jnlRead => exact withConsole_jnlReadReply s x
  case jnlAck n => exact withConsole_jnlAckReply s x n
  case sittingOpen =>
    have hmeter : (s.withConsole x).meter = s.meter := rfl
    have hair : (s.withConsole x).onAir = s.onAir := rfl
    rw [Instr.rule, Instr.rule, hmeter, hair, State.withConsole_openSitting]
    (repeat' split) <;> rw [Reply.withConsole]
  case sittingClose =>
    have hmeter (t : State) : (t.withConsole x).meter = t.meter := rfl
    rw [Instr.rule, Instr.rule, hmeter, State.withConsole_closeSitting, hmeter]
    split <;> rw [Reply.withConsole]
  case tariffSet grace unit rate cap fee loss deposit =>
    have hcase : (Instr.tariffSet grace unit rate cap fee loss deposit).rule (s.withConsole x) =
        if 0 < s.hire.tally.total then Reply.withConsole ⟨s, .tariffInUse, []⟩ x
        else Reply.withConsole ⟨s.setHire { s.hire with tariff := Tariff.ofParams grace unit rate cap fee loss deposit },
          .done, tariffFields (Tariff.ofParams grace unit rate cap fee loss deposit)⟩ x := rfl
    rw [hcase, Instr.rule]
    split <;> rfl
  case bankRead | lineMode | framerRead | handoverSet | channelRead | boothRead | relaySet | returnGrace | sittingRead |
    tallyRead => rfl
  all_goals cases hl

theorem Instr.checks_withConsole {i : Instr} {r : Request} (hr : i.request = some r) (s : State) (x : ConsoleLink) :
    i.checks (s.withConsole x) = i.checks s := by
  cases i <;> cases hr <;> rfl

theorem withConsole_checked (oks : List Bool) (s : State) (r : Reply) (x : ConsoleLink) :
    checked oks (s.withConsole x) (r.withConsole x) = (checked oks s r).withConsole x := by
  unfold checked
  cases firstBad oks 1 <;> rfl

/-- R186: a reply served on the console ends the same, whatever the console's record but the select period was. -/
theorem serve_withConsole {s : State} {x : ConsoleLink} (hx : x.period = s.links.console.period) {take : State → Reply}
    (htake : take (s.withConsole x) = (take s).withConsole x) (code : Nat) (h : s.receives .console = true) :
    serve .console code take (s.withConsole x) = serve .console code take s := by
  have hrec : (s.withConsole x).receives .console = s.receives .console := by
    simp only [State.receives, State.withConsole, State.setLinks, hx]
  rw [serve, hrec, h, if_pos rfl, htake, serve, h, if_pos rfl]
  rfl

/-- R183, R186: a console request, and a body that LNK turns away there, has one effect whatever the console's record but
the select period was. -/
theorem exec_withConsole {i : Instr} {r : Request} (hr : i.request = some r) (hl : r.link = .console) {s : State}
    {x : ConsoleLink} (hx : x.period = s.links.console.period) (h : s.receives .console = true) :
    exec i (s.withConsole x) = exec i s := by
  rw [exec_request hr, exec_request hr, hl]
  refine serve_withConsole hx ?_ _ h
  rw [Instr.checks_withConsole hr, Instr.rule_withConsole hr hl, withConsole_checked]

theorem exec_unknownRequest_withConsole (code : Nat) (params : List Byte) {s : State} {x : ConsoleLink}
    (hx : x.period = s.links.console.period) (h : s.receives .console = true)
    (ht : (Link.console.turnsAway code params.length).isSome = true) :
    exec (.unknownRequest .console code params) (s.withConsole x) = exec (.unknownRequest .console code params) s := by
  obtain ⟨answer, ha⟩ := Option.isSome_iff_exists.mp ht
  have hexec (t : State) : exec (.unknownRequest .console code params) t =
      serve .console code (fun s => ⟨s, answer, []⟩) t := by
    show execUnknownRequest .console code params t = _
    unfold execUnknownRequest
    rw [ha]
  rw [hexec, hexec]
  exact serve_withConsole hx rfl _ h

end Sys2Proof.Machine
end

section
/-! The links' receivers byte by byte, the console's data output and the links' events (O52). -/

namespace Sys2Proof.Machine

open Sys2Proof

/-! ## The receivers -/

theorem State.receiverOf_setReceiver_self (s : State) (l : Link) (r : Receive) : (s.setReceiver l r).receiverOf l = r := by
  rw [State.receiverOf_setReceiver, if_pos rfl]

/-- From `s` to `v` bytes have reached link `l`: its receiver may differ, and on the console what it shifts out, the select
period aside. -/
def State.HeardOn (s v : State) : Link → Prop
  | .console => ∃ x : ConsoleLink, x.period = s.links.console.period ∧ v = s.withConsole x
  | .counter => ∃ r, v = s.setReceiver .counter r
  | .desk => ∃ r, v = s.setReceiver .desk r

namespace State.HeardOn

variable {s v : State} {l : Link}

theorem refl (s : State) (l : Link) : s.HeardOn s l := by
  cases l
  case console => exact ⟨s.links.console, rfl, rfl⟩
  case counter => exact ⟨s.links.counter.receive, rfl⟩
  case desk => exact ⟨s.links.desk.receive, rfl⟩

theorem shiftOut (h : s.HeardOn v l) : s.HeardOn (v.shiftOut l) l := by
  cases l
  case console =>
    obtain ⟨x, hx, rfl⟩ := h
    exact ⟨x.shift, x.shift_period.trans hx, rfl⟩
  all_goals exact h

theorem setReceiver (h : s.HeardOn v l) (r : Receive) : s.HeardOn (v.setReceiver l r) l := by
  cases l
  case console =>
    obtain ⟨x, hx, rfl⟩ := h
    exact ⟨{ x with receive := r }, hx, rfl⟩
  all_goals
    obtain ⟨r', rfl⟩ := h
    exact ⟨r, rfl⟩

theorem hears (h : s.HeardOn v l) : v.hears l = s.hears l := by
  cases l
  case console =>
    obtain ⟨x, hx, rfl⟩ := h
    exact congrArg (fun p => !s.resetHeld && !p) hx
  all_goals
    obtain ⟨r', rfl⟩ := h
    rfl

theorem receives (h : s.HeardOn v l) : v.receives l = s.receives l := by
  cases l
  case console =>
    obtain ⟨x, hx, rfl⟩ := h
    exact congrArg (fun p => !s.resetHeld && !p) hx
  all_goals
    obtain ⟨r', rfl⟩ := h
    rfl

/-- On a UART link nothing but the receiver has changed. -/
theorem eq_of_uart {l : UartLink} (h : s.HeardOn v (Link.ofUart l)) (hr : v.receiverOf (Link.ofUart l) = s.receiverOf
    (Link.ofUart l)) : v = s := by
  cases l
  all_goals
    obtain ⟨r, rfl⟩ := h
    obtain rfl : r = _ := hr
    rfl

end State.HeardOn

/-! ## One byte -/

section Byte

variable {s : State} {l : Link} {byte : Byte}

theorem State.takeByte_heard (h : s.hears l = true) : s.takeByte l byte = (s.shiftOut l).receiveByte l byte := by
  have hheld : s.resetHeld = false := by
    cases l <;> simp_all [State.hears]
  rw [State.takeByte, hheld, h]
  rfl

theorem State.takeByte_incomplete (h : s.hears l = true)
    (hc : ((s.receiverOf l).take (s.receives l) byte).complete = none) :
    s.takeByte l byte = .next ((s.shiftOut l).setReceiver l ((s.receiverOf l).take (s.receives l) byte)) := by
  rw [State.takeByte_heard h, State.receiveByte, State.receiverOf_shiftOut,
    State.receives_shiftOut, hc]

theorem State.takeByte_hunting (h : s.hears l = true) (hr : s.receiverOf l = .hunting) : s.takeByte l byte =
    .next ((s.shiftOut l).setReceiver l (if byte = 0xC5 ∧ s.receives l = true then .begun else .hunting)) := by
  have htake : (s.receiverOf l).take (s.receives l) byte =
      if byte = 0xC5 ∧ s.receives l = true then .begun else .hunting := by rw [hr]; rfl
  rw [State.takeByte_incomplete h, htake]
  rw [htake]
  split <;> rfl

theorem State.takeByte_begun (h : s.hears l = true) (hr : s.receiverOf l = .begun) : s.takeByte l byte =
    .next ((s.shiftOut l).setReceiver l (if byte = 0 then .hunting else .body byte [])) := by
  have htake : (s.receiverOf l).take (s.receives l) byte = if byte = 0 then .hunting else .body byte [] := by rw [hr]; rfl
  rw [State.takeByte_incomplete h, htake]
  rw [htake]
  split
  · rfl
  · simp [Receive.complete]

theorem State.takeByte_body (h : s.hears l = true) {size : Byte} {taken : List Byte} (hr : s.receiverOf l = .body size taken)
    (hlt : taken.length + 1 < size.toNat + 2) :
    s.takeByte l byte = .next ((s.shiftOut l).setReceiver l (.body size (taken ++ [byte]))) := by
  have htake : (s.receiverOf l).take (s.receives l) byte = .body size (taken ++ [byte]) := by rw [hr]; rfl
  rw [State.takeByte_incomplete h, htake]
  rw [htake]
  simp only [Receive.complete, List.length_append, List.length_singleton]
  exact if_neg (Nat.ne_of_lt hlt)

theorem State.takeByte_last (h : s.hears l = true) {size : Byte} {taken : List Byte} (hr : s.receiverOf l = .body size taken)
    (heq : taken.length + 1 = size.toNat + 2) {i : Instr} (hi : readCounted l (size :: (taken ++ [byte])) = some i) :
    s.takeByte l byte = exec i ((s.shiftOut l).setReceiver l .hunting) := by
  have hcomplete : ((s.receiverOf l).take (s.receives l) byte).complete = some (size :: (taken ++ [byte])) := by
    rw [hr]
    simp [Receive.take, Receive.complete, heq]
  rw [State.takeByte_heard h, State.receiveByte, State.receiverOf_shiftOut,
    State.receives_shiftOut, hcomplete]
  simp only [State.takeFrame, hi]

end Byte

/-! ## A whole frame -/

theorem State.takeBytes_cons {s t : State} {l : Link} {b : Byte} (h : s.takeByte l b = .next t) (bs : List Byte) :
    s.takeBytes l (b :: bs) = t.takeBytes l bs := by
  rw [State.takeBytes, h]

theorem State.takeBytes_single (s : State) (l : Link) (b : Byte) : s.takeBytes l [b] = s.takeByte l b := by
  rw [State.takeBytes]
  cases s.takeByte l b <;> rfl

/-- R185, R187: the rest of a frame in reception leads to its command. -/
theorem State.HeardOn.takeBytes_body {s v : State} {l : Link} (h : s.HeardOn v l) (hears : s.hears l = true) {size : Byte}
    {i : Instr} (rest : List Byte) (last : Byte) {taken : List Byte} (hr : v.receiverOf l = .body size taken)
    (hlen : taken.length + rest.length + 1 = size.toNat + 2)
    (hi : readCounted l (size :: (taken ++ (rest ++ [last]))) = some i) :
    ∃ w, s.HeardOn w l ∧ w.receiverOf l = .hunting ∧ v.takeBytes l (rest ++ [last]) = exec i w := by
  have hv : v.hears l = true := h.hears.trans hears
  induction rest generalizing v taken with
  | nil =>
    refine ⟨(v.shiftOut l).setReceiver l .hunting, h.shiftOut.setReceiver _, State.receiverOf_setReceiver_self _ _ _, ?_⟩
    rw [List.nil_append, State.takeBytes_single]
    exact State.takeByte_last hv hr hlen hi
  | cons b rest ih =>
    have hstep := State.takeByte_body (byte := b) hv hr (by rw [List.length_cons] at hlen; omega)
    rw [List.cons_append, State.takeBytes_cons hstep]
    have hnext : s.HeardOn ((v.shiftOut l).setReceiver l (.body size (taken ++ [b]))) l := h.shiftOut.setReceiver _
    refine ih hnext (State.receiverOf_setReceiver_self _ _ _) ?_ ?_ (hnext.hears.trans hears)
    · rw [List.length_append, List.length_singleton]
      rw [List.length_cons] at hlen
      omega
    · simpa using hi

/-- R185, R187: the bytes of a frame lead to its command. -/
theorem State.takeBytes_frame {s : State} {l : Link} (hr : s.receiverOf l = .hunting) (hrec : s.receives l = true)
    {body : List Byte} (hpos : 0 < body.length) (hlt : body.length < 256) {i : Instr} (hi : readBody l body = some i) :
    ∃ w, s.HeardOn w l ∧ w.receiverOf l = .hunting ∧ s.takeBytes l (requestFrame body) = exec i w := by
  have hears := State.hears_of_receives hrec
  obtain ⟨size, hsize⟩ : ∃ size, size = BitVec.ofNat 8 body.length := ⟨_, rfl⟩
  have hnum : size.toNat = body.length := by rw [hsize]; exact code_toNat hlt
  have hcounted : counted body = size :: body := by rw [counted, bytesOf_one, hsize]; rfl
  have hread : readCounted l (size :: (body ++ crcBytes (counted body))) = some i := by
    rw [← hi, ← readCounted_counted l hlt, hcounted]
    rfl
  obtain ⟨rest, last, hrest⟩ : ∃ rest last, body ++ crcBytes (counted body) = rest ++ [last] :=
    ⟨_, _, (List.dropLast_concat_getLast (by simp [← List.length_eq_zero_iff, crcBytes_length])).symm⟩
  have hlen : rest.length + 1 = body.length + 2 := by
    have := congrArg List.length hrest
    simpa [crcBytes_length] using this.symm
  -- the start byte and the length byte
  obtain ⟨u, hu⟩ : ∃ u, u = (s.shiftOut l).setReceiver l .begun := ⟨_, rfl⟩
  have hheardU : s.HeardOn u l := hu ▸ (State.HeardOn.refl s l).shiftOut.setReceiver _
  have hfirst : s.takeByte l 0xC5 = .next u := by
    rw [State.takeByte_hunting hears hr, if_pos ⟨rfl, hrec⟩, hu]
  have hzero : size ≠ 0 := by
    rintro rfl
    rw [← hnum] at hpos
    exact absurd hpos (by decide)
  obtain ⟨v, hv⟩ : ∃ v, v = (u.shiftOut l).setReceiver l (.body size []) := ⟨_, rfl⟩
  have hheardV : s.HeardOn v l := hv ▸ hheardU.shiftOut.setReceiver _
  have hsecond : u.takeByte l size = .next v := by
    rw [State.takeByte_begun (hheardU.hears.trans hears) (hu ▸ State.receiverOf_setReceiver_self _ _ _), if_neg hzero, hv]
  obtain ⟨w, hw, hwr, hwx⟩ := hheardV.takeBytes_body hears rest last (hv ▸ State.receiverOf_setReceiver_self _ _ _)
    (by rw [List.length_nil]; omega) (by rw [List.nil_append, ← hrest]; exact hread)
  refine ⟨w, hw, hwr, ?_⟩
  rw [requestFrame, State.takeBytes_cons hfirst, hcounted, List.cons_append, State.takeBytes_cons hsecond, ← hcounted,
    hrest, hwx]

/-- R182 to R188: the bytes of a request's frame lead to the request. -/
theorem State.takeBytes_request {s : State} {i : Instr} {r : Request} (h : i.request = some r) (hw : r.wellFormed = true)
    (hr : s.receiverOf r.link = .hunting) (hrec : s.receives r.link = true) :
    s.takeBytes r.link (requestFrame r.body) = exec i s := by
  obtain ⟨hread, hlen⟩ := readBody_request h hw
  obtain ⟨w, hheard, hhunt, hx⟩ := State.takeBytes_frame hr hrec (by omega) (body_length_lt h hw) hread
  rw [hx]
  generalize hl : r.link = l at *
  cases l
  case console =>
    obtain ⟨x, hp, rfl⟩ := hheard
    exact exec_withConsole h hl hp hrec
  case counter => rw [State.HeardOn.eq_of_uart (l := .counter) hheard (hhunt.trans hr.symm)]
  case desk => rw [State.HeardOn.eq_of_uart (l := .desk) hheard (hhunt.trans hr.symm)]

/-- R187: the bytes of a body that LNK turns away lead to its refusal. -/
theorem State.takeBytes_turnedAway {s : State} {l : Link} {code : Nat} {params : List Byte}
    (h : turnedAway l code params = true) (hr : s.receiverOf l = .hunting) (hrec : s.receives l = true) :
    s.takeBytes l (requestFrame (bytesOf 1 code ++ params)) = exec (.unknownRequest l code params) s := by
  obtain ⟨hread, hlen⟩ := readBody_turnedAway h
  obtain ⟨w, hheard, hhunt, hx⟩ := State.takeBytes_frame hr hrec
    (by rw [List.length_append, bytesOf_length]; omega) hlen hread
  rw [hx]
  cases l
  case console =>
    obtain ⟨x, hp, rfl⟩ := hheard
    simp only [turnedAway, Bool.and_eq_true] at h
    exact exec_unknownRequest_withConsole code params hp hrec h.2
  case counter => rw [State.HeardOn.eq_of_uart (l := .counter) hheard (hhunt.trans hr.symm)]
  case desk => rw [State.HeardOn.eq_of_uart (l := .desk) hheard (hhunt.trans hr.symm)]

/-- A UART link that does not receive, and hunts, ignores every byte. -/
theorem State.takeBytes_deaf {s : State} {l : UartLink} (hr : s.receiverOf (Link.ofUart l) = .hunting)
    (hrec : s.receives (Link.ofUart l) = false) (bytes : List Byte) : s.takeBytes (Link.ofUart l) bytes = .next s := by
  have hbyte (b : Byte) : s.takeByte (Link.ofUart l) b = .next s := by
    by_cases hheld : s.resetHeld = true
    · exact if_pos hheld
    · have hears : s.hears (Link.ofUart l) = true := by cases l <;> simpa [State.hears, Link.ofUart] using hheld
      have hshift : s.shiftOut (Link.ofUart l) = s := by cases l <;> rfl
      rw [State.takeByte_hunting hears hr, if_neg (by simp [hrec]), hshift, ← hr, State.setReceiver_receiverOf]
  induction bytes with
  | nil => rfl
  | cons b bs ih => rw [State.takeBytes_cons (hbyte b), ih]

/-! ## The console's data output -/

theorem ConsoleLink.shift_idle {x : ConsoleLink} (h : x.answer = none) :
    x.shift = ⟨x.period, none, 0, x.receive, 0, some 0⟩ := by
  have hout : x.outgoing = [] := by simp [ConsoleLink.outgoing, h]
  unfold ConsoleLink.shift
  rw [hout]
  rfl

/-- R186: the bytes that the console shifts out for an answer: the 0x00 before it and its own. -/
def ConsoleLink.line (x : ConsoleLink) (a : Answer) : List Byte := List.replicate x.filler 0 ++ a.bytes

theorem ConsoleLink.shift_answer {x : ConsoleLink} {a : Answer} (h : x.answer = some a) :
    x.shift = if x.sent + 1 < (x.line a).length then
        { x with sent := x.sent + 1, out := (x.line a)[x.sent]? }
      else ⟨x.period, none, 0, x.receive, 0, some ((x.line a).getD x.sent 0)⟩ := by
  have hout : x.outgoing = (x.line a).drop x.sent := by simp [ConsoleLink.outgoing, h, ConsoleLink.line]
  rcases x.shift_cases with ⟨b, c, bs, hcons, hshift⟩ | ⟨hshort, hshift⟩
  · rw [hout] at hcons
    have hlen := congrArg List.length hcons
    rw [List.length_drop, List.length_cons, List.length_cons] at hlen
    have hhead : (x.line a)[x.sent]? = some b := by
      have := congrArg List.head? hcons
      rwa [List.head?_drop] at this
    rw [hshift, if_pos (by omega), hhead]
  · rw [hout, List.length_drop] at hshort
    have hhead : ((x.line a).drop x.sent).headD 0 = (x.line a).getD x.sent 0 := by
      rw [List.headD_eq_head?_getD, List.head?_drop, List.getD_eq_getElem?_getD]
    rw [hshift, if_neg (by omega), hout, hhead]

/-- R186: what `n + 1` bytes shifted out leave of an answer none of whose bytes had gone. -/
theorem ConsoleLink.iterate_shift {x : ConsoleLink} {a : Answer} (h : x.answer = some a) (hsent : x.sent = 0) (n : Nat) :
    (ConsoleLink.shift^[n + 1] x).period = x.period ∧ (ConsoleLink.shift^[n + 1] x).receive = x.receive ∧
      (ConsoleLink.shift^[n + 1] x).out = some ((x.line a).getD n 0) ∧
      (ConsoleLink.shift^[n + 1] x).answer = (if n + 1 < (x.line a).length then some a else none) ∧
      (n + 1 < (x.line a).length →
        (ConsoleLink.shift^[n + 1] x).sent = n + 1 ∧ (ConsoleLink.shift^[n + 1] x).filler = x.filler) := by
  induction n with
  | zero =>
    rw [Function.iterate_one, ConsoleLink.shift_answer h, hsent]
    split
    · next hlt => exact ⟨rfl, rfl, by rw [List.getD_eq_getElem?_getD, List.getElem?_eq_getElem (by omega)]; rfl, h, fun _ => ⟨rfl, rfl⟩⟩
    · next hge => exact ⟨rfl, rfl, rfl, rfl, fun hlt => absurd hlt hge⟩
  | succ n ih =>
    obtain ⟨hperiod, hreceive, -, hanswer, hrest⟩ := ih
    rw [Function.iterate_succ_apply']
    generalize ConsoleLink.shift^[n + 1] x = y at *
    by_cases hlt : n + 1 < (x.line a).length
    · rw [if_pos hlt] at hanswer
      obtain ⟨hs, hf⟩ := hrest hlt
      have hline : y.line a = x.line a := by rw [ConsoleLink.line, hf, ConsoleLink.line]
      rw [ConsoleLink.shift_answer hanswer, hline, hs]
      split
      · next hlt' =>
        exact ⟨hperiod, hreceive, by rw [List.getD_eq_getElem?_getD, List.getElem?_eq_getElem (by omega)]; rfl, hanswer,
          fun _ => ⟨rfl, hf⟩⟩
      · next hge => exact ⟨hperiod, hreceive, rfl, rfl, fun hlt' => absurd hlt' hge⟩
    · rw [if_neg hlt] at hanswer
      rw [ConsoleLink.shift_idle hanswer, if_neg (by omega)]
      refine ⟨hperiod, hreceive, ?_, rfl, fun hlt' => absurd hlt' (by omega)⟩
      rw [List.getD_eq_default _ _ (by omega)]

/-- R186: in a used select period a byte is ignored, and one is shifted out for it. -/
theorem State.takeByte_ignored {s : State} (hheld : s.resetHeld = false) (hp : s.links.console.period = true) (byte : Byte) :
    s.takeByte .console byte = .next (s.shiftOut .console) := by
  have hears : s.hears .console = false := by simp [State.hears, hp]
  rw [State.takeByte, hheld, hears]
  rfl

theorem State.takeBytes_ignored {s : State} (hheld : s.resetHeld = false) (hp : s.links.console.period = true)
    (bytes : List Byte) :
    s.takeBytes .console bytes = .next (s.withConsole (ConsoleLink.shift^[bytes.length] s.links.console)) := by
  induction bytes generalizing s with
  | nil => rfl
  | cons b bs ih =>
    rw [State.takeBytes_cons (State.takeByte_ignored hheld hp b), List.length_cons, Function.iterate_succ_apply]
    exact ih hheld (s.links.console.shift_period.trans hp)

theorem State.withConsole_onlyChanges (s : State) (x : ConsoleLink) : s.onlyChanges (s.withConsole x) [.links] := by
  rw [State.onlyChanges_iff]
  simp [State.withConsole]

/-! ## The links' events -/

/-- What is written on a UART link alone. -/
theorem State.setUart_leaves (s : State) (l : UartLink) (u : UartState) :
    s.onlyChanges (s.setUart l u) [.links] ∧ (s.setUart l u).uart l = u ∧
      (s.setUart l u).links.console = s.links.console ∧ (∀ m, m ≠ l → (s.setUart l u).uart m = s.uart m) ∧
      ∀ m, (s.setUart l u).flags m = s.flags m := by
  refine ⟨?_, by cases l <;> rfl, by cases l <;> rfl, fun m hm => ?_, fun m => by cases l <;> cases m <;> rfl⟩
  · rw [State.onlyChanges_iff]
    simp
  · cases l <;> cases m
    exacts [absurd rfl hm, rfl, rfl, absurd rfl hm]

theorem State.setReceive_released {s : State} (h : s.resetHeld = false) (l : UartLink) (r : Receive) :
    s.setReceive l r = s.setUart l { s.uart l with receive := r } := if_neg (by simp [h])

theorem exec_badCrcFrame_uart (l : UartLink) (s : State) :
    exec (.badCrcFrame (Link.ofUart l)) s = .next (s.setReceive l .hunting) := by cases l <;> rfl

/-- R183: an answer's frame, where its body has a length. -/
theorem Answer.bytes_of_short {a : Answer} (h : a.body.length ≤ 255) :
    a.bytes = [0x5C, BitVec.ofNat 8 a.body.length] ++ a.body ++ crcBytes (BitVec.ofNat 8 a.body.length :: a.body) := by
  have hframe : a.frame = some (0x5C :: (bytesOf 1 a.body.length ++ a.body) ++ crcBytes (bytesOf 1 a.body.length ++ a.body)) :=
    if_pos h
  rw [Answer.bytes, hframe, bytesOf_one]
  rfl

/-- R186: the last byte of an answer that has not all gone. -/
theorem ConsoleLink.finish_answer {x : ConsoleLink} {a : Answer} (h : x.answer = some a)
    (hsent : x.sent < x.filler + a.bytes.length) (hne : a.bytes ≠ []) : x.finish.out = a.bytes.getLast? := by
  have hout : x.outgoing = (x.line a).drop x.sent := by simp [ConsoleLink.outgoing, h, ConsoleLink.line]
  have hlast : ((x.line a).drop x.sent).getLast? = a.bytes.getLast? := by
    rw [List.getLast?_drop, if_neg (by simp [ConsoleLink.line]; omega), ConsoleLink.line,
      List.getLast?_append_of_ne_nil _ hne]
  have hsome : (a.bytes.getLast?).isSome = true := List.getLast?_isSome.mpr hne
  show x.outgoing.getLast?.or x.out = _
  rw [hout, hlast]
  exact Option.or_of_isSome hsome

/-- Settles O52. -/
theorem linkEventsDiscard : Obligations.LinkEventsDiscard := by
  intro s
  refine ⟨fun hheld => ⟨fun l => ?_, fun l => ⟨?_, ?_, fun byte => ?_⟩, fun l byte => if_pos hheld⟩,
    fun hheld => ⟨fun hp => ⟨?_, State.takeByte_ignored hheld hp, fun a ins last ha hsent => ?_⟩, fun hp => ?_,
      fun l i hi => ?_⟩,
    fun hheld l hroom => ?_, fun l byte hears => ⟨State.takeByte_hunting hears, State.takeByte_begun hears,
      fun size taken hr hlt => State.takeByte_body hears hr hlt,
      fun size taken i hr heq hread => State.takeByte_last hears hr heq hread⟩,
    fun l => by cases l <;> rfl, s.withConsole_onlyChanges _, ⟨s.links.console.shift, rfl, ConsoleLink.shift_idle,
      fun a bytes ha hbytes => ?_⟩,
    fun a h => Answer.bytes_of_short h,
    fun l hr hrec => ⟨fun i r hreq hw hl => ?_, fun code params h => State.takeBytes_turnedAway h hr hrec⟩,
    fun l bytes hr hrec => State.takeBytes_deaf hr hrec bytes,
    ⟨_, rfl, s.withConsole_onlyChanges {}, rfl⟩,
    ⟨_, rfl, s.withConsole_onlyChanges _, rfl, fun ha => ?_, fun a ha hlt hne => ConsoleLink.finish_answer ha hlt hne⟩,
    fun l => ?_⟩
  · cases l
    case console => exact congrArg Host.Outcome.next (if_pos (by simp [hheld]))
    all_goals exact congrArg Host.Outcome.next (if_pos hheld)
  · exact congrArg Host.Outcome.next (if_pos hheld)
  · exact congrArg Host.Outcome.next (if_pos hheld)
  · exact congrArg Host.Outcome.next (if_pos hheld)
  · exact congrArg Host.Outcome.next (if_pos (by simp [hp]))
  · obtain ⟨hperiod, hreceive, hout, hanswer, -⟩ := ConsoleLink.iterate_shift ha hsent ins.length
    have htake := State.takeBytes_ignored hheld hp (ins ++ [last])
    rw [List.length_append, List.length_singleton] at htake
    refine ⟨_, htake, s.withConsole_onlyChanges _, rfl, hperiod.trans hp, hreceive, hout, hanswer.trans ?_⟩
    simp [ConsoleLink.line]
  · have hdiscard : s.consoleDiscard = s.withConsole ⟨true, none, 0, .hunting, 0, some 0⟩ := if_neg (by simp [hheld, hp])
    exact ⟨s.consoleDiscard, rfl, hdiscard ▸ s.withConsole_onlyChanges _, hdiscard ▸ rfl⟩
  · have hset : exec i s = .next (s.setReceive l .hunting) := by
      rcases hi with rfl | rfl | rfl | ⟨byte, rfl, hbyte⟩
      · exact exec_badCrcFrame_uart l s
      · rfl
      · rfl
      · have hopen : ¬ (byte = 0xC5 ∧ s.uartOpen l = true) := by
          rintro ⟨hb, ho⟩
          exact hbyte.elim (fun h => h hb) fun h => by have := ((s.uartOpen_iff l).mp ho).2; omega
        exact congrArg (fun r => Host.Outcome.next (s.setReceive l r)) (if_neg hopen)
    rw [State.setReceive_released hheld] at hset
    exact ⟨_, hset, s.setUart_leaves l _⟩
  · have hset : exec (.uartGapTimeout l 0xC5) s = .next (s.setReceive l .begun) :=
      congrArg (fun r => Host.Outcome.next (s.setReceive l r)) (if_pos ⟨rfl, (s.uartOpen_iff l).mpr ⟨hheld, hroom⟩⟩)
    rw [State.setReceive_released hheld] at hset
    exact ⟨_, hset, s.setUart_leaves l _⟩
  · rw [hbytes]
    exact ConsoleLink.shift_answer ha
  · subst hl
    exact State.takeBytes_request hreq hw hr hrec
  · have hout : s.links.console.outgoing = [] := by simp [ConsoleLink.outgoing, ha]
    show s.links.console.outgoing.getLast?.or s.links.console.out = _
    rw [hout]
    rfl
  · have hdrop : exec (.answerSent (Link.ofUart l)) s = .next (s.dropAnswer l) := by cases l <;> rfl
    rw [State.dropAnswer, ← List.drop_one] at hdrop
    exact ⟨_, hdrop, s.setUart_leaves l _⟩

end Sys2Proof.Machine
end
